-- ==== Sys2Proof/Word.lean ====
section
/-! DEFINITION. The number types of R1, the four-word key, and the fixed-size tables of records. -/

namespace Sys2Proof

/-- A sample, a message byte or an 8-bit stamp (R1, R50, R77). -/
abbrev Byte := BitVec 8

/-- A word of R1: 16 bits, 0..65535. -/
abbrev Word := BitVec 16

/-- A 32-bit number of R1: block, epoch and challenge numbers, the challenge counter. -/
abbrev Long := BitVec 32

/-- A key of four words K1..K4 (R3). -/
structure Key where
  k1 : Word
  k2 : Word
  k3 : Word
  k4 : Word
  deriving DecidableEq, Repr

/-- A table of `n` like records: channels, legs, directory entries, routes, classes, groups, slots. -/
abbrev Table (α : Type) (n : Nat) := Vector α n

/-- A table with the same record in every place. -/
def fillTable {α : Type} (n : Nat) (a : α) : Table α n :=
  ⟨(List.replicate n a).toArray, by simp⟩

end Sys2Proof
end

