-- ==== Sys2Proof/Config.lean ====
section
/-! DEFINITION. The fixed numbers of the part (00_scope.md, "Numbers of the part"; R174; R191). The spec leaves no
value of a record open, so there is no free value here. -/

namespace Sys2Proof.Config

/-- Directory entries 0..511. -/
def entries : Nat := 512
/-- Channels 0..127: port timeslot and paired matrix timeslot (R24). -/
def channels : Nat := 128
/-- Legs 0..47. -/
def legs : Nat := 48
/-- Records the call table holds (R132). -/
def callCapacity : Nat := 96
/-- Route entries 0..63 (R113). -/
def routeEntries : Nat := 64
/-- Classes 0..15 (R110). -/
def classes : Nat := 16
/-- Services 0..31 (R110). -/
def services : Nat := 32
/-- Trunk groups 0..15 (R152). -/
def groups : Nat := 16
/-- Places of the key unit's queue (R38). -/
def jobCapacity : Nat := 32
/-- Slots of the request buffer (R166). -/
def requestSlots : Nat := 4
/-- Places of the report queue (R172). -/
def reportCapacity : Nat := 32
/-- Timeslots of a frame on each highway (R24). -/
def timeslots : Nat := 64
/-- The default idle code (R33, R184, R185). -/
def defaultIdle : Nat := 213
/-- Ticks of 10 ms in one second (R1). -/
def ticksPerSecond : Nat := 100
/-- The part code of IDENTIFY (R191). -/
def partCode : Nat := 23112
/-- The revision of IDENTIFY (R191). -/
def revision : Nat := 1

end Sys2Proof.Config
end

