-- ==== Sys2Proof/Syntax.lean ====
section
/-! DEFINITION. The commands of spec/opcode_table.json, one constructor per row. A request carries its tag and the
fields of its payload as R189 and R190 lay them out, raw: range tests belong to the owning block's rule. -/

namespace Sys2Proof

/-- The form `digits(m)` of R189: a count byte and m digit bytes, of which the first `count` are the string. -/
structure DigitsField where
  count : Byte
  bytes : List Byte
  deriving DecidableEq, Repr

/-- One record of ENROLL (R81, R190): 19 bytes. -/
structure EnrollRecord where
  entry : Word
  number : DigitsField
  cls : Byte
  secure : Byte
  secret : Key
  deriving DecidableEq, Repr

/-- How READ EXTENSION names its entry (R87, R190). -/
inductive ExtensionName where
  | byIndex (entry : Word)
  | byNumber (number : DigitsField)
  deriving DecidableEq, Repr

/-- The fields of WRITE ROUTE after the entry number (R190). `destination` is the byte that carries the group of a
TRUNK route or the service code of a SERVICE route. -/
structure RouteFields where
  low : DigitsField
  high : DigitsField
  kind : Byte
  destination : Byte
  service : Byte
  secureRequired : Byte
  strip : Byte
  insert : DigitsField
  deriving DecidableEq, Repr

/-- One byte received on the control link, with whether its stop bit was present (R164). -/
structure LineByte where
  value : Byte
  stopBit : Bool
  deriving DecidableEq, Repr

/-- The RESET_N pin (R185): held low, or released, when the strap pins are read (R161). -/
inductive ResetPin where
  | held
  | released (straps : BitVec 2)
  deriving DecidableEq, Repr

/-- The frame that a pulse begins (R24, R25): the samples on the port and the matrix receive pins by channel, and how
many timeslots passed before the next accepted pulse: 64 for a whole frame, fewer for a frame cut short, more when
timeslots that belong to no frame came after it. -/
structure FrameSamples where
  slots : Nat
  port : Table Byte 128
  matrix : Table Byte 128
  deriving DecidableEq, Repr

/-- The commands: requests taken at the arrival of their frame, and the events of the link, the highways, the key
unit, the timers and the reset pin. -/
inductive Instr where
  | enroll (tag : Byte) (records : List EnrollRecord)
  | setSecret (tag : Byte) (entry : Word) (secret : Key)
  | remove (tag : Byte) (entry : Word)
  | setClass (tag : Byte) (entry : Word) (cls : Byte)
  | bar (tag : Byte) (entry : Word)
  | unbar (tag : Byte) (entry : Word)
  | readExtension (tag : Byte) (name : ExtensionName)
  | admitBegin (tag : Byte) (entry : Word)
  | admitAnswer (tag : Byte) (entry : Word) (first second : Word)
  | clearLockout (tag : Byte) (entry : Word)
  | withdraw (tag : Byte) (entry : Word)
  | dialStart (tag : Byte) (entry : Word)
  | digit (tag : Byte) (entry : Word) (value : Byte)
  | dialAbort (tag : Byte) (entry : Word)
  | writeClass (tag : Byte) (cls : Byte) (limit : Byte) (legalities : List Byte)
  | readClass (tag : Byte) (cls : Byte)
  | writeRoute (tag : Byte) (route : Byte) (fields : RouteFields)
  | clearRoute (tag : Byte) (route : Byte)
  | readRoute (tag : Byte) (route : Byte)
  | answer (tag : Byte) (call : Word) (channelA channelB : Byte) (tieNumber : Long)
  | hold (tag : Byte) (entry : Word)
  | retrieve (tag : Byte) (entry : Word)
  | swap (tag : Byte) (entry : Word)
  | endCall (tag : Byte) (call : Word)
  | readCall (tag : Byte) (call : Word)
  | writeGroup (tag : Byte) (group kind tieEnd budget : Byte)
  | setTieKey (tag : Byte) (group : Byte) (key : Key)
  | readGroup (tag : Byte) (group : Byte)
  | loopStart (tag : Byte) (channel : Byte) (key : Key)
  | loopStop (tag : Byte) (leg : Byte)
  | readLeg (tag : Byte) (leg : Byte)
  | setDeviceKey (tag : Byte) (key : Key) (counterStart : Long)
  | readKeyUnit (tag : Byte)
  | setParam (tag : Byte) (identifier : Byte) (value : Word)
  | configLock (tag : Byte)
  | alive (tag : Byte) (token : Byte)
  | maintEnter (tag : Byte)
  | maintExit (tag : Byte)
  | restart (tag : Byte)
  | readSupervision (tag : Byte)
  | reportMask (tag : Byte) (mask : List Byte)
  | identify (tag : Byte)
  | hardReset (pin : ResetPin)
  | frameReceived (bytes : List LineByte)
  | gapExpiry
  | transmitComplete
  | framePulse (samples : FrameSamples)
  | frameReferenceLoss
  | frameReferenceRestore (samples : FrameSamples)
  | challengeCompletion
  | checkCompletion
  | tieSessionCompletion
  | epochCompletion
  | jobRetryTick
  | huntTimerExpiry (leg : Nat)
  | admissionWindowExpiry (entry : Nat)
  | lockoutExpiry (entry : Nat)
  | interdigitExpiry (entry : Nat)
  | graceTimerExpiry (call : Nat)
  | silenceTimerExpiry
  deriving DecidableEq, Repr

end Sys2Proof
end

