-- ==== Sys2Proof/Machine/State.lean ====
section
/-! DEFINITION. The records of the nine blocks, the state of the part, and its value right after a hard reset. -/

namespace Sys2Proof.Machine

/-! ### Names the messages carry (R192) -/

/-- The status that answers a request (R192). -/
inductive Status where
  | ok | more | routed | admitted | refusedAnswer | cancelled | badLength | unknownKind | badField | notFound | state
  | locked | writtenOnce | weakKey | duplicate | conflict | busyKeys | noKey | noControl | maintenance | callsPresent
  | channelInUse | channelMismatch | lockedOut | noRoute | barredService | noSuchExtension | selfCall
  | calleeUnavailable | calleeBusy | callLimit | groupFull | secureUnavailable | callTableFull
  deriving DecidableEq, Repr

/-- The reasons and causes that reports carry (R192). -/
inductive Reason where
  | host | barred | syncLost | insecure | withdrawn | incomplete | check | length | gap | expiry | request | pin
  deriving DecidableEq, Repr

/-- The control mode (R176). -/
inductive Mode where
  | normal | standalone | maintenance
  deriving DecidableEq, Repr

/-- The frame reference (R25). -/
inductive FrameReference where
  | lost | present
  deriving DecidableEq, Repr

/-- The two directions of a leg. -/
inductive Direction where
  | outbound | inbound
  deriving DecidableEq, Repr

/-- The direction states as messages name them (R51, R192). -/
inductive DirectionState where
  | wait | run | late | hunt
  deriving DecidableEq, Repr

/-- The secure status of a call (R132). -/
inductive SecureStatus where
  | notSecure | secure | clearByCapacity
  deriving DecidableEq, Repr

/-- The state of a call (R132). -/
inductive CallState where
  | alerting | talking
  deriving DecidableEq, Repr

/-- The B party of a call (R132). -/
inductive BParty where
  | extension (entry : Nat)
  | group (group : Nat)
  | service (code : Nat)
  deriving DecidableEq, Repr

/-- The owner of a leg that is not FREE (R50). -/
inductive Owner where
  | extension (entry : Nat)
  | bSide (call : Nat)
  | tieCall (call : Nat)
  | loopTest
  deriving DecidableEq, Repr

/-! ### Reports and replies (LNK) -/

/-- The reports and their fields (R191). -/
inductive Report where
  | ready (cause : Reason) (mode : Mode) (lock : Bool) (reference : FrameReference)
  | frameLost (legsOpen : Nat)
  | frameRestored
  | legState (leg : Nat) (direction : Direction) (state : DirectionState) (counter : Long)
  | keyLate (leg : Nat) (direction : Direction) (block : Long) (wanted : Long)
  | legFailed (leg : Nat) (owner : Owner) (channel : Nat) (reason : Reason)
  | admitTimeout (entry : Nat) (attempts : Nat) (lockoutSeconds : Nat)
  | lockoutBegin (entry : Nat) (lockoutSeconds : Nat) (level : Nat)
  | lockoutEnd (entry : Nat) (level : Nat) (cause : Reason)
  | withdrawn (entry : Nat) (reason : Reason) (calls : Nat)
  | dialTimeout (entry : Nat) (digits : Nat) (reason : Reason)
  | callEnded (call : Nat) (reason : Reason) (a : Nat) (b : BParty) (state : CallState)
  | callSecure (call : Nat) (status : SecureStatus) (requiresSecure : Bool)
  | frameDiscarded (reason : Reason) (length : Byte)
  | requestDiscarded (kind : Byte) (tag : Byte)
  | quietRefused (kind : Byte) (status : Status)
  | standaloneEntered (entries : Nat)
  | standaloneLeft (token : Byte)
  deriving DecidableEq, Repr

/-- A report in the queue, with the lost flag it carries (R172). -/
structure QueuedReport where
  report : Report
  lost : Bool
  deriving DecidableEq, Repr

/-- A formed reply (R170, R191): the slot its request holds (none once a RESTART has emptied the slot), its kind, tag,
status and the body after the status byte. -/
structure Reply where
  slot : Option Nat
  kind : Byte
  tag : Byte
  status : Status
  body : List Byte
  deriving DecidableEq, Repr

/-- The frame in transmission (R171). -/
inductive Sending where
  | reply (reply : Reply)
  | report (report : QueuedReport)
  deriving DecidableEq, Repr

/-- A request in its slot (R166). `awaiting` is the directory entry whose deferred reply is still owed. -/
structure HeldRequest where
  kind : Byte
  tag : Byte
  awaiting : Option Nat
  deriving DecidableEq, Repr

/-- The receiver's framing state (R163): `body` and `check` hold the length byte and the bytes kept, in order. -/
inductive Receiver where
  | waitStart
  | length
  | body (len : Byte) (kept : List Byte)
  | check (len : Byte) (kept : List Byte)
  deriving DecidableEq, Repr

/-! ### Highways (HWY) -/

/-- An entry of the channel table (R26). -/
inductive Routing where
  | clear
  | leg (k : Nat)
  deriving DecidableEq, Repr

/-! ### Key unit (KEY) -/

/-- A queued job: kind, inputs copied when it was queued, requester and stamp (R39). -/
inductive Job where
  | challenge (deviceKey : Key) (n : Long) (entry : Nat) (stamp : Byte)
  | check (secret : Key) (c : Long) (first second : Word) (entry : Nat) (stamp : Byte)
  | tieSession (tieKey : Key) (t : Long) (leg : Nat) (stamp : Byte)
  | epoch (sk : Key) (e : Long) (leg : Nat) (direction : Direction) (stamp : Byte)
  deriving DecidableEq, Repr

/-! ### Legs (LEG) -/

/-- An epoch number with its epoch key (R51). -/
structure EpochKey where
  epoch : Long
  key : Key
  deriving DecidableEq, Repr

/-- The keys and the job marks of a direction (R51). -/
structure DirectionKeys where
  active : Option EpochKey
  standby : Option EpochKey
  wanted : Option Long
  outstanding : Bool
  marked : Bool
  deriving DecidableEq, Repr

/-- The states of an outbound direction (R51). -/
inductive OutState where
  | wait | run | late
  deriving DecidableEq, Repr

/-- The states of an inbound direction (R51). -/
inductive InState where
  | hunt | run | late
  deriving DecidableEq, Repr

/-- The block being emitted, with its eight block words when it was keyed (R51, R60). -/
structure Emission where
  block : Long
  words : Option (List Word)
  deriving DecidableEq, Repr

/-- The outbound direction record (R51). The position is the number of samples in `filling`. -/
structure Outbound where
  state : OutState
  keys : DirectionKeys
  counter : Long
  filling : List Byte
  draining : List Byte
  emission : Option Emission
  deriving DecidableEq, Repr

/-- A running timer: the ticks that it has still to count. `partway` tells that it was set inside the tick period that has not
ended yet, so that the tick which ends this period is no whole tick after the setting and does not count (R1). -/
structure TimerCount where
  ticks : Nat
  partway : Bool
  deriving DecidableEq, Repr

/-- The inbound direction record (R51). The position is the number of samples in `filling`; `skip` counts the samples
13 to 15 of an adopted sync slot still to be discarded (R62); `bound` is the key bound to the block being received. -/
structure Inbound where
  state : InState
  keys : DirectionKeys
  counter : Long
  skip : Nat
  filling : List Byte
  bound : Option Key
  draining : List Byte
  delivery : Option Long
  lastSegment7 : Option (List Byte)
  history : List Byte
  misses : Nat
  hunt : Option TimerCount
  deriving DecidableEq, Repr

/-- What a leg holds only while it is OPEN (R50). `outD` and `inD` are the stream constants of R11. -/
structure OpenLeg where
  channel : Nat
  sk : Option Key
  sessionOutstanding : Bool
  sessionWanted : Bool
  outD : Nat
  inD : Nat
  out : Outbound
  inb : Inbound
  deriving DecidableEq, Repr

/-- FREE, RESERVED or OPEN, with what each state holds (R50). -/
inductive LegUse where
  | free
  | reserved (owner : Owner)
  | opened (owner : Owner) (record : OpenLeg)
  deriving DecidableEq, Repr

/-- A leg record (R50): the open stamp and the use. -/
structure Leg where
  stamp : Byte
  use : LegUse
  deriving DecidableEq, Repr

/-! ### Directory (DIR) -/

/-- The state of a directory entry (R78). -/
inductive EntryState where
  | vacant | enrolled | challenged | checking | admitted | lockedOut | barred
  deriving DecidableEq, Repr

/-- What an entry's timer times (R77). -/
inductive TimerKind where
  | window | lockout
  deriving DecidableEq, Repr

/-- A running entry timer with its count. -/
structure EntryTimer where
  kind : TimerKind
  count : TimerCount
  deriving DecidableEq, Repr

/-- A call on an extension's stack, with its held mark (R133). -/
structure StackItem where
  call : Nat
  held : Bool
  deriving DecidableEq, Repr

/-- A directory entry (R77). The stack is top first. -/
structure Entry where
  state : EntryState
  number : List Nat
  cls : Nat
  secure : Bool
  secret : Option Key
  secretUsed : Bool
  attempts : Nat
  level : Nat
  stamp : Byte
  pending : Option Long
  sk : Option Key
  timer : Option EntryTimer
  register : List Nat
  screening : Bool
  interdigit : Option TimerCount
  stack : List StackItem
  ownedLeg : Option Nat
  deriving DecidableEq, Repr

/-- The entry of a hard reset: VACANT with nothing held (R90). -/
def Entry.vacant : Entry where
  state := .vacant
  number := []
  cls := 0
  secure := false
  secret := none
  secretUsed := false
  attempts := 0
  level := 0
  stamp := 0
  pending := none
  sk := none
  timer := none
  register := []
  screening := false
  interdigit := none
  stack := []
  ownedLeg := none

/-! ### Screening (SCR) -/

/-- The legality of a service for a class (R110). -/
inductive Legality where
  | barred | allowed | secureOnly
  deriving DecidableEq, Repr

/-- A class record (R110). -/
structure ClassRecord where
  limit : Nat
  legalities : Table Legality 32
  deriving DecidableEq, Repr

/-- The kind of a route with its destination (R113). -/
inductive RouteKind where
  | localCall
  | trunk (group : Nat)
  | service (code : Nat)
  deriving DecidableEq, Repr

/-- An occupied route entry (R113). -/
structure Route where
  low : List Nat
  high : List Nat
  kind : RouteKind
  service : Nat
  secureRequired : Bool
  strip : Nat
  insert : List Nat
  deriving DecidableEq, Repr

/-! ### Calls and groups (CAL) -/

/-- A call record (R132). Its routing order is its place in the call table. -/
structure Call where
  ref : Nat
  a : Nat
  b : BParty
  forwarded : List Nat
  tieNumber : Option Long
  tieLeg : Option Nat
  service : Nat
  state : CallState
  requiresSecure : Bool
  status : SecureStatus
  bReservation : Option Nat
  grace : Option TimerCount
  deriving DecidableEq, Repr

/-- The kind of a trunk group (R152). -/
inductive GroupKind where
  | plain | tie
  deriving DecidableEq, Repr

/-- The end of a tie line (R152). -/
inductive TieEnd where
  | a | b
  deriving DecidableEq, Repr

/-- A trunk group record (R152). -/
structure Group where
  kind : GroupKind
  tieEnd : TieEnd
  budget : Nat
  active : Nat
  tieKey : Option Key
  tieKeyUsed : Bool
  deriving DecidableEq, Repr

/-! ### Supervision (SUP) -/

/-- The eleven parameters (00_scope.md "Parameters", R184). -/
structure Params where
  idleCode : Nat
  syncPeriod : Nat
  missLimit : Nat
  huntLimit : Nat
  epochLength : Nat
  windowChoice : Nat
  attemptLimit : Nat
  lockoutBase : Nat
  interdigitTime : Nat
  secureGrace : Nat
  silenceInterval : Nat
  deriving DecidableEq, Repr

/-- The silence timer (R178): a count that runs while RUNNING, and the ticks kept while PAUSED. -/
inductive SilenceTimer where
  | stopped
  | running (count : TimerCount)
  | paused (ticks : Nat)
  deriving DecidableEq, Repr

/-! ### The part -/

/-- The state of the part: the RESET_N pin (R185), then LNK, HWY, KEY, LEG, DIR, SCR, CAL and SUP in this order, and the
queue of commands that wait to be taken (the model's own field). -/
structure State where
  resetHeld : Bool
  strapCode : BitVec 2
  receiver : Receiver
  requestBuffer : Table (Option HeldRequest) 4
  replyQueue : List Reply
  reportQueue : List QueuedReport
  lostFlag : Bool
  reportMask : BitVec 32
  transmitting : Option Sending
  frameReference : FrameReference
  watchRunning : Bool
  channelTable : Table Routing 128
  routedAs : Table Routing 128
  heldInbound : Table (Option Byte) 128
  heldOutbound : Table (Option Byte) 128
  portTransmit : Table (Option Byte) 128
  matrixTransmit : Table (Option Byte) 128
  afterFrame : List Byte
  jobs : List Job
  deviceKey : Option Key
  challengeCounter : Long
  legs : Table Leg 48
  directory : Table Entry 512
  classes : Table ClassRecord 16
  routes : Table (Option Route) 64
  calls : List Call
  referenceCounter : Nat
  groups : Table Group 16
  mode : Mode
  lock : Bool
  params : Params
  silenceUsed : Bool
  deviceKeyUsed : Bool
  silence : SilenceTimer
  lastToken : Option Byte
  pending : List Instr
  deriving DecidableEq, Repr

/-- No command of the part faults: every request is answered by a status, and no rule stops the part. A closed type
without constructors, so that a fault cannot be answered. -/
inductive Fault where
  deriving DecidableEq, Repr

/-- Why a command has no meaning. -/
inductive Refusal where
  /-- Raised by an arm of `exec` whose command has no meaning yet (safe: nothing is claimed of it). No arm is left so. -/
  | notModelled (mnemonic : String)
  deriving DecidableEq, Repr

/-- The parameter defaults of a hard reset (R188). -/
def Params.default : Params where
  idleCode := Config.defaultIdle
  syncPeriod := 64
  missLimit := 3
  huntLimit := 10
  epochLength := 3750
  windowChoice := 1
  attemptLimit := 3
  lockoutBase := 60
  interdigitTime := 8
  secureGrace := 5
  silenceInterval := 0

/-- A leg at a hard reset (R76). -/
def Leg.atReset : Leg where
  stamp := 0
  use := .free

/-- A class record at a hard reset (R131). -/
def ClassRecord.atReset : ClassRecord where
  limit := 1
  legalities := fillTable 32 .barred

/-- A trunk group at a hard reset (R160). -/
def Group.atReset : Group where
  kind := .plain
  tieEnd := .a
  budget := 0
  active := 0
  tieKey := none
  tieKeyUsed := false

/-- The part right after the release of a hard reset with the given strap pins (R185, with the reset tables R36, R49,
R76, R90, R131, R151, R160, R175, R188). READY with cause PIN has been queued, and the idle transmitter has taken it
(R171). -/
def State.afterHardReset (straps : BitVec 2) : State where
  resetHeld := false
  strapCode := straps
  receiver := .waitStart
  requestBuffer := fillTable 4 none
  replyQueue := []
  reportQueue := []
  lostFlag := false
  reportMask := BitVec.allOnes 32
  transmitting := some (.report ⟨.ready .pin .normal false .lost, false⟩)
  frameReference := .lost
  watchRunning := false
  channelTable := fillTable 128 .clear
  routedAs := fillTable 128 .clear
  heldInbound := fillTable 128 none
  heldOutbound := fillTable 128 none
  portTransmit := fillTable 128 (some 213)
  matrixTransmit := fillTable 128 (some 213)
  afterFrame := []
  jobs := []
  deviceKey := none
  challengeCounter := 0
  legs := fillTable 48 Leg.atReset
  directory := fillTable 512 Entry.vacant
  classes := fillTable 16 ClassRecord.atReset
  routes := fillTable 64 none
  calls := []
  referenceCounter := 1
  groups := fillTable 16 Group.atReset
  mode := .normal
  lock := false
  params := Params.default
  silenceUsed := false
  deviceKeyUsed := false
  silence := .stopped
  lastToken := none
  pending := []

/-- The machine right after reset. The strap pins are inputs the spec gives no value: DESIGN CHOICE strap code 0
(115,200 baud), log 2; HARD_RESET takes any. -/
def State.reset : State := State.afterHardReset 0

end Sys2Proof.Machine
end

