-- ==== Sys2Proof/Machine/Operands.lean ====
section
/-! DEFINITION. The fields and numeric values of messages: R162 (frames), R189 (field encodings), R191 (reports) and
R192 (numeric values). -/

namespace Sys2Proof.Machine

/-! ### Field encodings sent (R189) -/

/-- One byte from a number. -/
def byteOf (n : Nat) : Byte := BitVec.ofNat 8 n

/-- A word, most significant byte first. -/
def wordBytes (n : Nat) : List Byte := [byteOf (n / 256), byteOf n]

/-- A long, most significant byte first. -/
def longBytes (n : Nat) : List Byte := [byteOf (n / 16777216), byteOf (n / 65536), byteOf (n / 256), byteOf n]

/-- A flag: 0 no, 1 yes. -/
def flagByte (b : Bool) : Byte := if b then 1 else 0

/-- A leg or channel that may not apply: 255 then. -/
def placeByte (k : Option Nat) : Byte := byteOf (k.getD 255)

/-- `digits(m)`: the count, the digits, and zeros up to m digit bytes. -/
def digitsBytes (m : Nat) (digits : List Nat) : List Byte :=
  byteOf digits.length :: (digits.map byteOf ++ List.replicate (m - digits.length) 0)

/-- Ticks in a word: all ones means stopped. -/
def ticksWord (t : Option Nat) : List Byte := wordBytes (t.getD 65535)

/-- The ticks remaining of a timer, in a word. -/
def countWord (t : Option TimerCount) : List Byte := ticksWord (t.map TimerCount.ticks)

/-- The ticks remaining of a timer, in a long: all ones means stopped. -/
def countLong (t : Option TimerCount) : List Byte := longBytes ((t.map TimerCount.ticks).getD 4294967295)

/-- Presence and long: the long is 0 when absent. -/
def presenceLong (n : Option Long) : List Byte := flagByte n.isSome :: longBytes ((n.map BitVec.toNat).getD 0)

/-! ### Field encodings received (R189) -/

/-- A flag byte, or nothing for a value other than 0 and 1. -/
def flagOf (b : Byte) : Option Bool := if b = 0 then some false else if b = 1 then some true else none

/-- The digit string of a digits field whose count lies from `lo` to `hi` and whose counted bytes are digits. -/
def digitsOf (lo hi : Nat) (f : DigitsField) : Option (List Nat) :=
  let n := f.count.toNat
  let digits := (f.bytes.take n).map BitVec.toNat
  if lo ≤ n ∧ n ≤ hi ∧ digits.length = n ∧ digits.all (· ≤ 9) then some digits else none

/-- The value of a digit string (R1). -/
def digitsValue (digits : List Nat) : Nat := digits.foldl (fun v d => 10 * v + d) 0

/-- A channel byte of ANSWER: 255 means none (R189). -/
def channelOf (b : Byte) : Option Nat := if b = 255 then none else some b.toNat

/-- A legality byte (R192). -/
def legalityOf (b : Byte) : Option Legality :=
  if b = 0 then some .barred else if b = 1 then some .allowed else if b = 2 then some .secureOnly else none

/-! ### Numeric values (R192) -/

/-- The value of a status (R192). -/
def Status.code : Status → Byte
  | .ok => 0
  | .more => 1
  | .routed => 2
  | .admitted => 3
  | .refusedAnswer => 4
  | .cancelled => 5
  | .badLength => 6
  | .unknownKind => 7
  | .badField => 8
  | .notFound => 9
  | .state => 10
  | .locked => 11
  | .writtenOnce => 12
  | .weakKey => 13
  | .duplicate => 14
  | .conflict => 15
  | .busyKeys => 16
  | .noKey => 17
  | .noControl => 18
  | .maintenance => 19
  | .callsPresent => 20
  | .channelInUse => 21
  | .channelMismatch => 22
  | .lockedOut => 23
  | .noRoute => 24
  | .barredService => 25
  | .noSuchExtension => 26
  | .selfCall => 27
  | .calleeUnavailable => 28
  | .calleeBusy => 29
  | .callLimit => 30
  | .groupFull => 31
  | .secureUnavailable => 32
  | .callTableFull => 33

/-- The value of a reason or cause (R192). -/
def Reason.code : Reason → Byte
  | .host => 1
  | .barred => 2
  | .syncLost => 3
  | .insecure => 4
  | .withdrawn => 5
  | .incomplete => 6
  | .check => 7
  | .length => 8
  | .gap => 9
  | .expiry => 10
  | .request => 11
  | .pin => 12

/-- The value of an entry state (R192). -/
def EntryState.code : EntryState → Byte
  | .vacant => 0
  | .enrolled => 1
  | .challenged => 2
  | .checking => 3
  | .admitted => 4
  | .lockedOut => 5
  | .barred => 6

/-- The value of the kind of an entry's timer, 0 for none (R192). -/
def timerKindCode : Option EntryTimer → Byte
  | none => 0
  | some ⟨.window, _⟩ => 1
  | some ⟨.lockout, _⟩ => 2

/-- The value of a legality (R192). -/
def Legality.code : Legality → Byte
  | .barred => 0
  | .allowed => 1
  | .secureOnly => 2

/-- The value of a route kind (R192). -/
def RouteKind.code : RouteKind → Byte
  | .localCall => 0
  | .trunk _ => 1
  | .service _ => 2

/-- The group byte or service code byte of a route, 0 for a LOCAL route (R189, R190). -/
def RouteKind.destinationByte : RouteKind → Byte
  | .localCall => 0
  | .trunk g => byteOf g
  | .service c => byteOf c

/-- The value of a group kind (R192). -/
def GroupKind.code : GroupKind → Byte
  | .plain => 0
  | .tie => 1

/-- The value of a tie end (R192). -/
def TieEnd.code : TieEnd → Byte
  | .a => 0
  | .b => 1

/-- The value of the kind of a B party (R192). -/
def BParty.kindCode : BParty → Byte
  | .extension _ => 0
  | .group _ => 1
  | .service _ => 2

/-- The number of a B party: entry index, group or service code (R191). -/
def BParty.number : BParty → Nat
  | .extension i => i
  | .group g => g
  | .service c => c

/-- The value of a call state (R192). -/
def CallState.code : CallState → Byte
  | .alerting => 0
  | .talking => 1

/-- The value of a secure status (R192). -/
def SecureStatus.code : SecureStatus → Byte
  | .notSecure => 0
  | .secure => 1
  | .clearByCapacity => 2

/-- The value of a leg state (R192). -/
def LegUse.code : LegUse → Byte
  | .free => 0
  | .reserved _ => 1
  | .opened _ _ => 2

/-- The value of an owner kind (R192). -/
def Owner.code : Owner → Byte
  | .extension _ => 1
  | .bSide _ => 2
  | .tieCall _ => 3
  | .loopTest => 4

/-- The owner number: entry index or call reference, 0 for the loop test (R191). -/
def Owner.number : Owner → Nat
  | .extension i => i
  | .bSide c => c
  | .tieCall c => c
  | .loopTest => 0

/-- The value of a direction (R192). -/
def Direction.code : Direction → Byte
  | .outbound => 0
  | .inbound => 1

/-- The value of a direction state (R192). -/
def DirectionState.code : DirectionState → Byte
  | .wait => 1
  | .run => 2
  | .late => 3
  | .hunt => 4

/-- An outbound state under its message name. -/
def OutState.named : OutState → DirectionState
  | .wait => .wait
  | .run => .run
  | .late => .late

/-- An inbound state under its message name. -/
def InState.named : InState → DirectionState
  | .hunt => .hunt
  | .run => .run
  | .late => .late

/-- The value of a control mode (R192). -/
def Mode.code : Mode → Byte
  | .normal => 0
  | .standalone => 1
  | .maintenance => 2

/-- The value of a frame reference state (R192). -/
def FrameReference.code : FrameReference → Byte
  | .lost => 0
  | .present => 1

/-- The value of a silence timer state (R192). -/
def SilenceTimer.code : SilenceTimer → Byte
  | .stopped => 0
  | .running _ => 1
  | .paused _ => 2

/-- The ticks remaining on the silence timer when RUNNING or PAUSED (R187). -/
def SilenceTimer.ticks? : SilenceTimer → Option Nat
  | .stopped => none
  | .running c => some c.ticks
  | .paused n => some n

/-! ### Reports (R191) -/

/-- The kind of a report (R191). -/
def Report.kind : Report → Nat
  | .ready .. => 128
  | .frameLost .. => 129
  | .frameRestored => 130
  | .legState .. => 131
  | .keyLate .. => 132
  | .legFailed .. => 133
  | .admitTimeout .. => 134
  | .lockoutBegin .. => 135
  | .lockoutEnd .. => 136
  | .withdrawn .. => 137
  | .dialTimeout .. => 138
  | .callEnded .. => 139
  | .callSecure .. => 140
  | .frameDiscarded .. => 141
  | .requestDiscarded .. => 142
  | .quietRefused .. => 143
  | .standaloneEntered .. => 144
  | .standaloneLeft .. => 145

/-- The fields of a report after the lost flag (R191). -/
def Report.fields : Report → List Byte
  | .ready cause mode lock reference => [cause.code, mode.code, flagByte lock, reference.code]
  | .frameLost n => [byteOf n]
  | .frameRestored => []
  | .legState k d st n => [byteOf k, d.code, st.code] ++ longBytes n.toNat
  | .keyLate k d n e => [byteOf k, d.code] ++ longBytes n.toNat ++ longBytes e.toNat
  | .legFailed k owner c reason => [byteOf k, owner.code] ++ wordBytes owner.number ++ [byteOf c, reason.code]
  | .admitTimeout i n secs => wordBytes i ++ [byteOf n] ++ wordBytes secs
  | .lockoutBegin i secs level => wordBytes i ++ wordBytes secs ++ [byteOf level]
  | .lockoutEnd i level cause => wordBytes i ++ [byteOf level, cause.code]
  | .withdrawn i reason n => wordBytes i ++ [reason.code, byteOf n]
  | .dialTimeout i n reason => wordBytes i ++ [byteOf n, reason.code]
  | .callEnded r reason a b st =>
    wordBytes r ++ [reason.code] ++ wordBytes a ++ [b.kindCode] ++ wordBytes b.number ++ [st.code]
  | .callSecure r st req => wordBytes r ++ [st.code, flagByte req]
  | .frameDiscarded reason len => [reason.code, len]
  | .requestDiscarded kind tag => [kind, tag]
  | .quietRefused kind st => [kind, st.code]
  | .standaloneEntered n => wordBytes n
  | .standaloneLeft token => [token]

/-! ### Frames (R162) -/

/-- The check byte: with it the length, kind, tag and payload sum to 0 mod 256 (R162). -/
def checkByte (bytes : List Byte) : Byte := - bytes.foldl (· + ·) 0

/-- A frame from its kind, tag and payload (R162). -/
def frameBytes (kind tag : Byte) (payload : List Byte) : List Byte :=
  let counted := byteOf (payload.length + 2) :: kind :: tag :: payload
  165 :: counted ++ [checkByte counted]

/-- The bytes the transmitter sends for a reply or a report: a reply's payload begins with its status, a report has tag
0 and its payload begins with the lost flag (R162, R191). -/
def Sending.bytes : Sending → List Byte
  | .reply r => frameBytes r.kind r.tag (r.status.code :: r.body)
  | .report q => frameBytes (byteOf q.report.kind) 0 (flagByte q.lost :: q.report.fields)

end Sys2Proof.Machine
end

