-- ==== Sys2Proof/Machine/Scramble.lean ====
section
/-! DEFINITION. The scrambling scheme of 01_the_scrambling_scheme.md: the generator and its uses, the block
permutation, the masks, the sync slot, the hold fill and the epochs. Pure arithmetic; no record is touched. -/

namespace Sys2Proof.Machine

/-! ### The multiply and the generator -/

/-- A word as the residue it stands for in a Multiply: 0 stands for 65536 (R2). -/
def residue (a : Word) : Nat := if a = 0 then 65536 else a.toNat

/-- Multiply modulo 65537, a product of 65536 written as the word 0 (R2). -/
def multiply (a b : Word) : Word := BitVec.ofNat 16 (residue a * residue b % 65537)

/-- The outputs of the rounds numbered from `j` on, `fuel` of them, from the words x and y (R4). -/
def generatorRounds (key : Key) : (fuel : Nat) → (j : Nat) → (x y : Word) → List Word
  | 0, _, _, _ => []
  | fuel + 1, j, x, y =>
    let x' := multiply x key.k3
    let y' := y + x' + key.k4 + BitVec.ofNat 16 j
    (x' + y') :: generatorRounds key fuel (j + 1) x' y'

/-- A run of the generator G(K, n, D): the eight words g_0 to g_7 (R3, R4). -/
def generator (key : Key) (n : Long) (d : Nat) : List Word :=
  generatorRounds key 8 0
    (BitVec.ofNat 16 (n.toNat % 65536) + key.k1 + BitVec.ofNat 16 (257 * d))
    (BitVec.ofNat 16 (n.toNat / 65536) + key.k2)

/-- Word g_j of a run. -/
def wordOf (g : List Word) (j : Nat) : Word := g.getD j 0

/-! ### Keys -/

/-- A key the host loads is weak when its third word is 0 or 1 (R5). -/
def weakKey (key : Key) : Bool := decide (key.k3.toNat < 2)

/-- The third word of a derived key, raised by 2 when it is below 2 (R6). -/
def raised (w : Word) : Word := if w.toNat < 2 then w + 2 else w

/-- A derived key from four output words (R6). -/
def derivedKey (w1 w2 w3 w4 : Word) : Key := ⟨w1, w2, raised w3, w4⟩

/-- The challenge words c1 and c2 of challenge number `n` (R7). -/
def challengeWords (deviceKey : Key) (n : Long) : Word × Word :=
  let g := generator deviceKey n 4
  (wordOf g 0, wordOf g 1)

/-- The pending challenge number C = c1 + 65536 × c2 (R7). -/
def challengeNumber (c1 c2 : Word) : Long := BitVec.ofNat 32 (c1.toNat + 65536 * c2.toNat)

/-- Whether the set's two answer words match the expected answer (R8). -/
def answerMatches (secret : Key) (c : Long) (first second : Word) : Bool :=
  let g := generator secret c 2
  decide (first = wordOf g 0 ∧ second = wordOf g 1)

/-- The session key of an admission (R8). -/
def sessionKey (secret : Key) (c : Long) : Key :=
  let g := generator secret c 2
  derivedKey (wordOf g 2) (wordOf g 3) (wordOf g 4) (wordOf g 5)

/-- The session key of a tie call (R9). -/
def tieSessionKey (tieKey : Key) (t : Long) : Key :=
  let g := generator tieKey t 5
  derivedKey (wordOf g 0) (wordOf g 1) (wordOf g 2) (wordOf g 3)

/-- The epoch key of epoch `e` under a session key (R10). -/
def epochKey (sk : Key) (e : Long) : Key :=
  let g := generator sk e 3
  derivedKey (wordOf g 0) (wordOf g 1) (wordOf g 2) (wordOf g 3)

/-- The block words of block `n` under an epoch key and a stream constant (R11). -/
def blockWords (key : Key) (n : Long) (d : Nat) : List Word := generator key n d

/-! ### The permutation and the masks -/

/-- Draws the permutation: each word picks an entry of the remaining list (R13). -/
def drawPermutation : List Word → List Nat → List Nat
  | [], _ => []
  | g :: gs, remaining =>
    let r := g.toNat % remaining.length
    remaining.getD r 0 :: drawPermutation gs (remaining.eraseIdx r)

/-- The permutation (p_0, …, p_7) of a block: slot j carries segment p_j (R13). -/
def permutation (words : List Word) : List Nat := drawPermutation words [0, 1, 2, 3, 4, 5, 6, 7]

/-- The odd step s_j of a slot's masks (R14). -/
def maskStep (g : Word) : Nat :=
  let s := g.toNat % 256
  if s % 2 = 0 then s + 1 else s

/-- The mask of sample `i` of the slot with block word `g` (R14). -/
def mask (g : Word) (i : Nat) : Byte := BitVec.ofNat 8 (g.toNat / 256 + i * maskStep g)

/-! ### The sync slot -/

/-- Whether block `n` is a sync block under sync period `p` (R17). -/
def isSyncBlock (p : Nat) (n : Long) : Bool := n.toNat % p == 0

/-- The marker of the sync slot (R17). -/
def syncMarker : List Byte := [23, 201, 88, 146, 7, 240, 61, 178]

/-- The four samples that carry a block number, most significant first (R17). -/
def blockNumberSamples (n : Long) : List Byte :=
  [BitVec.ofNat 8 (n.toNat / 16777216), BitVec.ofNat 8 (n.toNat / 65536), BitVec.ofNat 8 (n.toNat / 256),
    BitVec.ofNat 8 n.toNat]

/-- The check sample: with it samples 8 to 12 sum to 0 mod 256 (R17). -/
def syncCheckSample (n : Long) : Byte := - (blockNumberSamples n).foldl (· + ·) 0

/-- The sixteen samples of the sync slot of block `n` (R17). -/
def syncSlot (n : Long) (idle : Byte) : List Byte :=
  syncMarker ++ blockNumberSamples n ++ [syncCheckSample n, idle, idle, idle]

/-- The number four samples carry, most significant first (R18). -/
def carriedNumber (t : List Byte) : Long :=
  BitVec.ofNat 32 ((t.getD 0 0).toNat * 16777216 + (t.getD 1 0).toNat * 65536 + (t.getD 2 0).toNat * 256
    + (t.getD 3 0).toNat)

/-- The block number n_rx that 13 samples carry when they are a valid sync pattern under period `p` (R18). -/
def validSync (p : Nat) (t : List Byte) : Option Long :=
  let n := carriedNumber (t.drop 8)
  if t.length = 13 ∧ t.take 8 = syncMarker ∧ (t.drop 8).foldl (· + ·) 0 = 0 ∧ isSyncBlock p n then some n else none

/-! ### Scrambling and descrambling -/

/-- The sample a scrambler sends at position `q` of block `n`: the sync slot in slot 7 of a sync block, else the masked
sample of the segment the slot carries (R15, R17). -/
def scrambledSample (words : List Word) (n : Long) (p : Nat) (idle : Byte) (clear : List Byte) (q : Nat) : Byte :=
  let j := q / 16
  let i := q % 16
  if isSyncBlock p n && j == 7 then (syncSlot n idle).getD i 0
  else clear.getD (16 * (permutation words).getD j 0 + i) 0 + mask (wordOf words j) i

/-- The samples of segment `k` recovered from a received block (R16). -/
def recoveredSegment (words : List Word) (received : List Byte) (k : Nat) : List Byte :=
  let j := (permutation words).idxOf k
  (List.range 16).map (fun i => received.getD (16 * j + i) 0 - mask (wordOf words j) i)

/-- The hold fill of a sync block's missing segment (R19): the segment before it in the block, or segment 7 of the block
delivered before, or the idle code. -/
def holdFill (words : List Word) (received : List Byte) (lastSegment7 : Option (List Byte)) (idle : Byte)
    (missing : Nat) : List Byte :=
  if missing = 0 then lastSegment7.getD (List.replicate 16 idle) else recoveredSegment words received (missing - 1)

/-- The 128 clear samples of a received block (R16, R19). -/
def recoverBlock (words : List Word) (n : Long) (p : Nat) (idle : Byte) (lastSegment7 : Option (List Byte))
    (received : List Byte) : List Byte :=
  let missing := (permutation words).getD 7 0
  [0, 1, 2, 3, 4, 5, 6, 7].flatMap (fun k =>
    if isSyncBlock p n && k == missing then holdFill words received lastSegment7 idle missing
    else recoveredSegment words received k)

/-! ### Epochs -/

/-- The epoch of block `n` under epoch length `r` (R20). -/
def epochOf (r : Nat) (n : Long) : Long := BitVec.ofNat 32 (n.toNat / r)

/-- The epoch following `e`: after the last epoch before the wrap, epoch 0 (R20, R21). -/
def followingEpoch (r : Nat) (e : Long) : Long := if e.toNat = 4294967295 / r then 0 else e + 1

end Sys2Proof.Machine
end

