-- ==== Sys2Proof/Machine/Tables.lean ====
section
/-! DEFINITION. Reading and writing the tables of records. A place outside a table reads as the given default and a
write to it changes nothing. -/

namespace Sys2Proof.Machine

/-- The record at place `i`, or `d` when the table has no such place. -/
def readAt {α : Type} {n : Nat} (t : Table α n) (d : α) (i : Nat) : α := t.toList.getD i d

/-- The table with place `i` replaced. -/
def writeAt {α : Type} {n : Nat} (t : Table α n) (i : Nat) (a : α) : Table α n :=
  ⟨(t.toList.set i a).toArray, by simp⟩

/-- The table with every record passed through `f`. -/
def mapTable {α β : Type} {n : Nat} (f : α → β) (t : Table α n) : Table β n :=
  ⟨(t.toList.map f).toArray, by simp⟩

/-- The table of `n` records taken from a list, `d` where the list has none. -/
def tableOfList {α : Type} (n : Nat) (d : α) (l : List α) : Table α n :=
  ⟨((List.range n).map (fun i => l.getD i d)).toArray, by simp⟩

/-- The places, counted from `i`, of the records that satisfy `p`. -/
def placesFrom {α : Type} (p : α → Bool) : Nat → List α → List Nat
  | _, [] => []
  | i, a :: l => if p a then i :: placesFrom p (i + 1) l else placesFrom p (i + 1) l

/-- The places of the records that satisfy `p`, lowest first. -/
def places {α : Type} {n : Nat} (p : α → Bool) (t : Table α n) : List Nat := placesFrom p 0 t.toList

/-- The lowest place whose record satisfies `p`. -/
def lowest {α : Type} {n : Nat} (p : α → Bool) (t : Table α n) : Option Nat := (places p t).head?

end Sys2Proof.Machine
end

