-- ==== Sys2Proof/Machine/Ops.lean ====
section
/-! DEFINITION. The named operations over the records that every family of commands shares: reading and replacing a
record, queueing reports and replies, the transmitter, the deferred replies, and the key unit's queue. -/

namespace Sys2Proof.Machine

/-! ### Reading and replacing one record -/

/-- Directory entry `i` (R77). -/
def State.entry (s : State) (i : Nat) : Entry := readAt s.directory Entry.vacant i

/-- The state with directory entry `i` replaced. -/
def State.setEntry (s : State) (i : Nat) (e : Entry) : State := { s with directory := writeAt s.directory i e }

/-- Leg record `k` (R50). -/
def State.leg (s : State) (k : Nat) : Leg := readAt s.legs Leg.atReset k

/-- The state with leg record `k` replaced. -/
def State.setLeg (s : State) (k : Nat) (l : Leg) : State := { s with legs := writeAt s.legs k l }

/-- The channel table's entry for channel `c` (R26). -/
def State.routing (s : State) (c : Nat) : Routing := readAt s.channelTable .clear c

/-- The state with the channel table's entry for `c` replaced. -/
def State.setRouting (s : State) (c : Nat) (r : Routing) : State :=
  { s with channelTable := writeAt s.channelTable c r }

/-- Class record `c` (R110). -/
def State.classRecord (s : State) (c : Nat) : ClassRecord := readAt s.classes ClassRecord.atReset c

/-- The state with class record `c` replaced. -/
def State.setClassRecord (s : State) (c : Nat) (r : ClassRecord) : State :=
  { s with classes := writeAt s.classes c r }

/-- Route entry `n`, or nothing when VACANT (R113). -/
def State.route (s : State) (n : Nat) : Option Route := readAt s.routes none n

/-- The state with route entry `n` replaced. -/
def State.setRoute (s : State) (n : Nat) (r : Option Route) : State := { s with routes := writeAt s.routes n r }

/-- Trunk group record `g` (R152). -/
def State.group (s : State) (g : Nat) : Group := readAt s.groups Group.atReset g

/-- The state with trunk group record `g` replaced. -/
def State.setGroup (s : State) (g : Nat) (r : Group) : State := { s with groups := writeAt s.groups g r }

/-- The request slot `j` (R166). -/
def State.slot (s : State) (j : Nat) : Option HeldRequest := readAt s.requestBuffer none j

/-- The state with request slot `j` replaced. -/
def State.setSlot (s : State) (j : Nat) (h : Option HeldRequest) : State :=
  { s with requestBuffer := writeAt s.requestBuffer j h }

/-- The call with reference `r`, when the call table holds one (R132). -/
def State.call (s : State) (r : Nat) : Option Call := s.calls.find? (fun c => c.ref == r)

/-- The state with the call of reference `r` changed by `f`. -/
def State.updateCall (s : State) (r : Nat) (f : Call → Call) : State :=
  { s with calls := s.calls.map (fun c => if c.ref = r then f c else c) }

/-- The idle code as a sample (R33). -/
def State.idle (s : State) : Byte := byteOf s.params.idleCode

/-- The ticks of a timer of `seconds` (R1). -/
def ticksOf (seconds : Nat) : Nat := Config.ticksPerSecond * seconds

/-- A timer set to `seconds` by a command, which is taken inside a tick period: the first tick that counts is the first whole
one after the setting (R1; that a command is never taken at the very beginning of a period is DESIGN CHOICE, log 3). -/
def TimerCount.setFor (seconds : Nat) : TimerCount := ⟨ticksOf seconds, true⟩

/-- A timer set to `seconds` at a tick, by the expiry of another: the next tick is the first whole one and counts (R1). -/
def TimerCount.setAtTick (seconds : Nat) : TimerCount := ⟨ticksOf seconds, false⟩

/-- A running timer has counted its ticks. -/
def ranOut (t : Option TimerCount) : Bool := t.any (fun c => c.ticks == 0)

/-- The stack limit of the class of entry `i` as it stands (R110). -/
def State.stackLimit (s : State) (i : Nat) : Nat := (s.classRecord (s.entry i).cls).limit

/-- Whether the configuration lock refuses a guarded request now: set, and outside MAINTENANCE (R181). -/
def State.lockRefuses (s : State) : Bool := s.lock && s.mode != .maintenance

/-- An event reaches the part unless RESET_N is held low: then the part takes no byte, no pulse and no sample, and counts
no tick and no key frame (R185). -/
def unlessHeld (f : State → State) (s : State) : State := if s.resetHeld then s else f s

/-! ### Reports, replies and the transmitter (LNK) -/

/-- Whether the report mask enables a report (R173). -/
def State.reportEnabled (s : State) (r : Report) : Bool := s.reportMask.getLsbD (r.kind - 128)

/-- An idle transmitter takes the oldest reply, or else the oldest report (R171). -/
def transmitNext (s : State) : State :=
  match s.transmitting with
  | some _ => s
  | none =>
    match s.replyQueue with
    | r :: rest => { s with transmitting := some (.reply r), replyQueue := rest }
    | [] =>
      match s.reportQueue with
      | q :: rest => { s with transmitting := some (.report q), reportQueue := rest }
      | [] => s

/-- A report is queued: masked, admitted carrying and clearing the lost flag, or dropped with the flag set (R172). An
idle transmitter takes it at once (R171), which frees its place. -/
def queueReport (r : Report) (s : State) : State :=
  if s.reportEnabled r then
    if s.reportQueue.length < Config.reportCapacity then
      transmitNext { s with reportQueue := s.reportQueue ++ [⟨r, s.lostFlag⟩], lostFlag := false }
    else { s with lostFlag := true }
  else s

/-- Reports queued one after another. -/
def queueReports (rs : List Report) (s : State) : State := rs.foldl (fun s r => queueReport r s) s

/-- A reply is formed and joins the reply queue at its young end (R170). An idle transmitter takes it at once (R171). -/
def formReply (r : Reply) (s : State) : State := transmitNext { s with replyQueue := s.replyQueue ++ [r] }

/-- The slot of the request of kind `kind` whose deferred reply is owed for entry `i` (R166). -/
def State.deferredSlot (s : State) (kind : Byte) (i : Nat) : Option Nat :=
  lowest (fun h => match h with
    | some h => h.kind == kind && h.awaiting == some i
    | none => false) s.requestBuffer

/-- The deferred reply of entry `i` to a request of kind `kind` is formed, when one is owed (R170). -/
def answerDeferred (kind : Byte) (i : Nat) (status : Status) (body : List Byte) (s : State) : State :=
  match s.deferredSlot kind i with
  | none => s
  | some j =>
    match s.slot j with
    | none => s
    | some h =>
      formReply ⟨some j, kind + 64, h.tag, status, body⟩ (s.setSlot j (some { h with awaiting := none }))

/-- The kind number of ADMIT BEGIN (R190). -/
def kindAdmitBegin : Byte := 8

/-- The kind number of ADMIT ANSWER (R190). -/
def kindAdmitAnswer : Byte := 9

/-! ### Answers of the owning blocks -/

/-- What an owning block gives for a request: an immediate answer, an immediate answer whose reply is formed before the
rest of the event (`rest`: RESTART, R186; WITHDRAW, R102), or a reply deferred for a directory entry (R168). -/
inductive Answer where
  | now (status : Status) (body : List Byte)
  | nowThen (status : Status) (body : List Byte) (rest : State → State)
  | deferred (entry : Nat)

/-- A request as its owning block takes it. -/
abbrev Handler := State → State × Answer

/-- A refusal: the status alone, no record changed (R191). -/
def refuse (status : Status) (s : State) : State × Answer := (s, .now status [])

/-- An acceptance with the status OK alone. -/
def accept (s : State) : State × Answer := (s, .now .ok [])

/-! ### Legs -/

/-- A leg's owner, when it is not FREE (R50). -/
def LegUse.owner? : LegUse → Option Owner
  | .free => none
  | .reserved o => some o
  | .opened o _ => some o

/-- A leg's open record, when it is OPEN (R50). -/
def LegUse.opened? : LegUse → Option OpenLeg
  | .opened _ r => some r
  | _ => none

/-- Whether a leg is FREE. -/
def LegUse.isFree : LegUse → Bool
  | .free => true
  | _ => false

/-- Whether a leg is RESERVED. -/
def LegUse.isReserved : LegUse → Bool
  | .reserved _ => true
  | _ => false

/-- Whether a leg is OPEN. -/
def LegUse.isOpen : LegUse → Bool
  | .opened _ _ => true
  | _ => false

/-- The open record of leg `k`, when it is OPEN. -/
def State.openLeg? (s : State) (k : Nat) : Option OpenLeg := (s.leg k).use.opened?

/-- The state with the open record of an OPEN leg changed by `f`; any other leg is left alone. -/
def State.updateOpen (s : State) (k : Nat) (f : OpenLeg → OpenLeg) : State :=
  match (s.leg k).use with
  | .opened o r => s.setLeg k { s.leg k with use := .opened o (f r) }
  | _ => s

/-- The keys of one direction. -/
def OpenLeg.keys (o : OpenLeg) : Direction → DirectionKeys
  | .outbound => o.out.keys
  | .inbound => o.inb.keys

/-- The open record with the keys of one direction replaced. -/
def OpenLeg.setKeys (o : OpenLeg) (d : Direction) (k : DirectionKeys) : OpenLeg :=
  match d with
  | .outbound => { o with out := { o.out with keys := k } }
  | .inbound => { o with inb := { o.inb with keys := k } }

/-- A leg is running when both of its directions are in RUN (R51). -/
def OpenLeg.running (o : OpenLeg) : Bool := o.out.state == .run && o.inb.state == .run

/-- Whether leg `k` is OPEN and running (R51, R146). -/
def State.legRunning (s : State) (k : Nat) : Bool :=
  match s.openLeg? k with
  | some o => o.running
  | none => false

/-- The FREE leg of lowest index (R52). -/
def State.freeLeg (s : State) : Option Nat := lowest (fun l => l.use.isFree) s.legs

/-- The number of FREE legs (R136). -/
def State.freeLegs (s : State) : Nat := (places (fun l => l.use.isFree) s.legs).length

/-- A leg is reserved for an owner: the FREE leg of lowest index, if there is one (R52). The owned leg field of an
extension owner is written at the same event (R77). -/
def reserveLeg (owner : Owner) (s : State) : State × Option Nat :=
  match s.freeLeg with
  | none => (s, none)
  | some k =>
    let s := s.setLeg k { s.leg k with use := .reserved owner }
    match owner with
    | .extension i => (s.setEntry i { s.entry i with ownedLeg := some k }, some k)
    | _ => (s, some k)

/-- A leg becomes FREE: a close of an OPEN leg, whose channel returns to CLEAR (R55), or a release of a RESERVED one
(R53); a FREE leg is left so (R53). The owned leg field of an extension owner is cleared at the same event (R77). -/
def freeTheLeg (k : Nat) (s : State) : State :=
  let use := (s.leg k).use
  let s1 := match use with
    | .opened _ r => s.setRouting r.channel .clear
    | _ => s
  let s2 := match use.owner? with
    | some (.extension i) => s1.setEntry i { s1.entry i with ownedLeg := none }
    | _ => s1
  if use.isFree then s2 else s2.setLeg k { s2.leg k with use := .free }

/-! ### The key unit's queue -/

/-- Whether the job queue has a place (R38). -/
def State.jobPlace (s : State) : Bool := decide (s.jobs.length < Config.jobCapacity)

/-- A job is added at the young end of the queue (R38). -/
def pushJob (j : Job) (s : State) : State := { s with jobs := s.jobs ++ [j] }

/-- A direction's EPOCH job for its wanted epoch is offered: queued and outstanding, or refused by a full queue and
marked (R38, R42, R56). -/
def placeEpochJob (k : Nat) (d : Direction) (sk : Key) (e : Long) (s : State) : State :=
  if s.jobPlace then
    pushJob (.epoch sk e k d (s.leg k).stamp)
      (s.updateOpen k (fun o => o.setKeys d { o.keys d with outstanding := true, marked := false }))
  else s.updateOpen k (fun o => o.setKeys d { o.keys d with marked := true })

/-- A direction with a wanted epoch, no job outstanding and no mark, on a leg that holds SK, offers its EPOCH job
(R56). -/
def offerEpoch (k : Nat) (d : Direction) (s : State) : State :=
  match s.openLeg? k with
  | none => s
  | some o =>
    match o.sk, (o.keys d).wanted with
    | some sk, some e =>
      if (o.keys d).outstanding || (o.keys d).marked then s else placeEpochJob k d sk e s
    | _, _ => s

/-- A marked direction offers its EPOCH job again at a tick, with the epoch it wants then (R42). -/
def retryEpoch (k : Nat) (d : Direction) (s : State) : State :=
  match s.openLeg? k with
  | none => s
  | some o =>
    match o.sk, (o.keys d).wanted with
    | some sk, some e => if (o.keys d).marked then placeEpochJob k d sk e s else s
    | _, _ => s

/-- The tie key and tie call number that a TIE SESSION job of a tie leg takes, from the call that owns it and that
call's group as they stand (R39, R156). -/
def State.sessionInputs (s : State) (k : Nat) : Option (Key × Long) :=
  match (s.leg k).use.owner? with
  | some (.tieCall r) =>
    match s.call r with
    | some c =>
      match c.b, c.tieNumber with
      | .group g, some t => (s.group g).tieKey.map (fun key => (key, t))
      | _, _ => none
    | none => none
  | _ => none

/-- A tie leg's TIE SESSION job is offered: queued and outstanding, or refused by a full queue and marked (R42, R156). -/
def offerSession (k : Nat) (s : State) : State :=
  match s.sessionInputs k with
  | none => s
  | some (key, t) =>
    if s.jobPlace then
      pushJob (.tieSession key t k (s.leg k).stamp)
        (s.updateOpen k (fun o => { o with sessionOutstanding := true, sessionWanted := false }))
    else s.updateOpen k (fun o => { o with sessionWanted := true })

/-! ### Directory views -/

/-- The entry that holds an extension number, in any state but VACANT: the number map of R79. -/
def State.lookupNumber (s : State) (digits : List Nat) : Option Nat :=
  lowest (fun e => e.state != .vacant && e.number == digits) s.directory

/-- Screening ends: the flag is cleared, the interdigit timer stopped and the register emptied (R118). -/
def endScreening (i : Nat) (s : State) : State :=
  s.setEntry i { s.entry i with screening := false, register := [], interdigit := none }

/-! ### Stacks -/

/-- The stack with its top call held (R133). -/
def holdTop : List StackItem → List StackItem
  | [] => []
  | t :: rest => { t with held := true } :: rest

/-- A call is pushed on top, not held; the call that was on top becomes held (R133). -/
def pushStack (r : Nat) (stack : List StackItem) : List StackItem := ⟨r, false⟩ :: holdTop stack

/-- A call is removed from wherever it sits; the calls below it move up with their held marks (R133, R144). -/
def removeFromStack (r : Nat) (stack : List StackItem) : List StackItem := stack.filter (fun x => x.call != r)

/-- Whether a call stands on a stack. -/
def onStack (r : Nat) (stack : List StackItem) : Bool := stack.any (fun x => x.call == r)

/-- Whether entry `i` holds call `r`: the held fields of R132, kept in the stacks. -/
def State.heldBy (s : State) (i r : Nat) : Bool := (s.entry i).stack.any (fun x => x.call == r && x.held)

end Sys2Proof.Machine
end

