-- ==== Sys2Proof/Machine/Flags.lean ====
section
/-! DEFINITION. The secure status of calls (R146), its evaluation with the grace timers (R147, R148), and the running
notice of the leg engine (R72). -/

namespace Sys2Proof.Machine

/-- Whether an extension is a secure party: it owns an OPEN leg that is running (R146). -/
def State.extensionSecure (s : State) (i : Nat) : Bool :=
  match (s.entry i).ownedLeg with
  | some k => s.legRunning k
  | none => false

/-- Whether an extension is secure-capable and owns no leg (R146). -/
def State.shortOfLeg (s : State) (i : Nat) : Bool := (s.entry i).secure && (s.entry i).ownedLeg.isNone

/-- Whether the B party of a call is secure: a TIE group by the call's tie leg, a PLAIN group never, a service always
(R146). -/
def State.bPartySecure (s : State) (c : Call) : Bool :=
  match c.b with
  | .extension i => s.extensionSecure i
  | .group _ =>
    match c.tieLeg with
    | some k => s.legRunning k
    | none => false
  | .service _ => true

/-- Whether the B party of a call is an extension short of a leg (R146). -/
def State.bPartyShort (s : State) (c : Call) : Bool :=
  match c.b with
  | .extension i => s.shortOfLeg i
  | _ => false

/-- The secure status of a TALKING call as its parties stand (R146). -/
def State.statusOf (s : State) (c : Call) : SecureStatus :=
  if s.extensionSecure c.a && s.bPartySecure c then .secure
  else if s.shortOfLeg c.a || s.bPartyShort c then .clearByCapacity
  else .notSecure

/-- The grace timer after an evaluation: stopped when the call is SECURE, started when it is not and the timer is
stopped; only for a call that requires secure (R148). -/
def graceAfter (p : Params) (c : Call) (status : SecureStatus) : Option TimerCount :=
  if c.requiresSecure then
    if status = .secure then none
    else match c.grace with
      | some n => some n
      | none => some (.setFor p.secureGrace)
  else c.grace

/-- One call evaluated: an ALERTING call keeps its status (R146, R147). -/
def State.evaluateCall (s : State) (c : Call) : Call :=
  match c.state with
  | .alerting => c
  | .talking => { c with status := s.statusOf c, grace := graceAfter s.params c (s.statusOf c) }

/-- The CALL_SECURE report of a call whose evaluated status differs from the recorded one (R147). -/
def State.secureReport (s : State) (c : Call) : Option Report :=
  match c.state with
  | .alerting => none
  | .talking => if s.statusOf c = c.status then none else some (.callSecure c.ref (s.statusOf c) c.requiresSecure)

/-- The secure status of every TALKING call is evaluated, and each change is reported in routing order (R147). -/
def evaluateCalls (s : State) : State :=
  queueReports (s.calls.filterMap s.secureReport) { s with calls := s.calls.map s.evaluateCall }

/-- Whether the leg engine tells the call unit of changes of leg `k`: a leg owned by an extension or a tie call
(R72). -/
def State.noticed (s : State) (k : Nat) : Bool :=
  match (s.leg k).use.owner? with
  | some (.extension _) => true
  | some (.tieCall _) => true
  | _ => false

/-- The running notice: the calls are evaluated when a leg of an extension or a tie call has become running or stopped
being running (R72). -/
def noticeRunning (k : Nat) (wasRunning : Bool) (s : State) : State :=
  if s.noticed k && s.legRunning k != wasRunning then evaluateCalls s else s

end Sys2Proof.Machine
end

