-- ==== Sys2Proof/Machine/Link.lean ====
section
/-! DEFINITION. The line of the control link (R161), the link's part in every request (R166 to R171), the transmitter's
completion, and the link's own requests REPORT MASK and IDENTIFY. -/

namespace Sys2Proof.Machine

/-! ### The line (R161) -/

/-- The rate in baud that a strap code selects (R161). -/
def linkRate (straps : BitVec 2) : Nat :=
  match straps.toNat with
  | 0 => 115200
  | 1 => 460800
  | _ => 921600

/-- The link rate of the part, read from the straps at the last hard reset (R161). -/
def State.linkRate (s : State) : Nat := Machine.linkRate s.strapCode

/-- The bits of a byte on the line, in time order: the start bit at the level 0, the 8 data bits least significant first,
the stop bit at the level 1; there is no parity bit (R161). -/
def lineBits (b : Byte) : List Bool := false :: (List.range 8).map b.getLsbD ++ [true]

/-- The frame on the transmit line: none, the line resting at the stop level, when the transmitter is idle (R171) or RESET_N
is held (R185). -/
def State.sending (s : State) : Option Sending := if s.resetHeld then none else s.transmitting

/-- The bits of the frame on the transmit line, its bytes back to back (R161). -/
def State.lineOut (s : State) : List Bool :=
  match s.sending with
  | none => []
  | some x => x.bytes.flatMap lineBits

/-- The byte that ten bits of the line carry: none without the start bit; the stop bit may be missing (R161, R164). -/
def lineByteOf (bits : List Bool) : Option LineByte :=
  if bits.length = 10 ∧ bits.getD 0 true = false then
    some ⟨BitVec.ofNat 8 ((List.range 8).map (fun i => (bits.getD (i + 1) false).toNat * 2 ^ i)).sum, bits.getD 9 false⟩
  else none

/-! ### Requests -/

/-- The payload lengths allowed for a request kind (R190). -/
def allowedLengths : Nat → List Nat
  | 1 => [19, 38, 57, 76]
  | 2 => [10]
  | 3 => [2]
  | 4 => [3]
  | 5 => [2]
  | 6 => [2]
  | 7 => [2, 7]
  | 8 => [2]
  | 9 => [6]
  | 10 => [2]
  | 11 => [2]
  | 12 => [2]
  | 13 => [3]
  | 14 => [2]
  | 15 => [34]
  | 16 => [1]
  | 17 => [45]
  | 18 => [1]
  | 19 => [1]
  | 20 => [8]
  | 21 => [2]
  | 22 => [2]
  | 23 => [2]
  | 24 => [2]
  | 25 => [2]
  | 26 => [4]
  | 27 => [9]
  | 28 => [1]
  | 29 => [9]
  | 30 => [1]
  | 31 => [1]
  | 32 => [12]
  | 33 => [0]
  | 34 => [3]
  | 35 => [0]
  | 36 => [1]
  | 37 => [0]
  | 38 => [0]
  | 39 => [0]
  | 40 => [0]
  | 41 => [4]
  | 42 => [0]
  | _ => []

/-- The slot that an arriving frame takes: the lowest empty slot of the request buffer (R166); none while RESET_N is held,
when the part takes no frame (R185). -/
def State.freeSlot (s : State) : Option Nat :=
  if s.resetHeld then none else lowest (fun h => h.isNone) s.requestBuffer

/-- The link's tests of a known request before it is handed on: the length, then the tag of a deferred request
(R168). -/
def linkTests (kind tag : Byte) (len : Nat) (h : Handler) (s : State) : State × Answer :=
  if !(allowedLengths kind.toNat).contains len then refuse .badLength s
  else if tag = 0 ∧ (kind = kindAdmitBegin ∨ kind = kindAdmitAnswer) then refuse .badField s
  else h s

/-- The refusal of a kind that names no request; outside 1..63 the general refusal carries the kind received (R165,
R191). -/
def refuseUnknown (kind : Byte) (s : State) : State × Answer :=
  (s, .now .unknownKind (if 1 ≤ kind.toNat ∧ kind.toNat ≤ 63 then [] else [kind]))

/-- The reply kind of a request kind: r + 64, or the general refusal 64 (R162, R165). -/
def replyKind (kind : Byte) : Byte := if 1 ≤ kind.toNat ∧ kind.toNat ≤ 63 then kind + 64 else 64

/-- The outcomes of a quiet request that make no report (R169). -/
def quietlyDone (status : Status) : Bool := status == .ok || status == .more || status == .routed

/-- A request in slot `j` is answered at once: the reply is formed and the slot held until it is sent; a quiet request
frees its slot, and a refusal of it is reported (R166, R169, R170). -/
def settleNow (j : Nat) (kind tag : Byte) (status : Status) (body : List Byte) (s : State) : State :=
  if tag = 0 then
    if quietlyDone status then s else queueReport (.quietRefused kind status) s
  else formReply ⟨some j, replyKind kind, tag, status, body⟩ (s.setSlot j (some ⟨kind, tag, none⟩))

/-- A request in slot `j` is settled by the answer of its owning block: the slot waits for a deferred reply, or the
request is answered at once (R166, R168). -/
def settleRequest (j : Nat) (kind tag : Byte) (r : State × Answer) : State :=
  match r.2 with
  | .deferred i => r.1.setSlot j (some ⟨kind, tag, some i⟩)
  | .now status body => settleNow j kind tag status body r.1
  | .nowThen status body rest => rest (settleNow j kind tag status body r.1)

/-- A good frame arrives: it takes a slot and is handled, or all four slots are held and it is discarded with
REQUEST_DISCARDED (R166, R167). While RESET_N is held no frame is taken (R185). -/
def takeSlot (kind tag : Byte) (h : Handler) (s : State) : State :=
  match s.freeSlot with
  | none => unlessHeld (queueReport (.requestDiscarded kind tag)) s
  | some j => settleRequest j kind tag (h s)

/-- The arrival of a good frame of a known request kind with a payload of `len` bytes (R166 to R169). -/
def requestArrives (kind tag : Byte) (len : Nat) (h : Handler) (s : State) : State :=
  takeSlot kind tag (linkTests kind tag len h) s

/-- REPORT MASK: the whole mask is replaced, READY stays enabled (R173, R190). -/
def takeReportMask (mask : List Byte) (s : State) : State × Answer :=
  let m : BitVec 32 :=
    BitVec.ofNat 32 ((mask.getD 3 0).toNat * 16777216 + (mask.getD 2 0).toNat * 65536 + (mask.getD 1 0).toNat * 256
      + (mask.getD 0 0).toNat) ||| 1
  ({ s with reportMask := m },
    .now .ok [byteOf m.toNat, byteOf (m.toNat / 256), byteOf (m.toNat / 65536), byteOf (m.toNat / 16777216)])

/-- The body of IDENTIFY: the fixed identity, the strap code and the capacities (R174, R191). -/
def identifyBody (s : State) : List Byte :=
  wordBytes Config.partCode ++ [byteOf Config.revision, byteOf s.strapCode.toNat] ++ wordBytes Config.entries
    ++ [byteOf Config.channels, byteOf Config.legs, byteOf Config.callCapacity, byteOf Config.routeEntries,
      byteOf Config.classes, byteOf Config.services, byteOf Config.groups, byteOf Config.jobCapacity,
      byteOf Config.requestSlots, byteOf Config.reportCapacity]

/-- IDENTIFY (R174). -/
def takeIdentify (s : State) : State × Answer := (s, .now .ok (identifyBody s))

/-- The last byte of the frame in transmission is sent: a reply's slot is freed, and the transmitter takes the next
frame (R171). With no frame in transmission the event does not occur. -/
def completeTransmission (s : State) : State :=
  match s.transmitting with
  | none => s
  | some (.report _) => transmitNext { s with transmitting := none }
  | some (.reply r) =>
    let s := { s with transmitting := none }
    transmitNext (match r.slot with
      | some j => s.setSlot j none
      | none => s)

/-- The meaning of REPORT_MASK (R173). -/
def execReportMask (tag : Byte) (mask : List Byte) (s : State) : Host.Outcome State Fault Refusal :=
  .next (requestArrives 41 tag mask.length (takeReportMask mask) s)

/-- The meaning of IDENTIFY (R174). -/
def execIdentify (tag : Byte) (s : State) : Host.Outcome State Fault Refusal :=
  .next (requestArrives 42 tag 0 takeIdentify s)

/-- The meaning of TRANSMIT_COMPLETE (R171). -/
def execTransmitComplete (s : State) : Host.Outcome State Fault Refusal :=
  .next (unlessHeld completeTransmission s)

end Sys2Proof.Machine
end

