-- ==== Sys2Proof/Machine/Legs.lean ====
section
/-! DEFINITION. The leg engine (04_secure_legs.md): the two directions frame by frame, opening, the delivery of keys,
the loss of the frame reference, and the requests READ LEG, LOOP START and LOOP STOP. -/

namespace Sys2Proof.Machine

/-! ### Keys of a direction -/

/-- A direction as an open starts it: no keys, epoch 0 wanted, no job (R54). -/
def DirectionKeys.atOpen : DirectionKeys where
  active := none
  standby := none
  wanted := some 0
  outstanding := false
  marked := false

/-- The key point of `block`: the keys after it and the key bound to the block, none when the direction goes or stays
LATE; `current` is the direction's current block (R58). -/
def bindKey (r : Nat) (block current : Long) (k : DirectionKeys) : DirectionKeys × Option Key :=
  let dropped := ({ k with active := none, standby := none, wanted := some (epochOf r current) }, none)
  let trySwap :=
    match k.standby with
    | some b =>
      if b.epoch = epochOf r block then
        ({ k with active := some b, standby := none, wanted := some (followingEpoch r (epochOf r block)) }, some b.key)
      else dropped
    | none => dropped
  match k.active with
  | some a => if a.epoch = epochOf r block then (k, some a.key) else trySwap
  | none => trySwap

/-- An epoch key is installed: as the active key, and the following epoch is wanted; or as the standby key, and none is
wanted (R57). The direction's job is no longer outstanding. -/
def installKey (r : Nat) (e : Long) (key : Key) (k : DirectionKeys) : DirectionKeys :=
  match k.active with
  | none => { k with active := some ⟨e, key⟩, wanted := some (followingEpoch r e), outstanding := false }
  | some _ => { k with standby := some ⟨e, key⟩, wanted := none, outstanding := false }

/-! ### The outbound direction -/

/-- The outbound direction of a newly opened leg (R54). -/
def Outbound.atOpen : Outbound where
  state := .wait
  keys := DirectionKeys.atOpen
  counter := 0
  filling := []
  draining := []
  emission := none

/-- The frame event after a block's end: the buffers exchange roles, the counter advances, and the collected block is
bound to its key and becomes the emission block (R60). -/
def Outbound.turnOver (p : Params) (d : Nat) (o : Outbound) : Outbound :=
  let b := bindKey p.epochLength o.counter (o.counter + 1) o.keys
  { state := if b.2.isSome then .run else .late
    keys := b.1
    counter := o.counter + 1
    filling := []
    draining := o.filling
    emission := some ⟨o.counter, b.2.map (fun key => blockWords key o.counter d)⟩ }

/-- The sample an outbound direction drives at position `q` (R29, R60). R29 and R60 look at this direction alone; R158 says
that the trunk side carries the idle code while the tie leg, both directions, is not running, and cites R29: the model has an
outbound direction in RUN emit also while its inbound direction hunts (DEDUCED, log 19). -/
def Outbound.driven (p : Params) (o : Outbound) (q : Nat) : Byte :=
  match o.emission with
  | some ⟨n, some words⟩ => scrambledSample words n p.syncPeriod (byteOf p.idleCode) o.draining q
  | _ => byteOf p.idleCode

/-- One frame event of an outbound direction: the record after it and the sample it drives (R59, R60). -/
def outboundFrame (p : Params) (d : Nat) (x : Byte) (o : Outbound) : Outbound × Byte :=
  match o.state with
  | .wait => (o, byteOf p.idleCode)
  | _ =>
    let o := if o.filling.length = 128 then o.turnOver p d else o
    ({ o with filling := o.filling ++ [x] }, o.driven p o.filling.length)

/-- An outbound direction in WAIT that has received its active key starts: RUN with its counter at 0 (R59). -/
def Outbound.start (o : Outbound) : Outbound :=
  match o.state with
  | .wait => if o.keys.active.isSome then { o with state := .run, counter := 0, filling := [], emission := none } else o
  | _ => o

/-! ### The inbound direction -/

/-- The inbound direction of a newly opened leg: in HUNT with its hunt timer started (R54). -/
def Inbound.atOpen (p : Params) : Inbound where
  state := .hunt
  keys := DirectionKeys.atOpen
  counter := 0
  skip := 0
  filling := []
  bound := none
  draining := []
  delivery := none
  lastSegment7 := none
  history := []
  misses := 0
  hunt := some (.setFor p.huntLimit)

/-- An inbound direction enters HUNT, or hunts afresh, at the miss limit or at the loss of the frame reference: its
keys, wanted epoch and job marks are kept (R65, R68). -/
def Inbound.toHunt (p : Params) (i : Inbound) : Inbound :=
  { Inbound.atOpen p with keys := i.keys }

/-- An inbound direction in HUNT adopts a valid sync pattern carrying `n` (R62). -/
def Inbound.adopt (p : Params) (n : Long) (i : Inbound) : Inbound :=
  let b := bindKey p.epochLength (n + 1) (n + 1) i.keys
  { state := if b.2.isSome then .run else .late
    keys := b.1
    counter := n + 1
    skip := 3
    filling := []
    bound := b.2
    draining := []
    delivery := none
    lastSegment7 := none
    history := []
    misses := 0
    hunt := none }

/-- One frame event in HUNT: the sample joins the history of the last 13, which is tested once it holds 13 (R61). The test
is R18's, in which no key takes part, also where R156 says of two tie ends with different session keys that their legs find no
sync pattern `that keys` (DEDUCED, log 18). -/
def Inbound.huntFrame (p : Params) (x : Byte) (i : Inbound) : Inbound :=
  let h := i.history ++ [x]
  let h := h.drop (h.length - 13)
  match validSync p.syncPeriod h with
  | some n => i.adopt p n
  | none => { i with history := h }

/-- The frame event after a received block's end: the block is recovered and becomes the delivery block when it was
keyed, and is discarded otherwise; the counter advances and the next block is bound to its key (R63). -/
def Inbound.blockEnd (p : Params) (d : Nat) (i : Inbound) : Inbound :=
  let b := bindKey p.epochLength (i.counter + 1) (i.counter + 1) i.keys
  let recovered := i.bound.map (fun key =>
    recoverBlock (blockWords key i.counter d) i.counter p.syncPeriod (byteOf p.idleCode) i.lastSegment7 i.filling)
  { i with
    state := if b.2.isSome then .run else .late
    keys := b.1
    counter := i.counter + 1
    filling := []
    bound := b.2
    draining := recovered.getD []
    delivery := recovered.map (fun _ => i.counter)
    lastSegment7 := recovered.map (fun clear => clear.drop 112) }

/-- The sync check at position 124 of a sync block (R64). -/
def Inbound.syncCheck (p : Params) (i : Inbound) : Inbound :=
  if validSync p.syncPeriod (i.filling.drop 112) = some i.counter then { i with misses := 0 }
  else if p.missLimit ≤ i.misses + 1 then i.toHunt p
  else { i with misses := i.misses + 1 }

/-- The sample an inbound direction drives at position `q` (R29, R63). -/
def Inbound.driven (p : Params) (i : Inbound) (q : Nat) : Byte :=
  match i.delivery with
  | some _ => i.draining.getD q (byteOf p.idleCode)
  | none => byteOf p.idleCode

/-- A received sample is placed, and the sync slot of a sync block is checked once position 124 is taken (R63, R64). -/
def Inbound.place (p : Params) (x : Byte) (i : Inbound) : Inbound :=
  let placed := { i with filling := i.filling ++ [x] }
  if i.filling.length = 124 ∧ isSyncBlock p.syncPeriod i.counter then placed.syncCheck p else placed

/-- One frame event of an inbound direction: the record after it and the sample it drives (R61 to R65). -/
def inboundFrame (p : Params) (d : Nat) (x : Byte) (i : Inbound) : Inbound × Byte :=
  match i.state with
  | .hunt => (i.huntFrame p x, byteOf p.idleCode)
  | _ =>
    if 0 < i.skip then ({ i with skip := i.skip - 1 }, byteOf p.idleCode)
    else
      let i := if i.filling.length = 128 then i.blockEnd p d else i
      (i.place p x, i.driven p i.filling.length)

/-! ### Changes of a direction's state -/

/-- The state of a direction of an open leg under its message name. -/
def OpenLeg.stateOf (o : OpenLeg) : Direction → DirectionState
  | .outbound => o.out.state.named
  | .inbound => o.inb.state.named

/-- The block counter of a direction of an open leg. -/
def OpenLeg.counterOf (o : OpenLeg) : Direction → Long
  | .outbound => o.out.counter
  | .inbound => o.inb.counter

/-- The block that could not be keyed when a direction has just entered LATE: the outbound direction's collected block,
the inbound direction's current block (R70). -/
def OpenLeg.lateBlock (o : OpenLeg) : Direction → Long
  | .outbound => o.out.counter - 1
  | .inbound => o.inb.counter

/-- The report of a change of a direction's state: KEY_LATE for an entry into LATE (R70), LEG_STATE for any other, its
counter given as 0 for an entry into HUNT (R69). -/
def changeReport (k : Nat) (d : Direction) (before : DirectionState) (o : OpenLeg) : Option Report :=
  if o.stateOf d = before then none
  else match o.stateOf d with
    | .late => some (.keyLate k d (o.lateBlock d) ((o.keys d).wanted.getD 0))
    | .hunt => some (.legState k d .hunt 0)
    | st => some (.legState k d st (o.counterOf d))

/-- After an event has changed a direction of leg `k` from the record `before` to the record `o`: the record is kept,
the change of state is reported (R69, R70), a wanted epoch key is offered for (R56), and the call unit is told when the
leg has become running or stopped being running (R72). -/
def directionChanged (k : Nat) (d : Direction) (before o : OpenLeg) (s : State) : State :=
  let s := s.updateOpen k (fun _ => o)
  let s := match changeReport k d (before.stateOf d) o with
    | some r => queueReport r s
    | none => s
  noticeRunning k before.running (offerEpoch k d s)

/-- One frame event of the outbound direction of leg `k`, with the sample it drives (R28, R60). -/
def outboundEvent (k : Nat) (x : Byte) (s : State) : State × Byte :=
  match s.openLeg? k with
  | none => (s, s.idle)
  | some o =>
    let r := outboundFrame s.params o.outD x o.out
    (directionChanged k .outbound o { o with out := r.1 } s, r.2)

/-- One frame event of the inbound direction of leg `k`, with the sample it drives (R28, R61, R63). -/
def inboundEvent (k : Nat) (x : Byte) (s : State) : State × Byte :=
  match s.openLeg? k with
  | none => (s, s.idle)
  | some o =>
    let r := inboundFrame s.params o.inD x o.inb
    (directionChanged k .inbound o { o with inb := r.1 } s, r.2)

/-- The loss of the frame reference reaches leg `k`: its inbound direction hunts afresh when the leg is OPEN (R68). -/
def lossHunt (k : Nat) (s : State) : State :=
  match s.openLeg? k with
  | none => s
  | some o => directionChanged k .inbound o { o with inb := o.inb.toHunt s.params } s

/-- An epoch key is delivered to a direction of leg `k` (R57); an outbound direction in WAIT starts (R59). -/
def deliverEpoch (k : Nat) (d : Direction) (e : Long) (key : Key) (s : State) : State :=
  match s.openLeg? k with
  | none => s
  | some o =>
    let o1 := o.setKeys d (installKey s.params.epochLength e key (o.keys d))
    let o2 := match d with
      | .outbound => { o1 with out := o1.out.start }
      | .inbound => o1
    directionChanged k d o o2 s

/-! ### Opening -/

/-- The stream constants of a leg, outbound and inbound, by its owner; for a tie call by the tie end of its group as it
stands (R11, R54). -/
def State.streamConstants (s : State) (owner : Owner) : Nat × Nat :=
  match owner with
  | .extension _ => (0, 1)
  | .bSide _ => (0, 1)
  | .loopTest => (0, 0)
  | .tieCall r =>
    match (s.call r).map Call.b with
    | some (BParty.group g) => if (s.group g).tieEnd = .b then (1, 0) else (0, 1)
    | _ => (0, 1)

/-- The session key a leg holds at its opening, by its owner (R54): the entry's, none yet for a tie call, or the key
given with LOOP START. -/
def State.keyAtOpen (s : State) (owner : Owner) (given : Option Key) : Option Key :=
  match owner with
  | .extension i => (s.entry i).sk
  | .loopTest => given
  | _ => none

/-- A leg is opened on a channel (R54): stamp, channel table, stream constants, session key and directions; then the
TIE SESSION job of a tie leg (R156) or the EPOCH jobs, outbound first, are offered. -/
def openTheLeg (k : Nat) (owner : Owner) (channel : Nat) (given : Option Key) (s : State) : State :=
  let d := s.streamConstants owner
  let record : OpenLeg :=
    { channel := channel
      sk := s.keyAtOpen owner given
      sessionOutstanding := false
      sessionWanted := false
      outD := d.1
      inD := d.2
      out := Outbound.atOpen
      inb := Inbound.atOpen s.params }
  let s := (s.setLeg k ⟨(s.leg k).stamp + 1, .opened owner record⟩).setRouting channel (.leg k)
  match owner with
  | .tieCall _ => offerSession k s
  | _ => offerEpoch k .inbound (offerEpoch k .outbound s)

/-- Whether some leg is OPEN on a channel. -/
def State.channelInUse (s : State) (c : Nat) : Bool :=
  s.legs.toList.any (fun l => match l.use with
    | .opened _ o => o.channel == c
    | _ => false)

/-! ### Requests of the leg engine -/

/-- LOOP START (R73). -/
def takeLoopStart (channel : Byte) (key : Key) (s : State) : State × Answer :=
  if s.mode ≠ .maintenance then refuse .state s
  else if 127 < channel.toNat then refuse .badField s
  else if weakKey key then refuse .weakKey s
  else if s.channelInUse channel.toNat then refuse .channelInUse s
  else match s.freeLeg with
    | none => refuse .secureUnavailable s
    | some k =>
      let s := openTheLeg k .loopTest channel.toNat (some key) s
      (s, .now .ok [byteOf k, (s.leg k).stamp])

/-- Whether a leg is OPEN with the loop test as its owner. -/
def LegUse.isLoop : LegUse → Bool
  | .opened .loopTest _ => true
  | _ => false

/-- LOOP STOP (R74). -/
def takeLoopStop (leg : Byte) (s : State) : State × Answer :=
  if 47 < leg.toNat then refuse .badField s
  else if !(s.leg leg.toNat).use.isLoop then refuse .state s
  else accept (freeTheLeg leg.toNat s)

/-- The fields of one direction in the reply to READ LEG (R75, R191). -/
def directionBytes (o : OpenLeg) (d : Direction) : List Byte :=
  (o.stateOf d).code :: longBytes (o.counterOf d).toNat
    ++ presenceLong ((o.keys d).active.map (fun a => a.epoch)) ++ presenceLong ((o.keys d).standby.map (fun a => a.epoch))
    ++ presenceLong (o.keys d).wanted ++ [flagByte (o.keys d).outstanding, flagByte (o.keys d).marked]

/-- The body of READ LEG (R75, R191): a leg that is not OPEN has no channel, and 0 in every direction field (R192). -/
def legBody (s : State) (k : Nat) : List Byte :=
  let l := s.leg k
  [byteOf k, l.use.code, (l.use.owner?.map Owner.code).getD 0] ++ wordBytes ((l.use.owner?.map Owner.number).getD 0)
    ++ match l.use.opened? with
      | none => [255, 0, 0, 0, l.stamp, 0, 0] ++ List.replicate 47 0
      | some o =>
        [byteOf o.channel, flagByte o.sk.isSome, flagByte o.sessionOutstanding, flagByte o.sessionWanted, l.stamp,
          byteOf o.outD, byteOf o.inD] ++ directionBytes o .outbound ++ directionBytes o .inbound
          ++ [byteOf o.inb.misses] ++ countWord o.inb.hunt

/-- READ LEG (R75). -/
def takeReadLeg (leg : Byte) (s : State) : State × Answer :=
  if 47 < leg.toNat then refuse .badField s else (s, .now .ok (legBody s leg.toNat))

/-- The meaning of LOOP_START (R73). -/
def execLoopStart (tag channel : Byte) (key : Key) (s : State) : Host.Outcome State Fault Refusal :=
  .next (requestArrives 29 tag 9 (takeLoopStart channel key) s)

/-- The meaning of LOOP_STOP (R74). -/
def execLoopStop (tag leg : Byte) (s : State) : Host.Outcome State Fault Refusal :=
  .next (requestArrives 30 tag 1 (takeLoopStop leg) s)

/-- The meaning of READ_LEG (R75). -/
def execReadLeg (tag leg : Byte) (s : State) : Host.Outcome State Fault Refusal :=
  .next (requestArrives 31 tag 1 (takeReadLeg leg) s)

end Sys2Proof.Machine
end

