-- ==== Sys2Proof/Machine/Calls.lean ====
section
/-! DEFINITION. The call unit (08_calls_and_call_stacks.md): creation, answer, holding, ending, reading. -/

namespace Sys2Proof.Machine

/-! ### References -/

/-- The reference after `r`: 65535 is followed by 1 (R134). -/
def nextReference (r : Nat) : Nat := if 65535 ≤ r then 1 else r + 1

/-- The first reference from `r` on that no call holds, within `fuel` further tries (R134). -/
def freeReference (held : List Nat) : (fuel : Nat) → (r : Nat) → Nat
  | 0, r => r
  | fuel + 1, r => if held.contains r then freeReference held fuel (nextReference r) else r

/-- The reference a new call takes: at most 96 are held, so one is found within 97 values (R134). -/
def State.newReference (s : State) : Nat :=
  freeReference (s.calls.map (fun c => c.ref)) Config.callCapacity s.referenceCounter

/-! ### Creating a call -/

/-- What SCR hands over (R129): the destination, with the forwarded digits of a TRUNK call. -/
structure HandOver where
  a : Nat
  b : BParty
  forwarded : List Nat
  service : Nat
  requiresSecure : Bool
  deriving DecidableEq, Repr

/-- Whether the hand-over is to a TIE group, whose kind is read now (R132). -/
def State.toTieGroup (s : State) (b : BParty) : Bool :=
  match b with
  | .group g => (s.group g).kind == .tie
  | _ => false

/-- Whether a call that requires secure is infeasible (R135). -/
def State.infeasible (s : State) (h : HandOver) : Bool :=
  !(s.entry h.a).secure || match h.b with
    | .extension i => !(s.entry i).secure
    | .group g => (s.group g).kind == .plain
    | .service _ => false

/-- Whether the caller needs a leg (R136). -/
def State.callerNeedsLeg (s : State) (h : HandOver) : Bool := s.shortOfLeg h.a

/-- Whether some call holds a B-side reservation naming entry `i` as callee (R136). -/
def State.reservedForCallee (s : State) (i : Nat) : Bool :=
  s.calls.any (fun c => c.b == .extension i && c.bReservation.isSome)

/-- Whether the callee of a LOCAL call needs a leg (R136). -/
def State.calleeNeedsLeg (s : State) (h : HandOver) : Bool :=
  match h.b with
  | .extension i => s.shortOfLeg i && !s.reservedForCallee i
  | _ => false

/-- The number of legs the call needs (R136). -/
def State.neededLegs (s : State) (h : HandOver) : Nat :=
  (s.toTieGroup h.b).toNat + (s.callerNeedsLeg h).toNat + (s.calleeNeedsLeg h).toNat

/-- The call unit's refusal of a hand-over, if any: the table full, the call infeasible, or too few FREE legs (R135,
R136). -/
def State.handOverRefusal (s : State) (h : HandOver) : Option Status :=
  if Config.callCapacity ≤ s.calls.length then some .callTableFull
  else if h.requiresSecure && s.infeasible h then some .secureUnavailable
  else if h.requiresSecure && decide (s.freeLegs < s.neededLegs h) then some .secureUnavailable
  else if s.toTieGroup h.b && s.freeLegs == 0 then some .secureUnavailable
  else none

/-- A leg is reserved when it is needed (R136). -/
def reserveIf (needed : Bool) (owner : Owner) (s : State) : State × Option Nat :=
  if needed then reserveLeg owner s else (s, none)

/-- The call is created (R136, R137): legs in the order tie, caller, callee; the record ALERTING at the young end of the
table; the push onto the caller's stack; the group's count; the evaluation. -/
def createCall (h : HandOver) (s : State) : State :=
  let r := s.newReference
  let tieNeeded := s.toTieGroup h.b
  let aNeeded := s.callerNeedsLeg h
  let bNeeded := s.calleeNeedsLeg h
  let tie := reserveIf tieNeeded (.tieCall r) s
  let own := reserveIf aNeeded (.extension h.a) tie.1
  let far := reserveIf bNeeded (.bSide r) own.1
  let short := (aNeeded && own.2.isNone) || (bNeeded && far.2.isNone)
  let call : Call :=
    { ref := r
      a := h.a
      b := h.b
      forwarded := h.forwarded
      tieNumber := none
      tieLeg := tie.2
      service := h.service
      state := .alerting
      requiresSecure := h.requiresSecure
      status := if short then .clearByCapacity else .notSecure
      bReservation := far.2
      grace := none }
  let s := far.1
  let s := { s with calls := s.calls ++ [call], referenceCounter := nextReference r }
  let s := s.setEntry h.a { s.entry h.a with stack := pushStack r (s.entry h.a).stack }
  let s := match h.b with
    | .group g => s.setGroup g { s.group g with active := (s.group g).active + 1 }
    | _ => s
  evaluateCalls s

/-! ### Removing a call -/

/-- The call leaves the stack of entry `i`; when the stack becomes empty by it, the entry's leg is closed or released
(R144, steps 2 and 8). -/
def leaveStack (r i : Nat) (s : State) : State :=
  s.setEntry i { s.entry i with stack := removeFromStack r (s.entry i).stack }

/-- The leg of an extension whose stack has become empty is closed, or released when still RESERVED (R144, step 8). -/
def closeIfEmptied (i : Nat) (before : List StackItem) (r : Nat) (s : State) : State :=
  if onStack r before ∧ (s.entry i).stack = [] then
    match (s.entry i).ownedLeg with
    | some k => freeTheLeg k s
    | none => s
  else s

/-- The caller's RESERVED leg is released when no call left in its stack is ALERTING (R144, step 7). -/
def releaseCallerLeg (a : Nat) (s : State) : State :=
  match (s.entry a).ownedLeg with
  | some k =>
    if (s.leg k).use.isReserved &&
        !((s.entry a).stack.any (fun x => match s.call x.call with
          | some c => c.state == .alerting
          | none => false)) then freeTheLeg k s
    else s
  | none => s

/-- A leg the call itself holds, its tie leg or its B-side reservation, becomes FREE (R144, steps 4 and 5). -/
def freeHeldLeg (k : Option Nat) (s : State) : State :=
  match k with
  | some k => freeTheLeg k s
  | none => s

/-- The entry index of the B party, when it is an extension. -/
def BParty.extension? : BParty → Option Nat
  | .extension i => some i
  | _ => none

/-- The steps of a removal after its report (R144, steps 2 to 10). -/
def takeOut (c : Call) (s0 : State) : State :=
  let stackA := (s0.entry c.a).stack
  let s := leaveStack c.ref c.a s0
  let s := match c.b with
    | .extension i => leaveStack c.ref i s
    | _ => s
  let s := freeHeldLeg c.bReservation s
  let s := freeHeldLeg c.tieLeg s
  let s := match c.b with
    | .group g => s.setGroup g { s.group g with active := (s.group g).active - 1 }
    | _ => s
  let s := releaseCallerLeg c.a s
  let s := closeIfEmptied c.a stackA c.ref s
  let s := match c.b with
    | .extension i => closeIfEmptied i (s0.entry i).stack c.ref s
    | _ => s
  evaluateCalls { s with calls := s.calls.filter (fun x => x.ref != c.ref) }

/-- A call is removed (R144): CALL_ENDED when the removal has a reason (R145), then the steps of the removal. A reference
that no call holds changes nothing. -/
def removeCall (r : Nat) (reason : Option Reason) (s : State) : State :=
  match s.call r with
  | none => s
  | some c =>
    takeOut c (match reason with
      | some why => queueReport (.callEnded c.ref why c.a c.b c.state) s
      | none => s)

/-! ### Answer -/

/-- What becomes of a party's leg at an ANSWER (R138). -/
inductive LegPlan where
  /-- The party will have no leg. -/
  | none
  /-- The party's leg is OPEN already on this channel. -/
  | already (k channel : Nat)
  /-- A leg the party holds RESERVED is opened. -/
  | openOwned (k : Nat)
  /-- The call's own B-side reservation is transferred to the callee and opened. -/
  | transfer (k : Nat)
  /-- The B-side reservation of another ALERTING call is transferred to the callee and opened. -/
  | transferFrom (k other : Nat)
  /-- A FREE leg is reserved for the callee and opened. -/
  | reserve (k : Nat)
  deriving DecidableEq, Repr

/-- The leg a plan opens (R138). -/
def LegPlan.opens : LegPlan → Option Nat
  | .none => Option.none
  | .already _ _ => Option.none
  | .openOwned k => some k
  | .transfer k => some k
  | .transferFrom k _ => some k
  | .reserve k => some k

/-- The plan for a leg that a party owns: opened when RESERVED, kept when OPEN (R138). -/
def State.ownedPlan (s : State) (k : Nat) : LegPlan :=
  match (s.leg k).use with
  | .free => .none
  | .reserved _ => .openOwned k
  | .opened _ o => .already k o.channel

/-- The plan for the caller (R138). -/
def State.callerPlan (s : State) (c : Call) : LegPlan :=
  match (s.entry c.a).ownedLeg with
  | some k => s.ownedPlan k
  | none => .none

/-- The earliest-routed other ALERTING call that names entry `i` as callee and holds a B-side reservation (R138). -/
def State.otherReservation (s : State) (c : Call) (i : Nat) : Option (Nat × Nat) :=
  (s.calls.filterMap (fun x =>
    if x.ref ≠ c.ref ∧ x.state = .alerting ∧ x.b = .extension i then x.bReservation.map (fun k => (k, x.ref))
    else none)).head?

/-- The plan for a LOCAL callee, entry `i` (R138). -/
def State.calleePlan (s : State) (c : Call) (i : Nat) : LegPlan :=
  match (s.entry i).ownedLeg with
  | some k => s.ownedPlan k
  | none =>
    match c.bReservation with
    | some k => .transfer k
    | none =>
      if (s.entry i).secure then
        match s.otherReservation c i with
        | some (k, other) => .transferFrom k other
        | none =>
          match s.freeLeg with
          | some k => .reserve k
          | none => .none
      else .none

/-- The plan for the B side (R138). -/
def State.bPlan (s : State) (c : Call) : LegPlan :=
  match c.b with
  | .extension i => s.calleePlan c i
  | .group _ =>
    match c.tieLeg with
    | some k => .openOwned k
    | none => .none
  | .service _ => .none

/-- Whether a plan opens a leg and no channel is given for it (R139). -/
def LegPlan.lacksChannel (p : LegPlan) (channel : Option Nat) : Bool := p.opens.isSome && channel.isNone

/-- Whether a plan keeps an OPEN leg and the channel given is not that leg's (R139). -/
def LegPlan.mismatches (p : LegPlan) (channel : Option Nat) : Bool :=
  match p with
  | .already _ c => channel != some c
  | _ => false

/-- Whether a plan opens a leg on a channel on which a leg is OPEN (R139). -/
def State.planInUse (s : State) (p : LegPlan) (channel : Option Nat) : Bool :=
  match p.opens, channel with
  | some _, some c => s.channelInUse c
  | _, _ => false

/-- The refusal of an ANSWER by its channels, if any, in the order of R139. -/
def State.channelRefusal (s : State) (pa pb : LegPlan) (ca cb : Option Nat) : Option Status :=
  if pa.lacksChannel ca || pb.lacksChannel cb then some .badField
  else if pa.mismatches ca || pb.mismatches cb then some .channelMismatch
  else if s.planInUse pa ca || s.planInUse pb cb || (pa.opens.isSome && pb.opens.isSome && ca == cb) then
    some .channelInUse
  else none

/-- The refusal of an ANSWER by the callee of a LOCAL call, if any (R139). -/
def State.calleeRefusal (s : State) (b : BParty) : Option Status :=
  match b with
  | .extension i =>
    if (s.entry i).state ≠ .admitted then some .calleeUnavailable
    else if s.stackLimit i ≤ (s.entry i).stack.length then some .calleeBusy
    else none
  | _ => none

/-- A RESERVED leg passes to the callee's entry: owner and owned leg field at the one event (R53, R77). -/
def transferLeg (k i : Nat) (s : State) : State :=
  (s.setLeg k { s.leg k with use := .reserved (.extension i) }).setEntry i { s.entry i with ownedLeg := some k }

/-- The callee's leg is settled as its plan laid out (R138, R140 step 3): the call's reservation is transferred or, when
the callee owned a leg already, released; another call's reservation is transferred; or a FREE leg is reserved. -/
def settleCallee (c : Call) (i : Nat) (p : LegPlan) (s : State) : State :=
  match p with
  | .transfer k => transferLeg k i (s.updateCall c.ref (fun x => { x with bReservation := none }))
  | .transferFrom k other => transferLeg k i (s.updateCall other (fun x => { x with bReservation := none }))
  | .reserve k => transferLeg k i s
  | _ =>
    match c.bReservation with
    | some k => freeTheLeg k (s.updateCall c.ref (fun x => { x with bReservation := none }))
    | none => s

/-- The leg of a plan is opened on the channel given (R140 step 3). -/
def openPlanned (p : LegPlan) (owner : Owner) (channel : Option Nat) (s : State) : State :=
  match p.opens, channel with
  | some k, some c => openTheLeg k owner c none s
  | _, _ => s

/-- The call is pushed onto the callee's stack (R140 step 2). -/
def pushCallee (c : Call) (s : State) : State :=
  match c.b with
  | .extension i => s.setEntry i { s.entry i with stack := pushStack c.ref (s.entry i).stack }
  | _ => s

/-- The owner of the leg that the B side opens (R50). -/
def bOwner (c : Call) : Owner :=
  match c.b with
  | .extension i => .extension i
  | _ => .tieCall c.ref

/-- The B side's leg is settled (R140 step 3): only a LOCAL callee has anything to settle. -/
def settleBSide (c : Call) (p : LegPlan) (s : State) : State :=
  match c.b with
  | .extension i => settleCallee c i p s
  | _ => s

/-- An ANSWER that passes its tests is taken (R140): TALKING, the push, the legs, the evaluation with the grace timer. When it
opens two legs, R140 gives no order between them and R38 lets either be queued first: the model opens the caller's leg and
offers its jobs before the callee's or the tie leg (DESIGN CHOICE, log 17). -/
def answerCall (c : Call) (pa pb : LegPlan) (ca cb : Option Nat) (t : Long) (s : State) : State :=
  let s := s.updateCall c.ref (fun x =>
    { x with state := .talking, tieNumber := if c.tieLeg.isSome then some t else none })
  let s := pushCallee c s
  let s := settleBSide c pb s
  let s := openPlanned pa (.extension c.a) ca s
  let s := openPlanned pb (bOwner c) cb s
  evaluateCalls s

/-- ANSWER (R138 to R140). -/
def takeAnswer (ref : Word) (channelA channelB : Byte) (t : Long) (s : State) : State × Answer :=
  let ca := channelOf channelA
  let cb := channelOf channelB
  if ref = 0 ∨ 127 < ca.getD 0 ∨ 127 < cb.getD 0 then refuse .badField s
  else if s.mode = .standalone then refuse .noControl s
  else match s.call ref.toNat with
    | none => refuse .notFound s
    | some c =>
      if c.state ≠ .alerting then refuse .state s
      else match s.calleeRefusal c.b with
        | some st => refuse st s
        | none =>
          let pa := s.callerPlan c
          let pb := s.bPlan c
          match s.channelRefusal pa pb ca cb with
          | some st => refuse st s
          | none =>
            let s := answerCall c pa pb ca cb t s
            let status := ((s.call c.ref).map (fun x => x.status)).getD .notSecure
            (s, .now .ok (wordBytes c.ref ++ [placeByte pa.opens, placeByte pb.opens, status.code]))

/-! ### Holding and swapping -/

/-- Three stack places in a reply, top first, unused places 0 (R191). -/
def stackBytes (stack : List StackItem) : List Byte :=
  byteOf stack.length :: [0, 1, 2].flatMap (fun n => match stack[n]? with
    | some x => wordBytes x.call ++ [flagByte x.held]
    | none => [0, 0, 0])

/-- The stack of an entry is replaced and shown in the OK reply (R191). -/
def answerStack (i : Nat) (stack : List StackItem) (s : State) : State × Answer :=
  (s.setEntry i { s.entry i with stack := stack }, .now .ok (stackBytes stack))

/-- HOLD (R141). -/
def takeHold (entry : Word) (s : State) : State × Answer :=
  let i := entry.toNat
  if 511 < i then refuse .badField s
  else if (s.entry i).state ≠ .admitted then refuse .state s
  else match (s.entry i).stack with
    | [] => refuse .state s
    | top :: rest => if top.held then refuse .state s else answerStack i (⟨top.call, true⟩ :: rest) s

/-- RETRIEVE (R141). -/
def takeRetrieve (entry : Word) (s : State) : State × Answer :=
  let i := entry.toNat
  if 511 < i then refuse .badField s
  else if (s.entry i).state ≠ .admitted then refuse .state s
  else match (s.entry i).stack with
    | [] => refuse .state s
    | top :: rest => if top.held then answerStack i (⟨top.call, false⟩ :: rest) s else refuse .state s

/-- SWAP (R142): the call that was on top becomes the second and held, the second becomes the top and not held. -/
def takeSwap (entry : Word) (s : State) : State × Answer :=
  let i := entry.toNat
  if 511 < i then refuse .badField s
  else if (s.entry i).state ≠ .admitted then refuse .state s
  else match (s.entry i).stack with
    | top :: second :: rest => answerStack i (⟨second.call, false⟩ :: ⟨top.call, true⟩ :: rest) s
    | _ => refuse .state s

/-! ### Ending and reading -/

/-- END (R143). -/
def takeEnd (ref : Word) (s : State) : State × Answer :=
  if ref = 0 then refuse .badField s
  else match s.call ref.toNat with
    | none => refuse .notFound s
    | some c => accept (removeCall c.ref none s)

/-- The body of READ CALL (R149, R191). -/
def callBody (s : State) (c : Call) : List Byte :=
  wordBytes c.ref ++ wordBytes c.a ++ [c.b.kindCode] ++ wordBytes c.b.number ++ digitsBytes 20 c.forwarded
    ++ longBytes ((c.tieNumber.map BitVec.toNat).getD 0)
    ++ [placeByte c.tieLeg, byteOf c.service, c.state.code, flagByte c.requiresSecure, c.status.code,
      placeByte c.bReservation, flagByte (s.heldBy c.a c.ref),
      flagByte ((c.b.extension?.map (fun i => s.heldBy i c.ref)).getD false)]
    ++ countWord c.grace ++ [byteOf s.calls.length] ++ wordBytes s.referenceCounter

/-- READ CALL (R149). -/
def takeReadCall (ref : Word) (s : State) : State × Answer :=
  if ref = 0 then refuse .badField s
  else match s.call ref.toNat with
    | none => refuse .notFound s
    | some c => (s, .now .ok (callBody s c))

/-- The meaning of ANSWER (R138 to R140). -/
def execAnswer (tag : Byte) (call : Word) (channelA channelB : Byte) (tieNumber : Long) (s : State) :
    Host.Outcome State Fault Refusal :=
  .next (requestArrives 20 tag 8 (takeAnswer call channelA channelB tieNumber) s)

/-- The meaning of HOLD (R141). -/
def execHold (tag : Byte) (entry : Word) (s : State) : Host.Outcome State Fault Refusal :=
  .next (requestArrives 21 tag 2 (takeHold entry) s)

/-- The meaning of RETRIEVE (R141). -/
def execRetrieve (tag : Byte) (entry : Word) (s : State) : Host.Outcome State Fault Refusal :=
  .next (requestArrives 22 tag 2 (takeRetrieve entry) s)

/-- The meaning of SWAP (R142). -/
def execSwap (tag : Byte) (entry : Word) (s : State) : Host.Outcome State Fault Refusal :=
  .next (requestArrives 23 tag 2 (takeSwap entry) s)

/-- The meaning of END (R143). -/
def execEndCall (tag : Byte) (call : Word) (s : State) : Host.Outcome State Fault Refusal :=
  .next (requestArrives 24 tag 2 (takeEnd call) s)

/-- The meaning of READ_CALL (R149). -/
def execReadCall (tag : Byte) (call : Word) (s : State) : Host.Outcome State Fault Refusal :=
  .next (requestArrives 25 tag 2 (takeReadCall call) s)

end Sys2Proof.Machine
end

