-- ==== Sys2Proof/Machine/Admission.lean ====
section
/-! DEFINITION. The admission unit (06_admission.md): challenge and answer, attempts and lockout, withdrawal, and the
cancellations by the part's modes. -/

namespace Sys2Proof.Machine

/-! ### Attempts and lockout -/

/-- The lockout time in seconds that a failure at this entry brings: base × 2 ^ level (R98). -/
def lockoutSeconds (p : Params) (e : Entry) : Nat := p.lockoutBase * 2 ^ e.level

/-- Whether one more failed attempt locks the entry out (R96). -/
def locksOut (p : Params) (e : Entry) : Bool := decide (p.attemptLimit ≤ e.attempts + 1)

/-- An entry whose admission failed: the attempt is counted, and the entry is ENROLLED, or LOCKED_OUT with its level
raised and its lockout timer set, as `start` sets a timer at this event (R96, R98). -/
def failedEntry (start : Nat → TimerCount) (p : Params) (e : Entry) : Entry :=
  if locksOut p e then
    { e with
      state := .lockedOut
      attempts := e.attempts + 1
      level := min (e.level + 1) 4
      pending := none
      timer := some ⟨.lockout, start (lockoutSeconds p e)⟩ }
  else { e with state := .enrolled, attempts := e.attempts + 1, pending := none, timer := none }

/-- The lockout time a failure reports: 0 when the entry did not lock out (R94, R97). -/
def reportedLockout (p : Params) (e : Entry) : Nat := if locksOut p e then lockoutSeconds p e else 0

/-- LOCKOUT_BEGIN when the failure of entry `e`, as it stood, locked it out (R98). -/
def reportLockout (i : Nat) (e : Entry) (s : State) : State :=
  if locksOut s.params e then
    queueReport (.lockoutBegin i (lockoutSeconds s.params e) (min (e.level + 1) 4)) s
  else s

/-- A lockout ends: the timer removed, the count 0, ENROLLED, the level kept, LOCKOUT_END queued (R99, R100). -/
def endLockout (i : Nat) (cause : Reason) (s : State) : State :=
  queueReport (.lockoutEnd i (s.entry i).level cause)
    (s.setEntry i { s.entry i with state := .enrolled, attempts := 0, timer := none })

/-- Whether an entry's admission window runs (R93). -/
def Entry.windowRuns (e : Entry) : Bool :=
  e.state == .challenged && match e.timer with
    | some ⟨.window, _⟩ => true
    | _ => false

/-- The admission window in seconds for a window choice (R92). -/
def windowSeconds (choice : Nat) : Nat :=
  match choice with
  | 0 => 2
  | 1 => 5
  | 2 => 10
  | _ => 30

/-! ### Challenge and answer -/

/-- A refusal by ADM of an admission request carries the entry (R191). -/
def refuseEntry (status : Status) (entry : Word) (s : State) : State × Answer :=
  (s, .now status (wordBytes entry.toNat))

/-- ADMIT BEGIN (R91): the CHALLENGE job takes the counter's value, which advances; the stamp advances; CHALLENGED. -/
def takeAdmitBegin (entry : Word) (s : State) : State × Answer :=
  let i := entry.toNat
  let e := s.entry i
  if 511 < i then refuseEntry .badField entry s
  else if s.mode = .standalone then refuseEntry .noControl entry s
  else if s.mode = .maintenance then refuseEntry .maintenance entry s
  else if e.state = .lockedOut then refuseEntry .lockedOut entry s
  else if e.state ≠ .enrolled then refuseEntry .state entry s
  else match s.deviceKey with
    | none => refuseEntry .noKey entry s
    | some key =>
      if !s.jobPlace then refuseEntry .busyKeys entry s
      else
        (pushJob (.challenge key s.challengeCounter i (e.stamp + 1))
          ({ s with challengeCounter := s.challengeCounter + 1 }.setEntry i
            { e with state := .challenged, stamp := e.stamp + 1, pending := none, timer := none }),
          .deferred i)

/-- ADMIT ANSWER (R93): the window stops, the CHECK job carries the secret, the challenge number and the answer; the
entry is CHECKING. While a window runs the entry holds both (R77); without them there is nothing to answer. -/
def takeAdmitAnswer (entry first second : Word) (s : State) : State × Answer :=
  let i := entry.toNat
  let e := s.entry i
  if 511 < i then refuseEntry .badField entry s
  else if s.mode = .maintenance then refuseEntry .maintenance entry s
  else if !e.windowRuns then refuseEntry .state entry s
  else if !s.jobPlace then refuseEntry .busyKeys entry s
  else match e.secret, e.pending with
    | some secret, some c =>
      (pushJob (.check secret c first second i e.stamp)
        (s.setEntry i { e with state := .checking, timer := none }), .deferred i)
    | _, _ => refuseEntry .state entry s

/-- A CHALLENGE result is delivered: the challenge number kept, the window started, the deferred reply OK (R92). -/
def deliverChallenge (i : Nat) (deviceKey : Key) (n : Long) (s : State) : State :=
  let c := challengeWords deviceKey n
  let w := windowSeconds s.params.windowChoice
  answerDeferred kindAdmitBegin i .ok
    (wordBytes i ++ wordBytes c.1.toNat ++ wordBytes c.2.toNat ++ [byteOf w])
    (s.setEntry i { s.entry i with pending := some (challengeNumber c.1 c.2), timer := some ⟨.window, .setFor w⟩ })

/-- A CHECK result with a match is delivered: ADMITTED with its session key, counts cleared, the reply ADMITTED
(R95). -/
def deliverMatch (i : Nat) (sk : Key) (s : State) : State :=
  answerDeferred kindAdmitAnswer i .admitted (wordBytes i)
    (s.setEntry i
      { s.entry i with
        state := .admitted
        sk := some sk
        pending := none
        attempts := 0
        level := 0
        register := []
        screening := false
        interdigit := none
        stack := []
        ownedLeg := none })

/-- A CHECK result with a mismatch is delivered: the failed attempt counted, the reply REFUSED_ANSWER, then
LOCKOUT_BEGIN (R97, R98). -/
def deliverMismatch (i : Nat) (s : State) : State :=
  let e := s.entry i
  reportLockout i e
    (answerDeferred kindAdmitAnswer i .refusedAnswer
      (wordBytes i ++ [byteOf (e.attempts + 1)] ++ wordBytes (reportedLockout s.params e))
      (s.setEntry i (failedEntry .setFor s.params e)))

/-! ### Withdrawal -/

/-- An ADMITTED entry is withdrawn: WITHDRAWN, the screening dropped, the session key discarded, its calls removed top
first with reason WITHDRAWN, then its next state (R103). -/
def withdrawEntry (i : Nat) (reason : Reason) (next : EntryState) (s : State) : State :=
  let stack := (s.entry i).stack
  let s := endScreening i (queueReport (.withdrawn i reason stack.length) s)
  let s := s.setEntry i { s.entry i with sk := none }
  let s := stack.foldl (fun s x => removeCall x.call (some .withdrawn) s) s
  s.setEntry i { s.entry i with state := next }

/-- WITHDRAW (R102): the reply carries the number of calls ended, and the transmitter sends it ahead of the reports of the
withdrawal. The model forms it before they are queued, so that an idle transmitter takes it first; the two queues then hold
what they hold where the reports are queued first and none is taken before the reply (DEDUCED, log 6). -/
def takeWithdraw (entry : Word) (s : State) : State × Answer :=
  let i := entry.toNat
  if 511 < i then refuse .badField s
  else if (s.entry i).state ≠ .admitted then refuse .state s
  else (s, .nowThen .ok [byteOf (s.entry i).stack.length] (withdrawEntry i .host .enrolled))

/-- CLEAR LOCKOUT (R100). -/
def takeClearLockout (entry : Word) (s : State) : State × Answer :=
  let i := entry.toNat
  if 511 < i then refuse .badField s
  else if (s.entry i).state ≠ .lockedOut then refuse .state s
  else accept (endLockout i .request s)

/-! ### Cancellation -/

/-- The CANCELLED reply that an entry in admission is owed: ADMIT BEGIN's while it awaits its challenge, ADMIT ANSWER's
while it is checked (R88, R105). With the window running none is owed, and none is found. -/
def cancelReply (i : Nat) (s : State) : State :=
  match (s.entry i).state with
  | .challenged => answerDeferred kindAdmitBegin i .cancelled (wordBytes i) s
  | .checking => answerDeferred kindAdmitAnswer i .cancelled (wordBytes i) s
  | _ => s

/-- An admission in progress is cancelled without an attempt counted, leaving the entry in `next` (R88, R105). -/
def cancelAdmission (next : EntryState) (i : Nat) (s : State) : State :=
  let s := cancelReply i s
  s.setEntry i { s.entry i with state := next, pending := none, timer := none }

/-- Whether an entry is in admission. -/
def Entry.inAdmission (e : Entry) : Bool := e.state == .challenged || e.state == .checking

/-- The entries in admission, in index order (R105). -/
def State.admissions (s : State) : List Nat := places Entry.inAdmission s.directory

/-- Every admission in progress is cancelled, in index order (R105). -/
def cancelAdmissions (s : State) : State := s.admissions.foldl (fun s i => cancelAdmission .enrolled i s) s

/-- An ADMITTED entry as MAINT ENTER leaves it (R106). -/
def maintenanceEntry (e : Entry) : Entry :=
  match e.state with
  | .admitted => { e with state := .enrolled, sk := none, screening := false, register := [], interdigit := none }
  | _ => e

/-- An entry as RESTART leaves it (R90, R107). -/
def restartedEntry (e : Entry) : Entry :=
  let cleared := { e with register := [], screening := false, interdigit := none, stack := [], ownedLeg := none }
  match e.state with
  | .challenged => { cleared with state := .enrolled, pending := none, sk := none, timer := none }
  | .checking => { cleared with state := .enrolled, pending := none, sk := none, timer := none }
  | .admitted => { cleared with state := .enrolled, pending := none, sk := none, timer := none }
  | _ => cleared

/-- An entry as a new attempt limit leaves it (R101). -/
def limitedEntry (limit : Nat) (e : Entry) : Entry :=
  if e.state ≠ .vacant ∧ e.state ≠ .lockedOut ∧ limit ≤ e.attempts then { e with attempts := limit - 1 } else e

/-- The meaning of ADMIT_BEGIN (R91). -/
def execAdmitBegin (tag : Byte) (entry : Word) (s : State) : Host.Outcome State Fault Refusal :=
  .next (requestArrives 8 tag 2 (takeAdmitBegin entry) s)

/-- The meaning of ADMIT_ANSWER (R93). -/
def execAdmitAnswer (tag : Byte) (entry first second : Word) (s : State) : Host.Outcome State Fault Refusal :=
  .next (requestArrives 9 tag 6 (takeAdmitAnswer entry first second) s)

/-- The meaning of CLEAR_LOCKOUT (R100). -/
def execClearLockout (tag : Byte) (entry : Word) (s : State) : Host.Outcome State Fault Refusal :=
  .next (requestArrives 10 tag 2 (takeClearLockout entry) s)

/-- The meaning of WITHDRAW (R102). -/
def execWithdraw (tag : Byte) (entry : Word) (s : State) : Host.Outcome State Fault Refusal :=
  .next (requestArrives 11 tag 2 (takeWithdraw entry) s)

end Sys2Proof.Machine
end

