-- ==== Sys2Proof/Machine/Directory.lean ====
section
/-! DEFINITION. The directory requests of 05_extension_directory.md. -/

namespace Sys2Proof.Machine

/-- The fields of an ENROLL record after their range test (R81, test 1). -/
structure Enrollment where
  index : Nat
  number : List Nat
  cls : Nat
  secure : Bool
  secret : Key
  deriving DecidableEq, Repr

/-- The range test of an ENROLL record (R81, test 1). -/
def enrollmentOf (r : EnrollRecord) : Option Enrollment :=
  match digitsOf 3 6 r.number, flagOf r.secure with
  | some number, some secure =>
    if r.entry.toNat ≤ 511 ∧ r.cls.toNat ≤ 15 then
      some ⟨r.entry.toNat, number, r.cls.toNat, secure, r.secret⟩
    else none
  | _, _ => none

/-- An entry as enrollment leaves it: the attempt stamp kept, the write-once mark used outside MAINTENANCE (R82). -/
def enrolledEntry (mode : Mode) (old : Entry) (x : Enrollment) : Entry :=
  { Entry.vacant with
    state := .enrolled
    number := x.number
    cls := x.cls
    secure := x.secure
    secret := some x.secret
    secretUsed := mode != .maintenance
    stamp := old.stamp }

/-- The refusal of an enrollment by its entry, number and secret, if any (R81, tests 2 to 4). -/
def State.enrollRefusal (s : State) (x : Enrollment) : Option Status :=
  if (s.entry x.index).state ≠ .vacant then some .state
  else if (s.lookupNumber x.number).isSome then some .duplicate
  else if weakKey x.secret then some .weakKey
  else none

/-- The records of an ENROLL, in order, stopping at the first refusal; `done` counts those enrolled (R81). -/
def enrollRecords (done : Nat) : List EnrollRecord → State → State × Answer
  | [], s => (s, .now .ok [byteOf done])
  | r :: rest, s =>
    match enrollmentOf r with
    | none => (s, .now .badField [byteOf done])
    | some x =>
      match s.enrollRefusal x with
      | some st => (s, .now st [byteOf done])
      | none => enrollRecords (done + 1) rest (s.setEntry x.index (enrolledEntry s.mode (s.entry x.index) x))

/-- ENROLL (R81, R82). -/
def takeEnroll (records : List EnrollRecord) (s : State) : State × Answer := enrollRecords 0 records s

/-- The payload length of an ENROLL (R190). -/
def enrollLength (records : List EnrollRecord) : Nat := (records.map (fun r => 13 + r.number.bytes.length)).sum

/-- The states that refuse SET SECRET and REMOVE (R83, R85). -/
def EntryState.refusesSecret (st : EntryState) : Bool :=
  st == .vacant || st == .challenged || st == .checking || st == .admitted

/-- SET SECRET (R83). -/
def takeSetSecret (entry : Word) (secret : Key) (s : State) : State × Answer :=
  let i := entry.toNat
  let e := s.entry i
  if 511 < i then refuse .badField s
  else if e.state.refusesSecret then refuse .state s
  else if s.mode ≠ .maintenance ∧ e.secretUsed then refuse .writtenOnce s
  else if weakKey secret then refuse .weakKey s
  else accept (s.setEntry i
    { e with secret := some secret, secretUsed := e.secretUsed || s.mode != .maintenance })

/-- REMOVE (R85): the entry is VACANT, its attempt stamp kept. -/
def takeRemove (entry : Word) (s : State) : State × Answer :=
  let i := entry.toNat
  let e := s.entry i
  if 511 < i then refuse .badField s
  else if e.state.refusesSecret then refuse .state s
  else if s.calls.any (fun c => c.b == .extension i) then refuse .callsPresent s
  else accept (s.setEntry i { Entry.vacant with stamp := e.stamp })

/-- SET CLASS (R86). -/
def takeSetClass (entry : Word) (cls : Byte) (s : State) : State × Answer :=
  let i := entry.toNat
  if 511 < i then refuse .badField s
  else if 15 < cls.toNat then refuse .badField s
  else if (s.entry i).state = .vacant then refuse .state s
  else accept (s.setEntry i { s.entry i with cls := cls.toNat })

/-- An entry is made BARRED, after the steps for its state (R88). -/
def barEntry (i : Nat) (s : State) : State :=
  let e := s.entry i
  match e.state with
  | .challenged => cancelAdmission .barred i s
  | .checking => cancelAdmission .barred i s
  | .admitted => withdrawEntry i .barred .barred s
  | .lockedOut => s.setEntry i { e with state := .barred, attempts := 0, timer := none }
  | _ => s.setEntry i { e with state := .barred }

/-- BAR (R88). -/
def takeBar (entry : Word) (s : State) : State × Answer :=
  let i := entry.toNat
  if 511 < i then refuse .badField s
  else if (s.entry i).state = .vacant ∨ (s.entry i).state = .barred then refuse .state s
  else accept (barEntry i s)

/-- UNBAR (R89). -/
def takeUnbar (entry : Word) (s : State) : State × Answer :=
  let i := entry.toNat
  if 511 < i then refuse .badField s
  else if (s.entry i).state ≠ .barred then refuse .state s
  else accept (s.setEntry i { s.entry i with state := .enrolled })

/-- The body of READ EXTENSION (R87, R191). -/
def extensionBody (s : State) (i : Nat) : List Byte :=
  let e := s.entry i
  wordBytes i ++ [e.state.code] ++ digitsBytes 6 e.number
    ++ [byteOf e.cls, flagByte e.secure, flagByte e.secret.isSome, flagByte e.secretUsed, byteOf e.attempts,
      byteOf e.level, e.stamp, flagByte e.pending.isSome, flagByte e.sk.isSome, timerKindCode e.timer]
    ++ countLong (e.timer.map (fun t => t.count)) ++ digitsBytes 16 e.register ++ [flagByte e.screening]
    ++ countWord e.interdigit ++ stackBytes e.stack ++ [placeByte e.ownedLeg]

/-- READ EXTENSION (R87): by index, or by a number of 3 to 6 digits in the map. -/
def takeReadExtension (name : ExtensionName) (s : State) : State × Answer :=
  match name with
  | .byIndex entry => if 511 < entry.toNat then refuse .badField s else (s, .now .ok (extensionBody s entry.toNat))
  | .byNumber number =>
    match digitsOf 3 6 number with
    | none => refuse .badField s
    | some digits =>
      match s.lookupNumber digits with
      | none => refuse .notFound s
      | some i => (s, .now .ok (extensionBody s i))

/-- The payload length of a READ EXTENSION (R190). -/
def extensionNameLength : ExtensionName → Nat
  | .byIndex _ => 2
  | .byNumber n => 1 + n.bytes.length

/-- The meaning of ENROLL (R81). -/
def execEnroll (tag : Byte) (records : List EnrollRecord) (s : State) : Host.Outcome State Fault Refusal :=
  .next (requestArrives 1 tag (enrollLength records) (takeEnroll records) s)

/-- The meaning of SET_SECRET (R83). -/
def execSetSecret (tag : Byte) (entry : Word) (secret : Key) (s : State) : Host.Outcome State Fault Refusal :=
  .next (requestArrives 2 tag 10 (takeSetSecret entry secret) s)

/-- The meaning of REMOVE (R85). -/
def execRemove (tag : Byte) (entry : Word) (s : State) : Host.Outcome State Fault Refusal :=
  .next (requestArrives 3 tag 2 (takeRemove entry) s)

/-- The meaning of SET_CLASS (R86). -/
def execSetClass (tag : Byte) (entry : Word) (cls : Byte) (s : State) : Host.Outcome State Fault Refusal :=
  .next (requestArrives 4 tag 3 (takeSetClass entry cls) s)

/-- The meaning of BAR (R88). -/
def execBar (tag : Byte) (entry : Word) (s : State) : Host.Outcome State Fault Refusal :=
  .next (requestArrives 5 tag 2 (takeBar entry) s)

/-- The meaning of UNBAR (R89). -/
def execUnbar (tag : Byte) (entry : Word) (s : State) : Host.Outcome State Fault Refusal :=
  .next (requestArrives 6 tag 2 (takeUnbar entry) s)

/-- The meaning of READ_EXTENSION (R87). -/
def execReadExtension (tag : Byte) (name : ExtensionName) (s : State) : Host.Outcome State Fault Refusal :=
  .next (requestArrives 7 tag (extensionNameLength name) (takeReadExtension name) s)

end Sys2Proof.Machine
end

