-- ==== Sys2Proof/Machine/Groups.lean ====
section
/-! DEFINITION. The trunk group requests of 09_trunk_groups_and_tie_lines.md. -/

namespace Sys2Proof.Machine

/-- The group kind a byte names (R192). -/
def groupKindOf (b : Byte) : Option GroupKind := if b = 0 then some .plain else if b = 1 then some .tie else none

/-- The tie end a byte names (R192). -/
def tieEndOf (b : Byte) : Option TieEnd := if b = 0 then some .a else if b = 1 then some .b else none

/-- WRITE GROUP (R153): the budget is clamped to the active count from below. -/
def takeWriteGroup (group kind tieEnd budget : Byte) (s : State) : State × Answer :=
  if s.lockRefuses then refuse .locked s
  else if 15 < group.toNat then refuse .badField s
  else match groupKindOf kind, tieEndOf tieEnd with
    | some k, some e =>
      let g := s.group group.toNat
      if 96 < budget.toNat then refuse .badField s
      else if g.kind ≠ k ∧ 0 < g.active then refuse .callsPresent s
      else
        let applied := max budget.toNat g.active
        (s.setGroup group.toNat { g with kind := k, tieEnd := e, budget := applied },
          .now .ok [group, byteOf applied])
    | _, _ => refuse .badField s

/-- SET TIE KEY (R154). -/
def takeSetTieKey (group : Byte) (key : Key) (s : State) : State × Answer :=
  let g := s.group group.toNat
  if 15 < group.toNat then refuse .badField s
  else if s.lockRefuses then refuse .locked s
  else if s.mode ≠ .maintenance ∧ g.tieKeyUsed then refuse .writtenOnce s
  else if weakKey key then refuse .weakKey s
  else accept (s.setGroup group.toNat
    { g with tieKey := some key, tieKeyUsed := g.tieKeyUsed || s.mode != .maintenance })

/-- The body of READ GROUP (R155, R191). -/
def groupBody (n : Byte) (g : Group) : List Byte :=
  [n, g.kind.code, g.tieEnd.code, byteOf g.budget, byteOf g.active, flagByte g.tieKey.isSome, flagByte g.tieKeyUsed]

/-- READ GROUP (R155). -/
def takeReadGroup (group : Byte) (s : State) : State × Answer :=
  if 15 < group.toNat then refuse .badField s else (s, .now .ok (groupBody group (s.group group.toNat)))

/-- The meaning of WRITE_GROUP (R153). -/
def execWriteGroup (tag group kind tieEnd budget : Byte) (s : State) : Host.Outcome State Fault Refusal :=
  .next (requestArrives 26 tag 4 (takeWriteGroup group kind tieEnd budget) s)

/-- The meaning of SET_TIE_KEY (R154). -/
def execSetTieKey (tag group : Byte) (key : Key) (s : State) : Host.Outcome State Fault Refusal :=
  .next (requestArrives 27 tag 9 (takeSetTieKey group key) s)

/-- The meaning of READ_GROUP (R155). -/
def execReadGroup (tag group : Byte) (s : State) : Host.Outcome State Fault Refusal :=
  .next (requestArrives 28 tag 1 (takeReadGroup group) s)

end Sys2Proof.Machine
end

