-- ==== Sys2Proof/Machine/Screening.lean ====
section
/-! DEFINITION. The screening unit (07_classes_routes_and_dialled_number_screening.md): the class and route tables,
digit collection, the walk of the route table, and the decision. -/

namespace Sys2Proof.Machine

/-! ### The class table -/

/-- The legalities of WRITE CLASS, when every byte names one (R111). -/
def legalitiesOf (bytes : List Byte) : Option (List Legality) := bytes.mapM legalityOf

/-- WRITE CLASS (R111). -/
def takeWriteClass (cls limit : Byte) (legalities : List Byte) (s : State) : State × Answer :=
  if s.lockRefuses then refuse .locked s
  else if 15 < cls.toNat ∨ limit.toNat < 1 ∨ 3 < limit.toNat then refuse .badField s
  else match legalitiesOf legalities with
    | none => refuse .badField s
    | some ls => accept (s.setClassRecord cls.toNat ⟨limit.toNat, tableOfList 32 .barred ls⟩)

/-- The body of READ CLASS: the 34 bytes of WRITE CLASS (R112, R191). -/
def classBody (n : Byte) (r : ClassRecord) : List Byte :=
  n :: byteOf r.limit :: r.legalities.toList.map Legality.code

/-- READ CLASS (R112). -/
def takeReadClass (cls : Byte) (s : State) : State × Answer :=
  if 15 < cls.toNat then refuse .badField s else (s, .now .ok (classBody cls (s.classRecord cls.toNat)))

/-! ### The route table -/

/-- The length L of a route (R113). -/
def Route.length (r : Route) : Nat := r.low.length

/-- The range of a route cut to its first `k` digits, by value (R114, R121). -/
def Route.cut (r : Route) (k : Nat) : Nat × Nat :=
  (digitsValue r.low / 10 ^ (r.length - k), digitsValue r.high / 10 ^ (r.length - k))

/-- Whether two routes conflict: their ranges cut to the shorter length meet (R114). -/
def Route.conflicts (a b : Route) : Bool :=
  let k := min a.length b.length
  decide ((a.cut k).1 ≤ (b.cut k).2 ∧ (b.cut k).1 ≤ (a.cut k).2)

/-- The kind and destination of a route, when its bytes name one (R115, R189). -/
def routeKindOf (kind destination : Byte) : Option RouteKind :=
  if kind = 0 then some .localCall
  else if kind = 1 then if destination.toNat ≤ 15 then some (.trunk destination.toNat) else none
  else if kind = 2 then some (.service destination.toNat)
  else none

/-- Whether a kind is TRUNK. -/
def RouteKind.isTrunk : RouteKind → Bool
  | .trunk _ => true
  | _ => false

/-- The route that WRITE ROUTE's fields give, when they pass the range tests (R115). -/
def routeOf (f : RouteFields) : Option Route :=
  match digitsOf 1 16 f.low, digitsOf 1 16 f.high, routeKindOf f.kind f.destination, flagOf f.secureRequired,
      digitsOf 0 4 f.insert with
  | some low, some high, some kind, some req, some ins =>
    if low.length = high.length ∧ digitsValue low ≤ digitsValue high ∧ f.service.toNat ≤ 31
        ∧ f.strip.toNat ≤ low.length ∧ (kind.isTrunk ∨ (f.strip = 0 ∧ ins = [])) then
      some
        { low := low
          high := high
          kind := kind
          service := f.service.toNat
          secureRequired := req
          strip := f.strip.toNat
          insert := ins }
    else none
  | _, _, _, _, _ => none

/-- Whether a route conflicts with an occupied entry other than `n` (R115). -/
def State.routeConflict (s : State) (n : Nat) (r : Route) : Bool :=
  (List.range Config.routeEntries).any (fun m => m != n && match s.route m with
    | some other => r.conflicts other
    | none => false)

/-- WRITE ROUTE (R115). -/
def takeWriteRoute (route : Byte) (fields : RouteFields) (s : State) : State × Answer :=
  if s.lockRefuses then refuse .locked s
  else if 63 < route.toNat then refuse .badField s
  else match routeOf fields with
    | none => refuse .badField s
    | some r =>
      if s.routeConflict route.toNat r then refuse .conflict s else accept (s.setRoute route.toNat (some r))

/-- CLEAR ROUTE (R116). -/
def takeClearRoute (route : Byte) (s : State) : State × Answer :=
  if s.lockRefuses then refuse .locked s
  else if 63 < route.toNat then refuse .badField s
  else accept (s.setRoute route.toNat none)

/-- The body of READ ROUTE: the entry, whether occupied, and bytes 2 to 45 of WRITE ROUTE (R117, R191). -/
def routeBody (n : Byte) (r : Option Route) : List Byte :=
  n :: match r with
    | none => 0 :: List.replicate 44 0
    | some r =>
      1 :: (digitsBytes 16 r.low ++ digitsBytes 16 r.high
        ++ [r.kind.code, r.kind.destinationByte, byteOf r.service, flagByte r.secureRequired, byteOf r.strip]
        ++ digitsBytes 4 r.insert)

/-- READ ROUTE (R117). -/
def takeReadRoute (route : Byte) (s : State) : State × Answer :=
  if 63 < route.toNat then refuse .badField s else (s, .now .ok (routeBody route (s.route route.toNat)))

/-- The payload length of a WRITE ROUTE (R190). -/
def writeRouteLength (f : RouteFields) : Nat := 9 + f.low.bytes.length + f.high.bytes.length + f.insert.bytes.length

/-! ### The walk -/

/-- Whether a route is a candidate for `k` digits of value `p` (R121). -/
def Route.candidate (r : Route) (k p : Nat) : Bool :=
  decide (k ≤ r.length ∧ (r.cut k).1 ≤ p ∧ p ≤ (r.cut k).2)

/-- Whether a route is an exact match for `k` digits of value `p` (R121). -/
def Route.exact (r : Route) (k p : Nat) : Bool :=
  decide (r.length = k ∧ digitsValue r.low ≤ p ∧ p ≤ digitsValue r.high)

/-- The outcome of a walk (R121). -/
inductive Walk where
  | exact (n : Nat) (route : Route)
  | noRoute
  | more
  deriving DecidableEq, Repr

/-- The occupied route entries with their numbers, in entry order (R121). -/
def State.occupiedRoutes (s : State) : List (Nat × Route) :=
  (List.range Config.routeEntries).filterMap (fun n => (s.route n).map (fun r => (n, r)))

/-- The walk of the route table for the digits collected (R121). -/
def State.walk (s : State) (digits : List Nat) : Walk :=
  let k := digits.length
  let p := digitsValue digits
  match s.occupiedRoutes.find? (fun x => x.2.exact k p) with
  | some (n, r) => .exact n r
  | none => if s.occupiedRoutes.any (fun x => x.2.candidate k p) then .more else .noRoute

/-! ### The decision -/

/-- The legality of a service for the class of entry `i` as it stands (R125). -/
def State.legality (s : State) (i service : Nat) : Legality :=
  readAt (s.classRecord (s.entry i).cls).legalities .barred service

/-- Whether a call by a route requires secure (R125). -/
def requiresSecure (l : Legality) (r : Route) : Bool := l == .secureOnly || r.secureRequired

/-- The forwarded digits of a TRUNK call: the strip count removed, the insert put before what remains (R130). -/
def forwardedDigits (r : Route) (digits : List Nat) : List Nat := r.insert ++ digits.drop r.strip

/-- The party check of the decision: the destination and forwarded digits, or the refusal (R126, R127). -/
def State.partyCheck (s : State) (i : Nat) (r : Route) (digits : List Nat) : Except Status (BParty × List Nat) :=
  match r.kind with
  | .service code => .ok (.service code, [])
  | .trunk g =>
    if (s.group g).kind = .tie ∧ (s.group g).tieKey.isNone then .error .noKey
    else if (s.group g).budget ≤ (s.group g).active then .error .groupFull
    else .ok (.group g, forwardedDigits r digits)
  | .localCall =>
    match s.lookupNumber digits with
    | none => .error .noSuchExtension
    | some j =>
      if j = i then .error .selfCall
      else if (s.entry j).state ≠ .admitted then .error .calleeUnavailable
      else if s.stackLimit j ≤ (s.entry j).stack.length then .error .calleeBusy
      else .ok (.extension j, [])

/-- The decision at an exact match: the hand-over that passes every check, or the refusal (R125 to R129). -/
def State.decision (s : State) (i : Nat) (r : Route) (digits : List Nat) : Except Status HandOver :=
  let l := s.legality i r.service
  if l = .barred then .error .barredService
  else match s.partyCheck i r digits with
    | .error st => .error st
    | .ok (b, forwarded) =>
      if s.stackLimit i ≤ (s.entry i).stack.length then .error .callLimit
      else
        let h : HandOver := ⟨i, b, forwarded, r.service, requiresSecure l r⟩
        match s.handOverRefusal h with
        | some st => .error st
        | none => .ok h

/-- The body of a ROUTED reply (R129, R191). -/
def routedBody (i n ref : Nat) (r : Route) (h : HandOver) : List Byte :=
  wordBytes i ++ [byteOf n] ++ wordBytes ref ++ [r.kind.code]
    ++ wordBytes (h.b.extension?.getD 0)
    ++ (match h.b with
      | .extension _ => [0, 0]
      | .group g => [byteOf g, 0]
      | .service c => [0, byteOf c])
    ++ digitsBytes 20 h.forwarded

/-- An exact match decides the call: screening ends, and the DIGIT is answered with the outcome (R125, R129). -/
def decideCall (i n : Nat) (r : Route) (digits : List Nat) (s : State) : State × Answer :=
  match s.decision i r digits with
  | .error st => (endScreening i s, .now st (wordBytes i ++ [byteOf n]))
  | .ok h => (createCall h (endScreening i s), .now .routed (routedBody i n s.newReference r h))

/-! ### Digit collection -/

/-- DIAL START (R119). -/
def takeDialStart (entry : Word) (s : State) : State × Answer :=
  let i := entry.toNat
  let e := s.entry i
  if 511 < i then refuse .badField s
  else if s.mode = .standalone then refuse .noControl s
  else if s.mode = .maintenance then refuse .maintenance s
  else if e.state ≠ .admitted ∨ e.screening then refuse .state s
  else if s.stackLimit i ≤ e.stack.length then refuse .callLimit s
  else accept (s.setEntry i
    { e with register := [], screening := true, interdigit := some (.setFor s.params.interdigitTime) })

/-- DIGIT (R120, R121): the digit is appended, the timer restarted, and the table walked. -/
def takeDigit (entry : Word) (value : Byte) (s : State) : State × Answer :=
  let i := entry.toNat
  let e := s.entry i
  if 511 < i ∨ 9 < value.toNat then refuse .badField s
  else if s.mode = .maintenance then refuse .maintenance s
  else if !e.screening then refuse .state s
  else
    let digits := e.register ++ [value.toNat]
    let s := s.setEntry i { e with register := digits, interdigit := some (.setFor s.params.interdigitTime) }
    let taken := wordBytes i ++ [byteOf digits.length]
    match s.walk digits with
    | .exact n r => decideCall i n r digits s
    | .noRoute => (endScreening i s, .now .noRoute taken)
    | .more => (s, .now .more taken)

/-- DIAL ABORT (R124). -/
def takeDialAbort (entry : Word) (s : State) : State × Answer :=
  let i := entry.toNat
  if 511 < i then refuse .badField s
  else if s.mode = .maintenance then refuse .maintenance s
  else if !(s.entry i).screening then refuse .state s
  else accept (endScreening i s)

/-- The meaning of DIAL_START (R119). -/
def execDialStart (tag : Byte) (entry : Word) (s : State) : Host.Outcome State Fault Refusal :=
  .next (requestArrives 12 tag 2 (takeDialStart entry) s)

/-- The meaning of DIGIT (R120). -/
def execDigit (tag : Byte) (entry : Word) (value : Byte) (s : State) : Host.Outcome State Fault Refusal :=
  .next (requestArrives 13 tag 3 (takeDigit entry value) s)

/-- The meaning of DIAL_ABORT (R124). -/
def execDialAbort (tag : Byte) (entry : Word) (s : State) : Host.Outcome State Fault Refusal :=
  .next (requestArrives 14 tag 2 (takeDialAbort entry) s)

/-- The meaning of WRITE_CLASS (R111). -/
def execWriteClass (tag cls limit : Byte) (legalities : List Byte) (s : State) : Host.Outcome State Fault Refusal :=
  .next (requestArrives 15 tag (2 + legalities.length) (takeWriteClass cls limit legalities) s)

/-- The meaning of READ_CLASS (R112). -/
def execReadClass (tag cls : Byte) (s : State) : Host.Outcome State Fault Refusal :=
  .next (requestArrives 16 tag 1 (takeReadClass cls) s)

/-- The meaning of WRITE_ROUTE (R115). -/
def execWriteRoute (tag route : Byte) (fields : RouteFields) (s : State) : Host.Outcome State Fault Refusal :=
  .next (requestArrives 17 tag (writeRouteLength fields) (takeWriteRoute route fields) s)

/-- The meaning of CLEAR_ROUTE (R116). -/
def execClearRoute (tag route : Byte) (s : State) : Host.Outcome State Fault Refusal :=
  .next (requestArrives 18 tag 1 (takeClearRoute route) s)

/-- The meaning of READ_ROUTE (R117). -/
def execReadRoute (tag route : Byte) (s : State) : Host.Outcome State Fault Refusal :=
  .next (requestArrives 19 tag 1 (takeReadRoute route) s)

end Sys2Proof.Machine
end

