-- ==== Sys2Proof/Machine/KeyUnit.lean ====
section
/-! DEFINITION. The key unit (03_key_unit.md): the four completions, the retry of refused offers at a tick, and the
device key's requests. A completion event is the end of a key frame whose oldest job is of the event's kind; with another
job or none at the head it does not occur. -/

namespace Sys2Proof.Machine

/-- The state with the oldest job removed: it has left the queue before its result is delivered (R37). -/
def dropJob (s : State) : State := { s with jobs := s.jobs.tail }

/-- Whether an entry still expects its CHALLENGE job (R43). -/
def State.expectsChallenge (s : State) (i : Nat) (stamp : Byte) : Bool :=
  (s.entry i).stamp == stamp && (s.entry i).state == .challenged

/-- Whether an entry still expects its CHECK job (R43). -/
def State.expectsCheck (s : State) (i : Nat) (stamp : Byte) : Bool :=
  (s.entry i).stamp == stamp && (s.entry i).state == .checking

/-- Whether a leg is owned by a tie call. -/
def LegUse.isTie (u : LegUse) : Bool :=
  match u.owner? with
  | some (.tieCall _) => true
  | _ => false

/-- Whether a tie leg still expects its TIE SESSION job (R43). -/
def State.expectsSession (s : State) (k : Nat) (stamp : Byte) : Bool :=
  (s.leg k).stamp == stamp && (s.leg k).use.isTie && match s.openLeg? k with
    | some o => o.sk.isNone
    | none => false

/-- The oldest job, a CHALLENGE, completes: delivered when expected, discarded otherwise (R43, R92). -/
def completeChallenge (s : State) : State :=
  match s.jobs with
  | .challenge key n i stamp :: _ =>
    let s := dropJob s
    if s.expectsChallenge i stamp then deliverChallenge i key n s else s
  | _ => s

/-- The oldest job, a CHECK, completes (R43, R95, R97). -/
def completeCheck (s : State) : State :=
  match s.jobs with
  | .check secret c first second i stamp :: _ =>
    let s := dropJob s
    if s.expectsCheck i stamp then
      if answerMatches secret c first second then deliverMatch i (sessionKey secret c) s else deliverMismatch i s
    else s
  | _ => s

/-- A session key is stored in a tie leg, and its directions offer their EPOCH jobs, outbound first (R157). -/
def deliverSession (k : Nat) (sk : Key) (s : State) : State :=
  let s := s.updateOpen k (fun o => { o with sk := some sk, sessionOutstanding := false })
  offerEpoch k .inbound (offerEpoch k .outbound s)

/-- The oldest job, a TIE SESSION, completes (R43, R157). -/
def completeSession (s : State) : State :=
  match s.jobs with
  | .tieSession key t k stamp :: _ =>
    let s := dropJob s
    if s.expectsSession k stamp then deliverSession k (tieSessionKey key t) s else s
  | _ => s

/-- An EPOCH result for epoch `e` reaches a direction whose job is outstanding: installed when the direction wants that
epoch (R57), replaced by a job for the epoch it now wants (R44), or discarded when it wants none (R43). -/
def settleEpoch (sk : Key) (e : Long) (k : Nat) (d : Direction) (o : OpenLeg) (s : State) : State :=
  match (o.keys d).wanted with
  | none => s
  | some w =>
    if w = e then deliverEpoch k d e (epochKey sk e) s
    else match o.sk with
      | some now => pushJob (.epoch now w k d (s.leg k).stamp) s
      | none => s

/-- The oldest job, an EPOCH, completes (R43, R44, R57). -/
def completeEpoch (s : State) : State :=
  match s.jobs with
  | .epoch sk e k d stamp :: _ =>
    let s := dropJob s
    match s.openLeg? k with
    | some o => if (s.leg k).stamp = stamp ∧ (o.keys d).outstanding then settleEpoch sk e k d o s else s
    | none => s
  | _ => s

/-- The marked offers of leg `k` at a tick: TIE SESSION, outbound EPOCH, inbound EPOCH (R42). -/
def retryLeg (k : Nat) (s : State) : State :=
  let s := match s.openLeg? k with
    | some o => if o.sessionWanted then offerSession k s else s
    | none => s
  retryEpoch k .inbound (retryEpoch k .outbound s)

/-- Every marked offer is made again, lowest leg first (R42). -/
def retryJobs (s : State) : State := (List.range Config.legs).foldl (fun s k => retryLeg k s) s

/-- SET DEVICE KEY (R47). -/
def takeSetDeviceKey (key : Key) (start : Long) (s : State) : State × Answer :=
  if s.lockRefuses then refuse .locked s
  else if s.mode ≠ .maintenance ∧ s.deviceKeyUsed then refuse .writtenOnce s
  else if weakKey key then refuse .weakKey s
  else accept { s with
    deviceKey := some key
    challengeCounter := start
    deviceKeyUsed := s.deviceKeyUsed || s.mode != .maintenance }

/-- The body of READ KEY UNIT (R48, R191). -/
def keyUnitBody (s : State) : List Byte :=
  [flagByte s.deviceKey.isSome, flagByte s.deviceKeyUsed] ++ longBytes s.challengeCounter.toNat ++ [byteOf s.jobs.length]

/-- READ KEY UNIT (R48). -/
def takeReadKeyUnit (s : State) : State × Answer := (s, .now .ok (keyUnitBody s))

/-- The meaning of SET_DEVICE_KEY (R47). -/
def execSetDeviceKey (tag : Byte) (key : Key) (counterStart : Long) (s : State) : Host.Outcome State Fault Refusal :=
  .next (requestArrives 32 tag 12 (takeSetDeviceKey key counterStart) s)

/-- The meaning of READ_KEY_UNIT (R48). -/
def execReadKeyUnit (tag : Byte) (s : State) : Host.Outcome State Fault Refusal :=
  .next (requestArrives 33 tag 0 takeReadKeyUnit s)

/-- The meaning of CHALLENGE_COMPLETION (R43, R92). -/
def execChallengeCompletion (s : State) : Host.Outcome State Fault Refusal :=
  .next (unlessHeld completeChallenge s)

/-- The meaning of CHECK_COMPLETION (R43, R95, R97). -/
def execCheckCompletion (s : State) : Host.Outcome State Fault Refusal :=
  .next (unlessHeld completeCheck s)

/-- The meaning of TIE_SESSION_COMPLETION (R43, R157). -/
def execTieSessionCompletion (s : State) : Host.Outcome State Fault Refusal :=
  .next (unlessHeld completeSession s)

/-- The meaning of EPOCH_COMPLETION (R43, R44, R57). -/
def execEpochCompletion (s : State) : Host.Outcome State Fault Refusal :=
  .next (unlessHeld completeEpoch s)

/-- The meaning of JOB_RETRY_TICK (R42). -/
def execJobRetryTick (s : State) : Host.Outcome State Fault Refusal :=
  .next (unlessHeld retryJobs s)

end Sys2Proof.Machine
end

