-- ==== Sys2Proof/Machine/Supervision.lean ====
section
/-! DEFINITION. Supervision (11_supervision_configuration_lock_and_maintenance.md): parameters, the configuration lock,
the silence monitor, maintenance, RESTART and the hard reset. -/

namespace Sys2Proof.Machine

/-! ### Parameters -/

/-- A value brought into a range: below the lower limit it becomes the lower limit, above the upper the upper (R184). -/
def clamp (lo hi v : Nat) : Nat := max lo (min hi v)

/-- The range of a parameter (R184). -/
def paramRange : Nat → Nat × Nat
  | 0 => (0, 255)
  | 1 => (8, 250)
  | 2 => (1, 7)
  | 3 => (2, 60)
  | 4 => (64, 65535)
  | 5 => (0, 3)
  | 6 => (1, 15)
  | 7 => (1, 3600)
  | 8 => (1, 30)
  | 9 => (2, 30)
  | _ => (0, 60)

/-- The parameters with one replaced (R184). -/
def Params.set (p : Params) (id v : Nat) : Params :=
  match id with
  | 0 => { p with idleCode := v }
  | 1 => { p with syncPeriod := v }
  | 2 => { p with missLimit := v }
  | 3 => { p with huntLimit := v }
  | 4 => { p with epochLength := v }
  | 5 => { p with windowChoice := v }
  | 6 => { p with attemptLimit := v }
  | 7 => { p with lockoutBase := v }
  | 8 => { p with interdigitTime := v }
  | 9 => { p with secureGrace := v }
  | _ => { p with silenceInterval := v }

/-- The silence timer after SET PARAM has applied a silence interval (R178). -/
def silenceAfterParam (mode : Mode) (interval : Nat) (t : SilenceTimer) : SilenceTimer :=
  if interval = 0 then .stopped
  else match mode, t with
    | .normal, .stopped => .running (.setFor interval)
    | _, t => t

/-- What applying a parameter does beside replacing its value: the attempt counts (R101), the silence timer and its
write-once mark (R178, R180). -/
def afterParam (id v : Nat) (s : State) : State :=
  if id = 6 then { s with directory := mapTable (limitedEntry v) s.directory }
  else if id = 10 then
    { s with
      silence := silenceAfterParam s.mode v s.silence
      silenceUsed := s.silenceUsed || s.mode != .maintenance }
  else s

/-- Whether every leg is FREE. -/
def State.allLegsFree (s : State) : Bool := s.legs.toList.all (fun l => l.use.isFree)

/-- SET PARAM (R184). -/
def takeSetParam (identifier : Byte) (value : Word) (s : State) : State × Answer :=
  let id := identifier.toNat
  if 10 < id then refuse .badField s
  else if s.lockRefuses then refuse .locked s
  else if id = 10 ∧ s.mode ≠ .maintenance ∧ s.silenceUsed then refuse .writtenOnce s
  else if (id = 1 ∨ id = 4) ∧ !s.allLegsFree then refuse .state s
  else
    let v := clamp (paramRange id).1 (paramRange id).2 value.toNat
    (afterParam id v { s with params := s.params.set id v }, .now .ok (identifier :: wordBytes v))

/-! ### The lock and the silence monitor -/

/-- CONFIG LOCK (R181). -/
def takeConfigLock (s : State) : State × Answer := accept { s with lock := true }

/-- The silence timer after an accepted ALIVE (R177). -/
def silenceAfterAlive (mode : Mode) (interval : Nat) (t : SilenceTimer) : SilenceTimer :=
  if interval = 0 then t
  else match mode with
    | .maintenance => .paused (ticksOf interval)
    | _ => .running (.setFor interval)

/-- ALIVE (R177): STANDALONE is left with STANDALONE_LEFT. -/
def takeAlive (token : Byte) (s : State) : State × Answer :=
  if token ≠ 60 ∧ token ≠ 195 then refuse .badField s
  else if s.lastToken = some token then refuse .state s
  else
    let t := { s with
      lastToken := some token
      silence := silenceAfterAlive s.mode s.params.silenceInterval s.silence }
    match s.mode with
    | .standalone => accept (queueReport (.standaloneLeft token) { t with mode := .normal })
    | _ => accept t

/-- Whether the silence timer is RUNNING and has counted its ticks. -/
def SilenceTimer.due : SilenceTimer → Bool
  | .running c => c.ticks == 0
  | _ => false

/-- The silence timer expires in NORMAL, its count run out: STANDALONE, STANDALONE_ENTERED with the number of admissions
cancelled, and their CANCELLED replies in entry order (R179, R105). -/
def enterStandalone (s : State) : State :=
  if s.mode = .normal ∧ s.silence.due then
    cancelAdmissions (queueReport (.standaloneEntered s.admissions.length)
      { s with mode := .standalone, silence := .stopped })
  else s

/-! ### Maintenance -/

/-- MAINT ENTER (R182, R106). A RUNNING silence timer is PAUSED with its count (R178); where MAINT ENTER is taken before the
expiry of a timer that has run out, R179 has it PAUSED and gives no count, and the model keeps the count 0, so that the timer
expires at the first tick after MAINT EXIT (DESIGN CHOICE, log 21). -/
def takeMaintEnter (s : State) : State × Answer :=
  if s.mode = .standalone then refuse .noControl s
  else if s.mode = .maintenance then refuse .state s
  else if s.calls ≠ [] ∨ !s.allLegsFree then refuse .callsPresent s
  else
    let returned := s.admissions.length + (places (fun e => e.state == .admitted) s.directory).length
    let t := cancelAdmissions { s with
      mode := .maintenance
      silence := match s.silence with
        | .running c => .paused c.ticks
        | other => other }
    ({ t with directory := mapTable maintenanceEntry t.directory }, .now .ok (wordBytes returned))

/-- The silence timer after MAINT EXIT (R178). A count that resumes does so inside a tick period, and the tick that ends this
period is not counted, as for a timer that is set (DESIGN CHOICE, log 21). -/
def silenceAfterExit (interval : Nat) (t : SilenceTimer) : SilenceTimer :=
  if interval = 0 then t
  else match t with
    | .paused n => .running ⟨n, true⟩
    | .stopped => .running (.setFor interval)
    | .running c => .running c

/-- The legs owned by the loop test (R183). -/
def State.loopLegs (s : State) : List Nat := places (fun l => l.use.isLoop) s.legs

/-- MAINT EXIT (R183). -/
def takeMaintExit (s : State) : State × Answer :=
  if s.mode ≠ .maintenance then refuse .state s
  else
    let t := s.loopLegs.foldl (fun s k => freeTheLeg k s) s
    ({ t with mode := .normal, silence := silenceAfterExit s.params.silenceInterval s.silence },
      .now .ok [byteOf s.loopLegs.length])

/-! ### RESTART, the hard reset and reading -/

/-- A frame in transmission at a RESTART: it is sent to its last byte, but its request's slot is emptied now (R175). -/
def detached : Sending → Sending
  | .reply r => .reply { r with slot := none }
  | .report q => .report q

/-- The control mode after a RESTART: STANDALONE becomes NORMAL (R186). -/
def modeAfterRestart : Mode → Mode
  | .maintenance => .maintenance
  | _ => .normal

/-- The silence timer after a RESTART (R186). -/
def silenceAfterRestart (mode : Mode) (interval : Nat) : SilenceTimer :=
  if interval = 0 then .stopped
  else match mode with
    | .maintenance => .paused (ticksOf interval)
    | _ => .running (.setFor interval)

/-- The records as a RESTART leaves them, before READY is queued (R186, with R36, R49, R76, R90, R107, R151, R160, R175,
R188). -/
def restartRecords (s : State) : State :=
  { s with
    requestBuffer := fillTable 4 none
    replyQueue := []
    reportQueue := []
    lostFlag := false
    transmitting := s.transmitting.map detached
    channelTable := fillTable 128 .clear
    routedAs := fillTable 128 .clear
    heldInbound := fillTable 128 none
    heldOutbound := fillTable 128 none
    jobs := []
    legs := mapTable (fun l => { l with use := .free }) s.legs
    directory := mapTable restartedEntry s.directory
    calls := []
    groups := mapTable (fun g => { g with active := 0 }) s.groups
    mode := modeAfterRestart s.mode
    silence := silenceAfterRestart s.mode s.params.silenceInterval
    lastToken := none }

/-- READY with a cause, as the part stands (R185, R186). -/
def readyReport (cause : Reason) (s : State) : Report := .ready cause s.mode s.lock s.frameReference

/-- RESTART (R186): the link holds the slot of the RESTART itself again when it forms the reply, and READY is queued after
the reply. -/
def takeRestart (s : State) : State × Answer :=
  let t := restartRecords s
  (t, .nowThen .ok [] (queueReport (readyReport .request t)))

/-- Whether the silence monitor is active (11.2, R187). -/
def State.monitorActive (s : State) : Bool := s.params.silenceInterval != 0 && s.mode != .maintenance

/-- The parameters in identifier order (R187). -/
def Params.values (p : Params) : List Nat :=
  [p.idleCode, p.syncPeriod, p.missLimit, p.huntLimit, p.epochLength, p.windowChoice, p.attemptLimit, p.lockoutBase,
    p.interdigitTime, p.secureGrace, p.silenceInterval]

/-- The body of READ SUPERVISION (R187, R191). -/
def supervisionBody (s : State) : List Byte :=
  [s.mode.code, flagByte s.lock] ++ s.params.values.flatMap wordBytes
    ++ [flagByte s.silenceUsed, flagByte s.monitorActive, s.silence.code] ++ ticksWord s.silence.ticks?
    ++ [s.lastToken.getD 0]

/-- READ SUPERVISION (R187). -/
def takeReadSupervision (s : State) : State × Answer := (s, .now .ok (supervisionBody s))

/-- The meaning of SET_PARAM (R184). -/
def execSetParam (tag identifier : Byte) (value : Word) (s : State) : Host.Outcome State Fault Refusal :=
  .next (requestArrives 34 tag 3 (takeSetParam identifier value) s)

/-- The meaning of CONFIG_LOCK (R181). -/
def execConfigLock (tag : Byte) (s : State) : Host.Outcome State Fault Refusal :=
  .next (requestArrives 35 tag 0 takeConfigLock s)

/-- The meaning of ALIVE (R177). -/
def execAlive (tag token : Byte) (s : State) : Host.Outcome State Fault Refusal :=
  .next (requestArrives 36 tag 1 (takeAlive token) s)

/-- The meaning of MAINT_ENTER (R182). -/
def execMaintEnter (tag : Byte) (s : State) : Host.Outcome State Fault Refusal :=
  .next (requestArrives 37 tag 0 takeMaintEnter s)

/-- The meaning of MAINT_EXIT (R183). -/
def execMaintExit (tag : Byte) (s : State) : Host.Outcome State Fault Refusal :=
  .next (requestArrives 38 tag 0 takeMaintExit s)

/-- The meaning of RESTART (R186). -/
def execRestart (tag : Byte) (s : State) : Host.Outcome State Fault Refusal :=
  .next (requestArrives 39 tag 0 takeRestart s)

/-- The meaning of READ_SUPERVISION (R187). -/
def execReadSupervision (tag : Byte) (s : State) : Host.Outcome State Fault Refusal :=
  .next (requestArrives 40 tag 0 takeReadSupervision s)

/-- The RESET_N pin (R185): held low, nothing reaches the part and its pins rest (`unlessHeld`, `State.onPin`,
`State.sending`); at the release every record takes its hard-reset value. The queue of waiting commands is the model's own
and is kept. -/
def takeHardReset (pin : ResetPin) (s : State) : State :=
  match pin with
  | .held => { s with resetHeld := true }
  | .released straps => { State.afterHardReset straps with pending := s.pending }

/-- The meaning of HARD_RESET (R185). -/
def execHardReset (pin : ResetPin) (s : State) : Host.Outcome State Fault Refusal := .next (takeHardReset pin s)

/-- The meaning of SILENCE_TIMER_EXPIRY (R179). -/
def execSilenceTimerExpiry (s : State) : Host.Outcome State Fault Refusal :=
  .next (unlessHeld enterStandalone s)

end Sys2Proof.Machine
end

