-- ==== Sys2Proof/Machine/Frames.lean ====
section
/-! DEFINITION. The receiver of the control link (R163, R164) and the reading of a good frame's payload into a request
(R189, R190), which its owning block then takes by the same handler as the request's own command. -/

namespace Sys2Proof.Machine

/-! ### Reading a payload (R189) -/

/-- Payload byte at offset `o`. -/
def byteAt (p : List Byte) (o : Nat) : Byte := p.getD o 0

/-- The word at offset `o`, most significant byte first. -/
def wordAt (p : List Byte) (o : Nat) : Word :=
  BitVec.ofNat 16 ((byteAt p o).toNat * 256 + (byteAt p (o + 1)).toNat)

/-- The long at offset `o`, most significant byte first. -/
def longAt (p : List Byte) (o : Nat) : Long :=
  BitVec.ofNat 32 ((wordAt p o).toNat * 65536 + (wordAt p (o + 2)).toNat)

/-- The key at offset `o`: four words in order. -/
def keyAt (p : List Byte) (o : Nat) : Key := ⟨wordAt p o, wordAt p (o + 2), wordAt p (o + 4), wordAt p (o + 6)⟩

/-- The `digits(m)` field at offset `o`. -/
def digitsAt (p : List Byte) (o m : Nat) : DigitsField := ⟨byteAt p o, (p.drop (o + 1)).take m⟩

/-- The record of ENROLL at offset `o` (R190). -/
def enrollRecordAt (p : List Byte) (o : Nat) : EnrollRecord where
  entry := wordAt p o
  number := digitsAt p (o + 2) 6
  cls := byteAt p (o + 9)
  secure := byteAt p (o + 10)
  secret := keyAt p (o + 11)

/-- The records of an ENROLL payload: 19 bytes each (R190). -/
def enrollRecordsOf (p : List Byte) : List EnrollRecord :=
  (List.range (p.length / 19)).map (fun n => enrollRecordAt p (19 * n))

/-- The name in a READ EXTENSION payload, read by its length (R190). -/
def extensionNameOf (p : List Byte) : ExtensionName :=
  if p.length = 7 then .byNumber (digitsAt p 0 6) else .byIndex (wordAt p 0)

/-- The fields of a WRITE ROUTE payload after the entry number (R190). -/
def routeFieldsOf (p : List Byte) : RouteFields where
  low := digitsAt p 1 16
  high := digitsAt p 18 16
  kind := byteAt p 35
  destination := byteAt p 36
  service := byteAt p 37
  secureRequired := byteAt p 38
  strip := byteAt p 39
  insert := digitsAt p 40 4

/-- The request of a kind with its payload, as its owning block takes it; none for a kind that names no request (R165,
R190). -/
def handlerOf (kind : Nat) (p : List Byte) : Option Handler :=
  match kind with
  | 1 => some (takeEnroll (enrollRecordsOf p))
  | 2 => some (takeSetSecret (wordAt p 0) (keyAt p 2))
  | 3 => some (takeRemove (wordAt p 0))
  | 4 => some (takeSetClass (wordAt p 0) (byteAt p 2))
  | 5 => some (takeBar (wordAt p 0))
  | 6 => some (takeUnbar (wordAt p 0))
  | 7 => some (takeReadExtension (extensionNameOf p))
  | 8 => some (takeAdmitBegin (wordAt p 0))
  | 9 => some (takeAdmitAnswer (wordAt p 0) (wordAt p 2) (wordAt p 4))
  | 10 => some (takeClearLockout (wordAt p 0))
  | 11 => some (takeWithdraw (wordAt p 0))
  | 12 => some (takeDialStart (wordAt p 0))
  | 13 => some (takeDigit (wordAt p 0) (byteAt p 2))
  | 14 => some (takeDialAbort (wordAt p 0))
  | 15 => some (takeWriteClass (byteAt p 0) (byteAt p 1) (p.drop 2))
  | 16 => some (takeReadClass (byteAt p 0))
  | 17 => some (takeWriteRoute (byteAt p 0) (routeFieldsOf p))
  | 18 => some (takeClearRoute (byteAt p 0))
  | 19 => some (takeReadRoute (byteAt p 0))
  | 20 => some (takeAnswer (wordAt p 0) (byteAt p 2) (byteAt p 3) (longAt p 4))
  | 21 => some (takeHold (wordAt p 0))
  | 22 => some (takeRetrieve (wordAt p 0))
  | 23 => some (takeSwap (wordAt p 0))
  | 24 => some (takeEnd (wordAt p 0))
  | 25 => some (takeReadCall (wordAt p 0))
  | 26 => some (takeWriteGroup (byteAt p 0) (byteAt p 1) (byteAt p 2) (byteAt p 3))
  | 27 => some (takeSetTieKey (byteAt p 0) (keyAt p 1))
  | 28 => some (takeReadGroup (byteAt p 0))
  | 29 => some (takeLoopStart (byteAt p 0) (keyAt p 1))
  | 30 => some (takeLoopStop (byteAt p 0))
  | 31 => some (takeReadLeg (byteAt p 0))
  | 32 => some (takeSetDeviceKey (keyAt p 0) (longAt p 8))
  | 33 => some takeReadKeyUnit
  | 34 => some (takeSetParam (byteAt p 0) (wordAt p 1))
  | 35 => some takeConfigLock
  | 36 => some (takeAlive (byteAt p 0))
  | 37 => some takeMaintEnter
  | 38 => some takeMaintExit
  | 39 => some takeRestart
  | 40 => some takeReadSupervision
  | 41 => some (takeReportMask p)
  | 42 => some takeIdentify
  | _ => none

/-- A good frame arrives (R165 to R168). -/
def frameArrives (kind tag : Byte) (payload : List Byte) (s : State) : State :=
  match handlerOf kind.toNat payload with
  | some h => requestArrives kind tag payload.length h s
  | none => takeSlot kind tag (refuseUnknown kind) s

/-! ### The receiver (R163, R164) -/

/-- The frame in progress is discarded or abandoned: FRAME_DISCARDED with the reason and the length byte received, 0 when
none was, and the receiver back in WAIT_START. -/
def discardFrame (reason : Reason) (len : Byte) (s : State) : State :=
  queueReport (.frameDiscarded reason len) { s with receiver := .waitStart }

/-- The length byte the receiver has received in the frame in progress, or 0 when none. -/
def Receiver.lengthByte : Receiver → Byte
  | .waitStart => 0
  | .length => 0
  | .body len _ => len
  | .check len _ => len

/-- A byte in LENGTH: 2..250 begins the body, any other value discards the frame (R163). -/
def receiveLength (b : Byte) (s : State) : State :=
  if 2 ≤ b.toNat ∧ b.toNat ≤ 250 then { s with receiver := .body b [] } else discardFrame .length b s

/-- A byte in BODY: kept; the L-th leads to CHECK (R163). -/
def receiveBody (len : Byte) (kept : List Byte) (b : Byte) (s : State) : State :=
  let kept := kept ++ [b]
  { s with receiver := if kept.length = len.toNat then .check len kept else .body len kept }

/-- A byte in CHECK: a sum of 0 mod 256 makes the frame good, and it arrives; any other discards it (R163). -/
def receiveCheck (len : Byte) (kept : List Byte) (b : Byte) (s : State) : State :=
  if (len :: kept ++ [b]).foldl (· + ·) 0 = 0 then
    frameArrives (byteAt kept 0) (byteAt kept 1) (kept.drop 2) { s with receiver := .waitStart }
  else discardFrame .check len s

/-- A byte received with its stop bit, taken in the receiver's state (R163). -/
def receiveGood (b : Byte) (s : State) : State :=
  match s.receiver with
  | .waitStart => if b = 165 then { s with receiver := .length } else s
  | .length => receiveLength b s
  | .body len kept => receiveBody len kept b s
  | .check len kept => receiveCheck len kept b s

/-- A byte received with its stop bit missing: discarded in WAIT_START, and in any other state the frame in progress is
abandoned with reason CHECK (R164). Taken in LENGTH, the byte is no length byte received, and the report carries 0: R163 and
R164 leave that open (DESIGN CHOICE, log 20). -/
def receiveFault (s : State) : State :=
  match s.receiver with
  | .waitStart => s
  | r => discardFrame .check r.lengthByte s

/-- One byte of the line. -/
def receiveByte (s : State) (b : LineByte) : State := if b.stopBit then receiveGood b.value s else receiveFault s

/-- The bytes of the line, one after another. -/
def receiveBytes (bytes : List LineByte) (s : State) : State := bytes.foldl receiveByte s

/-- More than 10 ms without a byte inside a frame: the frame is abandoned with reason GAP (R164); in WAIT_START the gap is
not watched. -/
def expireGap (s : State) : State :=
  match s.receiver with
  | .waitStart => s
  | r => discardFrame .gap r.lengthByte s

/-- The meaning of FRAME_RECEIVED (R163). -/
def execFrameReceived (bytes : List LineByte) (s : State) : Host.Outcome State Fault Refusal :=
  .next (unlessHeld (receiveBytes bytes) s)

/-- The meaning of GAP_EXPIRY (R164). -/
def execGapExpiry (s : State) : Host.Outcome State Fault Refusal :=
  .next (unlessHeld expireGap s)

end Sys2Proof.Machine
end

