-- ==== Sys2Proof/Machine/Highway.lean ====
section
/-! DEFINITION. The highway interface (02_port_and_matrix_highways.md): frame pulses, clear pass-through, leg channels,
the loop test's turn-round, and the loss and restoration of the frame reference. One frame is one step: the command
carries the samples that arrive in the frame the pulse begins. -/

namespace Sys2Proof.Machine

/-- What a channel gives in a frame: the samples for its port and its matrix transmit side. -/
structure ChannelOutput where
  port : Byte
  matrix : Byte
  deriving DecidableEq, Repr

/-- A CLEAR channel's frame: the held samples go out, the idle code where none is held, and the received samples are
held (R27, R31). -/
def clearFrame (c : Nat) (rxPort rxMatrix : Byte) (s : State) : State × ChannelOutput :=
  ({ s with
      heldInbound := writeAt s.heldInbound c (some rxPort)
      heldOutbound := writeAt s.heldOutbound c (some rxMatrix) },
    ⟨(readAt s.heldOutbound none c).getD s.idle, (readAt s.heldInbound none c).getD s.idle⟩)

/-- A LEG channel's frame: one frame event for each direction, the outbound first; the loop test's inbound direction
hears the outbound direction's sample and its port side carries the idle code (R28, R32). Held samples are
discarded (R31). -/
def legFrame (k c : Nat) (rxPort rxMatrix : Byte) (s : State) : State × ChannelOutput :=
  let s := { s with
    heldInbound := writeAt s.heldInbound c none
    heldOutbound := writeAt s.heldOutbound c none }
  let o := outboundEvent k rxMatrix s
  if (s.leg k).use.isLoop then
    let i := inboundEvent k o.2 o.1
    (i.1, ⟨s.idle, i.2⟩)
  else
    let i := inboundEvent k rxPort o.1
    (i.1, ⟨o.2, i.2⟩)

/-- The samples of channel `c` that leave in a frame: nothing when its timeslot did not pass (R25), the idle code on
both sides when its routing changed (R31). -/
def driveChannel (c : Nat) (passed changed : Bool) (y : ChannelOutput) (s : State) : State :=
  let out (x : Byte) : Option Byte := if passed then some (if changed then s.idle else x) else none
  { s with
    portTransmit := writeAt s.portTransmit c (out y.port)
    matrixTransmit := writeAt s.matrixTransmit c (out y.matrix) }

/-- Channel `c` in a frame (R24 to R32). `restored` is the first frame after a restoration, which counts as a change of
routing for every channel (R35). A timeslot that did not pass is received as the idle code (R25). -/
def channelFrame (restored : Bool) (f : FrameSamples) (s : State) (c : Nat) : State :=
  let passed := decide (c % 64 < f.slots)
  let rxPort := if passed then readAt f.port 0 c else s.idle
  let rxMatrix := if passed then readAt f.matrix 0 c else s.idle
  let changed := restored || s.routing c != readAt s.routedAs .clear c
  let r := match s.routing c with
    | .clear => clearFrame c rxPort rxMatrix s
    | .leg k => legFrame k c rxPort rxMatrix s
  driveChannel c passed changed r.2 r.1

/-- The channels in the time order of their timeslots: channel t on highway 0, then channel t + 64 on highway 1. -/
def frameOrder : List Nat := (List.range 64).flatMap (fun t => [t, t + 64])

/-- A frame: every channel by the channel table as read at the pulse, which is then the routing of the frame before
(R26, R31); then the idle code on every transmit pin in each timeslot after 63 that passes before the next pulse, from
which no sample is taken (R24). -/
def runFrame (restored : Bool) (f : FrameSamples) (s : State) : State :=
  let s := frameOrder.foldl (channelFrame restored f) s
  { s with routedAs := s.channelTable, afterFrame := List.replicate (f.slots - Config.timeslots) s.idle }

/-- A frame pulse arrives: accepted in PRESENT (R25), or taken in LOST by R35, which restores the reference. -/
def acceptPulse (f : FrameSamples) (s : State) : State :=
  match s.frameReference with
  | .present => runFrame false f { s with watchRunning := true }
  | .lost =>
    runFrame true f (queueReport .frameRestored { s with frameReference := .present, watchRunning := true })

/-- The number of legs that are OPEN (R34). -/
def State.openLegs (s : State) : Nat := (places (fun l => l.use.isOpen) s.legs).length

/-- The watch reaches 250 µs: in PRESENT the reference becomes LOST, FRAME_LOST is queued, and every OPEN leg hunts, in
leg order; in LOST nothing happens (R34, R68). -/
def loseReference (s : State) : State :=
  match s.frameReference with
  | .lost => s
  | .present =>
    let lost := queueReport (.frameLost s.openLegs) { s with frameReference := .lost }
    (List.range Config.legs).foldl (fun s k => lossHunt k s) lost

/-- What a transmit pin carries where the frame drove `x`: the default idle code while RESET_N is held (R185), the idle
code while the reference is LOST (R34), else what the frame drove. -/
def State.onPin (s : State) (x : Option Byte) : Option Byte :=
  if s.resetHeld then some (byteOf Config.defaultIdle)
  else match s.frameReference with
    | .lost => some s.idle
    | .present => x

/-- What the port transmit side of channel `c` carries. -/
def State.portDriven (s : State) (c : Nat) : Option Byte := s.onPin (readAt s.portTransmit none c)

/-- What the matrix transmit side of channel `c` carries. -/
def State.matrixDriven (s : State) (c : Nat) : Option Byte := s.onPin (readAt s.matrixTransmit none c)

/-- What every transmit pin carries in timeslot `t` after timeslot 63 and before the next pulse (R24). -/
def State.afterFrameDriven (s : State) (t : Nat) : Option Byte := s.onPin s.afterFrame[t - Config.timeslots]?

/-- The meaning of FRAME_PULSE (R25; in LOST taken by R35). -/
def execFramePulse (samples : FrameSamples) (s : State) : Host.Outcome State Fault Refusal :=
  .next (unlessHeld (acceptPulse samples) s)

/-- The meaning of FRAME_REFERENCE_LOSS (R34). -/
def execFrameReferenceLoss (s : State) : Host.Outcome State Fault Refusal :=
  .next (unlessHeld loseReference s)

/-- The meaning of FRAME_REFERENCE_RESTORE (R35; in PRESENT a frame pulse is taken by R25). -/
def execFrameReferenceRestore (samples : FrameSamples) (s : State) : Host.Outcome State Fault Refusal :=
  .next (unlessHeld (acceptPulse samples) s)

end Sys2Proof.Machine
end

