-- ==== Sys2Proof/Machine/Timers.lean ====
section
/-! DEFINITION. The expiries of the timers, and the tick of R1. An expiry command is the moment at which that timer runs
out: it acts on a timer whose count has reached 0, and does not occur for a timer that does not run or that has been
started again (R1, R66, R120, R177, R186). -/

namespace Sys2Proof.Machine

/-- What a leg's failure does to the owner it had (R67 step 3): the extension is withdrawn with SYNC_LOST (R104), the tie
call is removed with SYNC_LOST (R159), the loop test suffers nothing further. -/
def failureCascade (owner : Owner) (s : State) : State :=
  match owner with
  | .extension i => if (s.entry i).state = .admitted then withdrawEntry i .syncLost .enrolled s else s
  | .tieCall r => removeCall r (some .syncLost) s
  | .bSide _ => s
  | .loopTest => s

/-- The hunt timer of leg `k` expires: LEG_FAILED, the close, the cascade to the owner (R67, R71). -/
def failLeg (k : Nat) (s : State) : State :=
  match (s.leg k).use with
  | .opened owner o =>
    if ranOut o.inb.hunt then
      failureCascade owner (freeTheLeg k (queueReport (.legFailed k owner o.channel .syncLost) s))
    else s
  | _ => s

/-- Whether an entry's timer of a kind has run out. -/
def Entry.timerDue (kind : TimerKind) (e : Entry) : Bool :=
  e.timer.any (fun t => t.kind == kind && t.count.ticks == 0)

/-- The admission window of entry `i` expires: the attempt counts, ADMIT_TIMEOUT, then LOCKOUT_BEGIN (R94, R96). A lockout that
begins here begins at a tick. -/
def expireWindow (i : Nat) (s : State) : State :=
  let e := s.entry i
  if e.state = .challenged ∧ e.timerDue .window then
    reportLockout i e
      (queueReport (.admitTimeout i (e.attempts + 1) (reportedLockout s.params e))
        (s.setEntry i (failedEntry .setAtTick s.params e)))
  else s

/-- The lockout timer of entry `i` expires (R99). -/
def expireLockout (i : Nat) (s : State) : State :=
  if (s.entry i).state = .lockedOut ∧ (s.entry i).timerDue .lockout then endLockout i .expiry s else s

/-- The interdigit timer of entry `i` expires: screening ends, DIAL_TIMEOUT with the digits collected (R123). -/
def expireInterdigit (i : Nat) (s : State) : State :=
  if (s.entry i).screening ∧ ranOut (s.entry i).interdigit then
    queueReport (.dialTimeout i (s.entry i).register.length .incomplete) (endScreening i s)
  else s

/-- The grace timer of call `r` expires: the call is removed with reason INSECURE (R148). -/
def expireGrace (r : Nat) (s : State) : State :=
  match s.call r with
  | some c => if ranOut c.grace then removeCall r (some .insecure) s else s
  | none => s

/-! ### The tick -/

/-- A timer one tick later: the tick counts, unless it ends the period inside which the timer was set (R1). -/
def countDown (c : TimerCount) : TimerCount :=
  if c.partway then ⟨c.ticks, false⟩ else ⟨c.ticks - 1, false⟩

/-- An entry one tick later: its window or lockout and its interdigit timer counted down (R1). -/
def tickEntry (e : Entry) : Entry :=
  { e with
    timer := e.timer.map (fun t => { t with count := countDown t.count })
    interdigit := e.interdigit.map countDown }

/-- A leg one tick later: the hunt timer of an OPEN leg counted down (R66). -/
def tickLeg (l : Leg) : Leg :=
  match l.use with
  | .opened w o => { l with use := .opened w { o with inb := { o.inb with hunt := o.inb.hunt.map countDown } } }
  | _ => l

/-- The silence timer one tick later: only RUNNING counts (R178). -/
def tickSilence : SilenceTimer → SilenceTimer
  | .running c => .running (countDown c)
  | t => t

/-- Every timer one tick later (R1): a timer set to T seconds counts 100 × T whole ticks after its setting. -/
def countTimers (s : State) : State :=
  { s with
    legs := mapTable tickLeg s.legs
    directory := mapTable tickEntry s.directory
    calls := s.calls.map (fun c => { c with grace := c.grace.map countDown })
    silence := tickSilence s.silence }

/-- Whether a leg's hunt timer has run out. -/
def Leg.huntDue (l : Leg) : Bool :=
  match l.use with
  | .opened _ o => ranOut o.inb.hunt
  | _ => false

/-- The expiries that are due, with the retry of refused job offers last (R42). The order among expiries of one tick is
DESIGN CHOICE (log 4). -/
def State.dueEvents (s : State) : List Instr :=
  (places Leg.huntDue s.legs).map Instr.huntTimerExpiry
    ++ (places (Entry.timerDue .window) s.directory).map Instr.admissionWindowExpiry
    ++ (places (Entry.timerDue .lockout) s.directory).map Instr.lockoutExpiry
    ++ (places (fun e => ranOut e.interdigit) s.directory).map Instr.interdigitExpiry
    ++ (s.calls.filter (fun c => ranOut c.grace)).map (fun c => Instr.graceTimerExpiry c.ref)
    ++ (if s.silence.due then [Instr.silenceTimerExpiry] else [])
    ++ [Instr.jobRetryTick]

/-- The timers count, and what is due waits to be taken (R1, R42). -/
def passTick (s : State) : State :=
  let t := countTimers s
  { t with pending := t.pending ++ t.dueEvents }

/-- One tick of 10 ms with no command waiting (R1); none is counted while RESET_N is held (R185). -/
def tick (s : State) : State := unlessHeld passTick s

/-- The meaning of HUNT_TIMER_EXPIRY (R67). -/
def execHuntTimerExpiry (leg : Nat) (s : State) : Host.Outcome State Fault Refusal :=
  .next (unlessHeld (failLeg leg) s)

/-- The meaning of ADMISSION_WINDOW_EXPIRY (R94). -/
def execAdmissionWindowExpiry (entry : Nat) (s : State) : Host.Outcome State Fault Refusal :=
  .next (unlessHeld (expireWindow entry) s)

/-- The meaning of LOCKOUT_EXPIRY (R99). -/
def execLockoutExpiry (entry : Nat) (s : State) : Host.Outcome State Fault Refusal :=
  .next (unlessHeld (expireLockout entry) s)

/-- The meaning of INTERDIGIT_EXPIRY (R123). -/
def execInterdigitExpiry (entry : Nat) (s : State) : Host.Outcome State Fault Refusal :=
  .next (unlessHeld (expireInterdigit entry) s)

/-- The meaning of GRACE_TIMER_EXPIRY (R148). -/
def execGraceTimerExpiry (call : Nat) (s : State) : Host.Outcome State Fault Refusal :=
  .next (unlessHeld (expireGrace call) s)

end Sys2Proof.Machine
end

