-- ==== Sys2Proof/Machine/Dispatch.lean ====
section
/-! DEFINITION. The effect of every command, one arm per constructor of Instr. -/

namespace Sys2Proof.Machine

def exec (i : Instr) (s : State) : Host.Outcome State Fault Refusal :=
  match i with
  | .enroll tag records => Sys2Proof.Machine.execEnroll tag records s
  | .setSecret tag entry secret => Sys2Proof.Machine.execSetSecret tag entry secret s
  | .remove tag entry => Sys2Proof.Machine.execRemove tag entry s
  | .setClass tag entry cls => Sys2Proof.Machine.execSetClass tag entry cls s
  | .bar tag entry => Sys2Proof.Machine.execBar tag entry s
  | .unbar tag entry => Sys2Proof.Machine.execUnbar tag entry s
  | .readExtension tag name => Sys2Proof.Machine.execReadExtension tag name s
  | .admitBegin tag entry => Sys2Proof.Machine.execAdmitBegin tag entry s
  | .admitAnswer tag entry first second => Sys2Proof.Machine.execAdmitAnswer tag entry first second s
  | .clearLockout tag entry => Sys2Proof.Machine.execClearLockout tag entry s
  | .withdraw tag entry => Sys2Proof.Machine.execWithdraw tag entry s
  | .dialStart tag entry => Sys2Proof.Machine.execDialStart tag entry s
  | .digit tag entry value => Sys2Proof.Machine.execDigit tag entry value s
  | .dialAbort tag entry => Sys2Proof.Machine.execDialAbort tag entry s
  | .writeClass tag cls limit legalities => Sys2Proof.Machine.execWriteClass tag cls limit legalities s
  | .readClass tag cls => Sys2Proof.Machine.execReadClass tag cls s
  | .writeRoute tag route fields => Sys2Proof.Machine.execWriteRoute tag route fields s
  | .clearRoute tag route => Sys2Proof.Machine.execClearRoute tag route s
  | .readRoute tag route => Sys2Proof.Machine.execReadRoute tag route s
  | .answer tag call channelA channelB tieNumber => Sys2Proof.Machine.execAnswer tag call channelA channelB tieNumber s
  | .hold tag entry => Sys2Proof.Machine.execHold tag entry s
  | .retrieve tag entry => Sys2Proof.Machine.execRetrieve tag entry s
  | .swap tag entry => Sys2Proof.Machine.execSwap tag entry s
  | .endCall tag call => Sys2Proof.Machine.execEndCall tag call s
  | .readCall tag call => Sys2Proof.Machine.execReadCall tag call s
  | .writeGroup tag group kind tieEnd budget => Sys2Proof.Machine.execWriteGroup tag group kind tieEnd budget s
  | .setTieKey tag group key => Sys2Proof.Machine.execSetTieKey tag group key s
  | .readGroup tag group => Sys2Proof.Machine.execReadGroup tag group s
  | .loopStart tag channel key => Sys2Proof.Machine.execLoopStart tag channel key s
  | .loopStop tag leg => Sys2Proof.Machine.execLoopStop tag leg s
  | .readLeg tag leg => Sys2Proof.Machine.execReadLeg tag leg s
  | .setDeviceKey tag key counterStart => Sys2Proof.Machine.execSetDeviceKey tag key counterStart s
  | .readKeyUnit tag => Sys2Proof.Machine.execReadKeyUnit tag s
  | .setParam tag identifier value => Sys2Proof.Machine.execSetParam tag identifier value s
  | .configLock tag => Sys2Proof.Machine.execConfigLock tag s
  | .alive tag token => Sys2Proof.Machine.execAlive tag token s
  | .maintEnter tag => Sys2Proof.Machine.execMaintEnter tag s
  | .maintExit tag => Sys2Proof.Machine.execMaintExit tag s
  | .restart tag => Sys2Proof.Machine.execRestart tag s
  | .readSupervision tag => Sys2Proof.Machine.execReadSupervision tag s
  | .reportMask tag mask => Sys2Proof.Machine.execReportMask tag mask s
  | .identify tag => Sys2Proof.Machine.execIdentify tag s
  | .hardReset pin => Sys2Proof.Machine.execHardReset pin s
  | .frameReceived bytes => Sys2Proof.Machine.execFrameReceived bytes s
  | .gapExpiry => Sys2Proof.Machine.execGapExpiry s
  | .transmitComplete => Sys2Proof.Machine.execTransmitComplete s
  | .framePulse samples => Sys2Proof.Machine.execFramePulse samples s
  | .frameReferenceLoss => Sys2Proof.Machine.execFrameReferenceLoss s
  | .frameReferenceRestore samples => Sys2Proof.Machine.execFrameReferenceRestore samples s
  | .challengeCompletion => Sys2Proof.Machine.execChallengeCompletion s
  | .checkCompletion => Sys2Proof.Machine.execCheckCompletion s
  | .tieSessionCompletion => Sys2Proof.Machine.execTieSessionCompletion s
  | .epochCompletion => Sys2Proof.Machine.execEpochCompletion s
  | .jobRetryTick => Sys2Proof.Machine.execJobRetryTick s
  | .huntTimerExpiry leg => Sys2Proof.Machine.execHuntTimerExpiry leg s
  | .admissionWindowExpiry entry => Sys2Proof.Machine.execAdmissionWindowExpiry entry s
  | .lockoutExpiry entry => Sys2Proof.Machine.execLockoutExpiry entry s
  | .interdigitExpiry entry => Sys2Proof.Machine.execInterdigitExpiry entry s
  | .graceTimerExpiry call => Sys2Proof.Machine.execGraceTimerExpiry call s
  | .silenceTimerExpiry => Sys2Proof.Machine.execSilenceTimerExpiry s

end Sys2Proof.Machine
end

