-- ==== Sys2Proof/Machine/Step.lean ====
section
/-! DEFINITION. One step: the command at the front of the queue is taken and executed; on an empty queue the part
passes one tick of its time base. -/

namespace Sys2Proof.Machine

/-- One step of the part. With a command waiting, its effect on the state with the rest of the queue; with none, one tick
of 10 ms (R1; DESIGN CHOICE, log 3). -/
def step (s : State) : Host.Outcome State Fault Refusal :=
  match s.pending with
  | c :: rest => exec c { s with pending := rest }
  | [] => .next (tick s)

/-- The state with the command that a word spells at the front of its queue; the table gives no word, so the state is
unchanged. A program, here a list of commands, comes from outside the part: it is placed in `pending`. -/
def State.withFetchWord (s : State) (nbits w : Nat) : State :=
  match decodeTableWord nbits w with
  | some c => { s with pending := c :: s.pending }
  | none => s

end Sys2Proof.Machine
end

