-- ==== Sys2Proof/Machine/Encode.lean ====
section
/-! DEFINITION. The frame that carries a request: its kind, tag and payload by the tables of R189 and R190, and the
bytes of R162 on the line. Written from those tables, beside the payload reading of Frames.lean. -/

namespace Sys2Proof.Machine

/-- A key in a payload: four words (R189). -/
def keyBytes (k : Key) : List Byte :=
  wordBytes k.k1.toNat ++ wordBytes k.k2.toNat ++ wordBytes k.k3.toNat ++ wordBytes k.k4.toNat

/-- A digits field in a payload: its count byte and its digit bytes (R189). -/
def digitsFieldBytes (f : DigitsField) : List Byte := f.count :: f.bytes

/-- A record of ENROLL in a payload (R190). -/
def enrollRecordBytes (r : EnrollRecord) : List Byte :=
  wordBytes r.entry.toNat ++ digitsFieldBytes r.number ++ [r.cls, r.secure] ++ keyBytes r.secret

/-- The payload of a READ EXTENSION (R190). -/
def extensionNameBytes : ExtensionName → List Byte
  | .byIndex entry => wordBytes entry.toNat
  | .byNumber number => digitsFieldBytes number

/-- The fields of a WRITE ROUTE payload after the entry number (R190). -/
def routeFieldBytes (f : RouteFields) : List Byte :=
  digitsFieldBytes f.low ++ digitsFieldBytes f.high ++ [f.kind, f.destination, f.service, f.secureRequired, f.strip] ++ digitsFieldBytes f.insert

/-- A request as its frame carries it. -/
structure RequestFrame where
  kind : Byte
  tag : Byte
  payload : List Byte
  deriving DecidableEq, Repr

/-- The frame of a request command (R190); an event of another kind is no frame of the host. -/
def requestFrame : Instr → Option RequestFrame
  | .enroll tag records => some ⟨1, tag, records.flatMap enrollRecordBytes⟩
  | .setSecret tag entry secret => some ⟨2, tag, wordBytes entry.toNat ++ keyBytes secret⟩
  | .remove tag entry => some ⟨3, tag, wordBytes entry.toNat⟩
  | .setClass tag entry cls => some ⟨4, tag, wordBytes entry.toNat ++ [cls]⟩
  | .bar tag entry => some ⟨5, tag, wordBytes entry.toNat⟩
  | .unbar tag entry => some ⟨6, tag, wordBytes entry.toNat⟩
  | .readExtension tag name => some ⟨7, tag, extensionNameBytes name⟩
  | .admitBegin tag entry => some ⟨8, tag, wordBytes entry.toNat⟩
  | .admitAnswer tag entry first second =>
    some ⟨9, tag, wordBytes entry.toNat ++ wordBytes first.toNat ++ wordBytes second.toNat⟩
  | .clearLockout tag entry => some ⟨10, tag, wordBytes entry.toNat⟩
  | .withdraw tag entry => some ⟨11, tag, wordBytes entry.toNat⟩
  | .dialStart tag entry => some ⟨12, tag, wordBytes entry.toNat⟩
  | .digit tag entry value => some ⟨13, tag, wordBytes entry.toNat ++ [value]⟩
  | .dialAbort tag entry => some ⟨14, tag, wordBytes entry.toNat⟩
  | .writeClass tag cls limit legalities => some ⟨15, tag, cls :: limit :: legalities⟩
  | .readClass tag cls => some ⟨16, tag, [cls]⟩
  | .writeRoute tag route fields => some ⟨17, tag, route :: routeFieldBytes fields⟩
  | .clearRoute tag route => some ⟨18, tag, [route]⟩
  | .readRoute tag route => some ⟨19, tag, [route]⟩
  | .answer tag call channelA channelB tieNumber =>
    some ⟨20, tag, wordBytes call.toNat ++ [channelA, channelB] ++ longBytes tieNumber.toNat⟩
  | .hold tag entry => some ⟨21, tag, wordBytes entry.toNat⟩
  | .retrieve tag entry => some ⟨22, tag, wordBytes entry.toNat⟩
  | .swap tag entry => some ⟨23, tag, wordBytes entry.toNat⟩
  | .endCall tag call => some ⟨24, tag, wordBytes call.toNat⟩
  | .readCall tag call => some ⟨25, tag, wordBytes call.toNat⟩
  | .writeGroup tag group kind tieEnd budget => some ⟨26, tag, [group, kind, tieEnd, budget]⟩
  | .setTieKey tag group key => some ⟨27, tag, group :: keyBytes key⟩
  | .readGroup tag group => some ⟨28, tag, [group]⟩
  | .loopStart tag channel key => some ⟨29, tag, channel :: keyBytes key⟩
  | .loopStop tag leg => some ⟨30, tag, [leg]⟩
  | .readLeg tag leg => some ⟨31, tag, [leg]⟩
  | .setDeviceKey tag key counterStart => some ⟨32, tag, keyBytes key ++ longBytes counterStart.toNat⟩
  | .readKeyUnit tag => some ⟨33, tag, []⟩
  | .setParam tag identifier value => some ⟨34, tag, identifier :: wordBytes value.toNat⟩
  | .configLock tag => some ⟨35, tag, []⟩
  | .alive tag token => some ⟨36, tag, [token]⟩
  | .maintEnter tag => some ⟨37, tag, []⟩
  | .maintExit tag => some ⟨38, tag, []⟩
  | .restart tag => some ⟨39, tag, []⟩
  | .readSupervision tag => some ⟨40, tag, []⟩
  | .reportMask tag mask => some ⟨41, tag, mask⟩
  | .identify tag => some ⟨42, tag, []⟩
  | .hardReset _ => none
  | .frameReceived _ => none
  | .gapExpiry => none
  | .transmitComplete => none
  | .framePulse _ => none
  | .frameReferenceLoss => none
  | .frameReferenceRestore _ => none
  | .challengeCompletion => none
  | .checkCompletion => none
  | .tieSessionCompletion => none
  | .epochCompletion => none
  | .jobRetryTick => none
  | .huntTimerExpiry _ => none
  | .admissionWindowExpiry _ => none
  | .lockoutExpiry _ => none
  | .interdigitExpiry _ => none
  | .graceTimerExpiry _ => none
  | .silenceTimerExpiry => none

/-- The bytes of a frame on the line, each with its stop bit (R162). -/
def RequestFrame.line (f : RequestFrame) : List LineByte :=
  (frameBytes f.kind f.tag f.payload).map (fun b => ⟨b, true⟩)

end Sys2Proof.Machine
end

