-- ==== Sys2Proof/WellFormed.lean ====
section
/-! DEFINITION. Which terms of `Instr` are commands that can reach the part: field widths that the raw lists do not
fix (R189, R190), and operands of events inside the ranges of 00_scope.md. Values a rule tests and refuses are
well-formed here; they are the rule's business. -/

namespace Sys2Proof

/-- A `digits(m)` field has exactly m digit bytes (R189). -/
def DigitsField.wellFormed (m : Nat) (f : DigitsField) : Bool := f.bytes.length == m

/-- A record of ENROLL is 19 bytes long (R190). -/
def EnrollRecord.wellFormed (r : EnrollRecord) : Bool := r.number.wellFormed 6

/-- A number that names an entry is a `digits(6)` field (R190). -/
def ExtensionName.wellFormed : ExtensionName → Bool
  | .byIndex _ => true
  | .byNumber n => n.wellFormed 6

/-- The digit strings of WRITE ROUTE have the widths of R190. -/
def RouteFields.wellFormed (f : RouteFields) : Bool :=
  f.low.wellFormed 16 && f.high.wellFormed 16 && f.insert.wellFormed 4

/-- At most 128 timeslots pass between two accepted pulses: two frame periods without a pulse are the loss of the
reference (R34). -/
def FrameSamples.wellFormed (f : FrameSamples) : Bool := decide (f.slots ≤ 128)

/-- Well-formedness of a command. -/
def Instr.wellFormed : Instr → Bool
  | .enroll _ records => decide (1 ≤ records.length ∧ records.length ≤ 4) && records.all EnrollRecord.wellFormed
  | .setSecret _ _ _ => true
  | .remove _ _ => true
  | .setClass _ _ _ => true
  | .bar _ _ => true
  | .unbar _ _ => true
  | .readExtension _ name => name.wellFormed
  | .admitBegin _ _ => true
  | .admitAnswer _ _ _ _ => true
  | .clearLockout _ _ => true
  | .withdraw _ _ => true
  | .dialStart _ _ => true
  | .digit _ _ _ => true
  | .dialAbort _ _ => true
  | .writeClass _ _ _ legalities => legalities.length == 32
  | .readClass _ _ => true
  | .writeRoute _ _ fields => fields.wellFormed
  | .clearRoute _ _ => true
  | .readRoute _ _ => true
  | .answer _ _ _ _ _ => true
  | .hold _ _ => true
  | .retrieve _ _ => true
  | .swap _ _ => true
  | .endCall _ _ => true
  | .readCall _ _ => true
  | .writeGroup _ _ _ _ _ => true
  | .setTieKey _ _ _ => true
  | .readGroup _ _ => true
  | .loopStart _ _ _ => true
  | .loopStop _ _ => true
  | .readLeg _ _ => true
  | .setDeviceKey _ _ _ => true
  | .readKeyUnit _ => true
  | .setParam _ _ _ => true
  | .configLock _ => true
  | .alive _ _ => true
  | .maintEnter _ => true
  | .maintExit _ => true
  | .restart _ => true
  | .readSupervision _ => true
  | .reportMask _ mask => mask.length == 4
  | .identify _ => true
  | .hardReset _ => true
  | .frameReceived _ => true
  | .gapExpiry => true
  | .transmitComplete => true
  | .framePulse samples => samples.wellFormed
  | .frameReferenceLoss => true
  | .frameReferenceRestore samples => samples.wellFormed
  | .challengeCompletion => true
  | .checkCompletion => true
  | .tieSessionCompletion => true
  | .epochCompletion => true
  | .jobRetryTick => true
  | .huntTimerExpiry leg => decide (leg < 48)
  | .admissionWindowExpiry entry => decide (entry < 512)
  | .lockoutExpiry entry => decide (entry < 512)
  | .interdigitExpiry entry => decide (entry < 512)
  | .graceTimerExpiry call => decide (1 ≤ call ∧ call ≤ 65535)
  | .silenceTimerExpiry => true

end Sys2Proof
end

