-- ==== Sys2Proof/Safety.lean ====
section
/-! DEFINITION. What the statements speak of: the answer to a request as the control link gives it, the fields that are
not the link's, the well-formed fields of a payload, and the laws of the device that every command keeps. -/

namespace Sys2Proof.Machine

/-! ### Timers -/

/-- A timer that a command sets to `seconds`: 100 ticks a second to count, the first being the first whole tick after the
setting, so that the tick which ends the period of the setting is not counted (R1). That a command is taken inside a tick period,
never at its very beginning, is the model's choice (DESIGN CHOICE, log 3). -/
abbrev setFor (seconds : Nat) : TimerCount := ⟨100 * seconds, true⟩

/-- A running timer has counted its ticks (R1). -/
abbrev HasRunOut (t : Option TimerCount) : Prop := t.map (fun c => c.ticks) = some 0

/-- An entry's window or lockout timer runs and has counted its ticks (R94, R99). -/
abbrev Entry.HasRunOut (kind : TimerKind) (e : Entry) : Prop :=
  e.timer.map (fun t => (t.kind, t.count.ticks)) = some (kind, 0)

/-- The silence timer is RUNNING and has counted its ticks (R178). -/
abbrev SilenceTimer.HasRunOut (t : SilenceTimer) : Prop := ∃ partway, t = .running ⟨0, partway⟩

/-- A timer one tick later: its count falls by one, unless the tick ends the period inside which it was set (R1). -/
abbrev afterTick (c : TimerCount) : TimerCount := ⟨if c.partway then c.ticks else c.ticks - 1, false⟩

/-! ### Answers -/

/-- The outcomes that are no refusal (R191). -/
def Status.isOutcome (st : Status) : Bool :=
  st == .ok || st == .more || st == .routed || st == .admitted || st == .refusedAnswer || st == .cancelled

/-- The request of kind `kind` with tag `tag` that holds slot `j` has been answered with a status and a body after it
left the state `s`: the reply is formed under the kind's reply kind and its slot stays held; a quiet request forms none,
and its refusal is reported. An idle transmitter takes the one or the other as it is made (R169, R170, R171). -/
def answered (j : Nat) (kind tag : Byte) (status : Status) (body : List Byte) (s : State) : State :=
  if tag = 0 then
    if status = .ok ∨ status = .more ∨ status = .routed then s else queueReport (.quietRefused kind status) s
  else formReply ⟨some j, kind + 64, tag, status, body⟩ (s.setSlot j (some ⟨kind, tag, none⟩))

/-- The request that holds slot `j` has been taken with a deferred reply owed for entry `i` (R166). -/
def deferred (j : Nat) (kind tag : Byte) (i : Nat) (s : State) : State := s.setSlot j (some ⟨kind, tag, some i⟩)

/-- The state with the fields by which the control link answers and reports taken out: what is left is every record of
the other blocks, and the link's receiver, mask and strap code. -/
def State.withoutLink (s : State) : State :=
  { s with requestBuffer := fillTable 4 none, replyQueue := [], reportQueue := [], lostFlag := false, transmitting := none }

/-- A digits field that carries the digit string `digits` in `m` digit bytes (R189). -/
def DigitsCarry (f : DigitsField) (m : Nat) (digits : List Nat) : Prop :=
  f.count.toNat = digits.length ∧ f.bytes.length = m ∧ f.bytes.take digits.length = digits.map byteOf ∧
    digits.all (· ≤ 9) = true

/-- The fields of WRITE ROUTE are in range and give the route: low and high of one length of 1 to 16 digits, low not above
high, an insert of at most 4 digits, a service of at most 31, a strip of at most the length, a flag of 0 or 1, a kind that names
one with a group of at most 15, and neither strip nor insert for a kind other than TRUNK (R113, R115, R189). -/
def FieldsGive (f : RouteFields) (r : Route) : Prop :=
  DigitsCarry f.low 16 r.low ∧ DigitsCarry f.high 16 r.high ∧ DigitsCarry f.insert 4 r.insert ∧
    1 ≤ r.low.length ∧ r.low.length ≤ 16 ∧ r.high.length = r.low.length ∧ digitsValue r.low ≤ digitsValue r.high ∧
    r.insert.length ≤ 4 ∧ r.service = f.service.toNat ∧ r.service ≤ 31 ∧ r.strip = f.strip.toNat ∧
    r.strip ≤ r.low.length ∧
    (f.secureRequired = 0 ∧ r.secureRequired = false ∨ f.secureRequired = 1 ∧ r.secureRequired = true) ∧
    (f.kind = 0 ∧ r.kind = .localCall ∧ r.strip = 0 ∧ r.insert = [] ∨
      f.kind = 1 ∧ f.destination.toNat ≤ 15 ∧ r.kind = .trunk f.destination.toNat ∨
      f.kind = 2 ∧ r.kind = .service f.destination.toNat ∧ r.strip = 0 ∧ r.insert = [])

/-- A record of ENROLL whose fields are in range, with the number it gives (R81, test 1). -/
def RecordInRange (r : EnrollRecord) (digits : List Nat) : Prop :=
  DigitsCarry r.number 6 digits ∧ 3 ≤ digits.length ∧ digits.length ≤ 6 ∧ r.entry.toNat ≤ 511 ∧ r.cls.toNat ≤ 15 ∧
    (r.secure = 0 ∨ r.secure = 1)

/-- An entry as an enrollment with these fields leaves it: ENROLLED, its attempt stamp kept (R82). -/
def entryEnrolled (old : Entry) (mode : Mode) (r : EnrollRecord) (digits : List Nat) : Entry where
  state := .enrolled
  number := digits
  cls := r.cls.toNat
  secure := r.secure == 1
  secret := some r.secret
  secretUsed := mode != .maintenance
  attempts := 0
  level := 0
  stamp := old.stamp
  pending := none
  sk := none
  timer := none
  register := []
  screening := false
  interdigit := none
  stack := []
  ownedLeg := none

/-- Whether some entry that is not VACANT holds a number (R79). -/
def State.NumberHeld (s : State) (digits : List Nat) : Prop :=
  ∃ i < 512, (s.entry i).state ≠ .vacant ∧ (s.entry i).number = digits

/-! ### The laws that every command keeps -/

/-- The bounds of the job queue, the report queue and the call table (R38, R172, R132). -/
def State.WithinCapacity (s : State) : Prop :=
  s.jobs.length ≤ 32 ∧ s.reportQueue.length ≤ 32 ∧ s.calls.length ≤ 96

/-- Two routes conflict, the first being the one of lesser or equal length: its range meets the range of the second cut to
its length (R114). -/
def RangesMeet (a b : Route) : Prop :=
  a.low.length ≤ b.low.length ∧
    digitsValue a.low ≤ digitsValue b.high / 10 ^ (b.low.length - a.low.length) ∧
    digitsValue b.low / 10 ^ (b.low.length - a.low.length) ≤ digitsValue a.high

/-- No two occupied route entries conflict, whichever is the shorter (R114). -/
def State.RoutesApart (s : State) : Prop :=
  ∀ m n a b, m ≠ n → s.route m = some a → s.route n = some b → ¬ RangesMeet a b

/-- No two entries that are not VACANT hold the same extension number (R79). -/
def State.NumbersUnique (s : State) : Prop :=
  ∀ i j, i < 512 → j < 512 → i ≠ j → (s.entry i).state ≠ .vacant → (s.entry j).state ≠ .vacant →
    (s.entry i).number ≠ (s.entry j).number

/-- The slots of the formed replies, those in the queue and the one in transmission. -/
def State.replySlots (s : State) : List (Option Nat) :=
  s.replyQueue.map (fun r => r.slot) ++ match s.transmitting with
    | some (.reply r) => match r.slot with
      | some j => [some j]
      | none => []
    | _ => []

/-- Each formed reply belongs to a request that holds a slot of its own and is owed nothing more (R170). -/
def State.RepliesHoldSlots (s : State) : Prop :=
  s.replySlots.Nodup ∧ ∀ x ∈ s.replySlots, ∃ j h, x = some j ∧ j < 4 ∧ s.slot j = some h ∧ h.awaiting = none

/-- The attempt limit is in its range, every entry but a LOCKED_OUT one has fewer attempts than the limit, a LOCKED_OUT
one at most 15, a VACANT one none, and no level exceeds 4 (R96, R98, R184). -/
def State.AttemptsLawful (s : State) : Prop :=
  1 ≤ s.params.attemptLimit ∧ s.params.attemptLimit ≤ 15 ∧
    ∀ i < 512, (s.entry i).level ≤ 4 ∧ (s.entry i).attempts ≤ 15 ∧
      ((s.entry i).state ≠ .lockedOut → (s.entry i).attempts < s.params.attemptLimit) ∧
      ((s.entry i).state = .vacant → (s.entry i).attempts = 0)

/-- The number of calls in the table whose B party is group `g`. -/
def State.callsToGroup (s : State) (g : Nat) : Nat := (s.calls.filter (fun c => c.b == .group g)).length

/-- References lie in 1..65535 and are unique in the table, the table holds at most 96 calls, and each group counts the
calls to it (R132, R134, R137). -/
def State.CallsCounted (s : State) : Prop :=
  1 ≤ s.referenceCounter ∧ s.referenceCounter ≤ 65535 ∧ s.calls.length ≤ 96 ∧
    (s.calls.map (fun c => c.ref)).Nodup ∧ (∀ c ∈ s.calls, 1 ≤ c.ref ∧ c.ref ≤ 65535) ∧
    ∀ g < 16, (s.group g).active = s.callsToGroup g

/-- Every parameter lies in its range (R184). -/
def State.ParamsInRange (s : State) : Prop :=
  s.params.idleCode ≤ 255 ∧ 8 ≤ s.params.syncPeriod ∧ s.params.syncPeriod ≤ 250 ∧ 1 ≤ s.params.missLimit ∧
    s.params.missLimit ≤ 7 ∧ 2 ≤ s.params.huntLimit ∧ s.params.huntLimit ≤ 60 ∧ 64 ≤ s.params.epochLength ∧
    s.params.epochLength ≤ 65535 ∧ s.params.windowChoice ≤ 3 ∧ 1 ≤ s.params.attemptLimit ∧
    s.params.attemptLimit ≤ 15 ∧ 1 ≤ s.params.lockoutBase ∧ s.params.lockoutBase ≤ 3600 ∧
    1 ≤ s.params.interdigitTime ∧ s.params.interdigitTime ≤ 30 ∧ 2 ≤ s.params.secureGrace ∧
    s.params.secureGrace ≤ 30 ∧ s.params.silenceInterval ≤ 60

/-! ### Words of the statements -/

/-- A transmitter at rest has nothing waiting: it would have taken it (R171). -/
def State.IdleHasNothingWaiting (s : State) : Prop := s.transmitting = none → s.replyQueue = [] ∧ s.reportQueue = []

/-- The 13 samples are a valid sync pattern that carries block number `n` under sync period `p`: the marker, the number most
significant sample first, the check sample, and a number that is a multiple of the period (R17, R18). -/
def SyncPattern (p : Nat) (t : List Byte) (n : Long) : Prop :=
  t.length = 13 ∧ t.take 8 = [23, 201, 88, 146, 7, 240, 61, 178] ∧ (t.drop 8).foldl (· + ·) 0 = 0 ∧
    n = BitVec.ofNat 32 ((t.getD 8 0).toNat * 16777216 + (t.getD 9 0).toNat * 65536 + (t.getD 10 0).toNat * 256
      + (t.getD 11 0).toNat) ∧ n.toNat % p = 0

/-- An inbound direction's key point for a block: the active key of the block's epoch is bound; else the standby key of
that epoch becomes active and is bound, and the epoch after it is wanted; else the keys are dropped, the block's epoch is
wanted and none is bound (R58). -/
def BindsBlock (r : Nat) (block : Long) (before after : DirectionKeys) (bound : Option Key) : Prop :=
  let epoch : Long := BitVec.ofNat 32 (block.toNat / r)
  (∀ a, before.active = some a → a.epoch = epoch → after = before ∧ bound = some a.key) ∧
  (∀ b, (∀ a, before.active = some a → a.epoch ≠ epoch) → before.standby = some b → b.epoch = epoch →
    bound = some b.key ∧ after = { before with
      active := some b
      standby := none
      wanted := some (if epoch.toNat = 4294967295 / r then 0 else epoch + 1) }) ∧
  ((∀ a, before.active = some a → a.epoch ≠ epoch) → (∀ b, before.standby = some b → b.epoch ≠ epoch) →
    bound = none ∧ after = { before with active := none, standby := none, wanted := some epoch })

/-- The owners of whose legs the call unit is told: an extension and a tie call (R72). -/
def Owner.isTold : Owner → Bool
  | .extension _ => true
  | .tieCall _ => true
  | _ => false

/-- What a direction of leg `k`, OPEN for `w`, brings with it when an event changes the leg's record from `before` to
`after`: the change of its state is reported, KEY_LATE for an entry into LATE and LEG_STATE for any other; an epoch key that it
wants, with no job outstanding and no mark, is offered for; and the calls are evaluated when a leg of an extension or a tie
call has become running or stopped being running (R56, R69, R70, R72, R147). -/
def State.ChangeBrings (s : State) (k : Nat) (w : Owner) (d : Direction) (before after : OpenLeg) (t : State) : Prop :=
  let stamp := (s.leg k).stamp
  let wanted := (after.keys d).wanted
  let kept := s.setLeg k ⟨stamp, .opened w after⟩
  let told := match d with
    | .outbound =>
      if after.out.state = before.out.state then kept
      else if after.out.state = .late then
        queueReport (.keyLate k .outbound (after.out.counter - 1) (wanted.getD 0)) kept
      else queueReport (.legState k .outbound .run after.out.counter) kept
    | .inbound =>
      if after.inb.state = before.inb.state then kept
      else match after.inb.state with
        | .late => queueReport (.keyLate k .inbound after.inb.counter (wanted.getD 0)) kept
        | .hunt => queueReport (.legState k .inbound .hunt 0) kept
        | .run => queueReport (.legState k .inbound .run after.inb.counter) kept
  let with_ := fun keys : DirectionKeys => told.setLeg k ⟨stamp, .opened w (after.setKeys d keys)⟩
  let offered := match after.sk, wanted with
    | some sk, some e =>
      if (after.keys d).outstanding = true ∨ (after.keys d).marked = true then told
      else if s.jobs.length < 32 then
        { with_ { after.keys d with outstanding := true } with jobs := s.jobs ++ [.epoch sk e k d stamp] }
      else with_ { after.keys d with marked := true }
    | _, _ => told
  let runs := fun o : OpenLeg => o.out.state == .run && o.inb.state == .run
  t = if w.isTold && runs before != runs after then evaluateCalls offered else offered

/-- The turn of channel `c` in a frame with these samples, its leg's two directions outbound first: one frame event for each,
and what the changes bring; the loop test's inbound direction hears the outbound one's own sample (R28, R32). The order of
the directions is the model's (log 8). -/
def State.legTurn (s : State) (port matrix : Nat → Byte) (u : State) (c : Nat) : State :=
  match s.routing c with
  | .clear => u
  | .leg k =>
    match u.openLeg? k with
    | none => u
    | some o =>
      let out := outboundFrame s.params o.outD (matrix c) o.out
      let one := directionChanged k .outbound o { o with out := out.1 } u
      match one.openLeg? k with
      | none => one
      | some o1 =>
        let heard := if (s.leg k).use.owner? = some .loopTest then out.2 else port c
        directionChanged k .inbound o1 { o1 with inb := (inboundFrame s.params o1.inD heard o1.inb).1 } one

/-- The job offers that are marked, in the order in which a tick takes them: lowest leg first, and for each leg the TIE
SESSION before the outbound EPOCH before the inbound one; each with its leg, its direction, none for a TIE SESSION, and its job
with the inputs as they stand (R42). -/
def State.markedOffers (s : State) : List (Nat × Option Direction × Job) :=
  (List.range 48).flatMap (fun k =>
    match (s.leg k).use with
    | .opened w o =>
      let stamp := (s.leg k).stamp
      let session := match w with
        | .tieCall r => (s.call r).bind (fun c => match c.b, c.tieNumber with
          | .group g, some t => (s.group g).tieKey.map (fun key => Job.tieSession key t k stamp)
          | _, _ => none)
        | _ => none
      let epoch := fun d => match o.sk, (o.keys d).wanted with
        | some sk, some e => if (o.keys d).marked then some (Job.epoch sk e k d stamp) else none
        | _, _ => none
      (if o.sessionWanted then session.toList.map (fun x => (k, none, x)) else [])
        ++ [Direction.outbound, .inbound].flatMap (fun d => (epoch d).toList.map (fun x => (k, some d, x)))
    | _ => [])

/-- SCR's party check and its check of the caller's stack pass for a route with the destination `b` (R126 to R128). -/
def State.ScreenPasses (s : State) (i : Nat) (digits : List Nat) (r : Route) (b : BParty) : Prop :=
  (s.entry i).stack.length < (s.classRecord (s.entry i).cls).limit ∧
    match r.kind with
    | .service code => b = .service code
    | .trunk g => b = .group g ∧ ((s.group g).kind = .plain ∨ (s.group g).tieKey ≠ none) ∧
        (s.group g).active < (s.group g).budget
    | .localCall => s.NumbersUnique ∧ ∃ k < 512, b = .extension k ∧ k ≠ i ∧ (s.entry k).number = digits ∧
        (s.entry k).state = .admitted ∧ (s.entry k).stack.length < (s.classRecord (s.entry k).cls).limit

/-- The owners of the legs that a call from entry `i` to `b` with reference `ref` needs, in the order in which they are
reserved: the tie leg, the caller, the callee (R136). -/
def State.legsNeeded (s : State) (i : Nat) (b : BParty) (ref : Nat) : List Owner :=
  (match b with
    | .group g => if (s.group g).kind = .tie then [.tieCall ref] else []
    | _ => [])
    ++ (if (s.entry i).secure = true ∧ (s.entry i).ownedLeg = none then [.extension i] else [])
    ++ match b with
      | .extension k =>
        if (s.entry k).secure = true ∧ (s.entry k).ownedLeg = none ∧
            (∀ c ∈ s.calls, c.b = .extension k → c.bReservation = none) then [.bSide ref] else []
      | _ => []

/-- The FREE legs, lowest first (R52). -/
def State.freeLegList (s : State) : List Nat := (List.range 48).filter (fun k => (s.leg k).use.isFree)

/-- No leg is OPEN on a channel (R139). -/
def State.ChannelFree (s : State) (channel : Byte) : Prop :=
  ∀ l < 48, ∀ o, s.openLeg? l = some o → o.channel ≠ channel.toNat

/-- The leg that a LOCAL callee without a leg of its own gets at an ANSWER (R138): the call's own B-side reservation; else,
for a secure-capable callee, that of the earliest-routed other ALERTING call to it, which loses it; else the FREE leg of
lowest index. -/
def State.CalleeLeg (s : State) (c : Call) (b k : Nat) (loser : Option Nat) : Prop :=
  let other := fun y : Call => y.ref ≠ c.ref ∧ y.state = .alerting ∧ y.b = .extension b ∧ y.bReservation ≠ none
  (c.bReservation = some k ∧ (s.leg k).use = .reserved (.bSide c.ref) ∧ loser = none) ∨
  (c.bReservation = none ∧ (s.entry b).secure = true ∧ ∃ before x after, s.calls = before ++ x :: after ∧
    (∀ y ∈ before, ¬ other y) ∧ other x ∧ x.bReservation = some k ∧ (s.leg k).use = .reserved (.bSide x.ref) ∧
    loser = some x.ref) ∨
  (c.bReservation = none ∧ (s.entry b).secure = true ∧ (∀ y ∈ s.calls, ¬ other y) ∧ k < 48 ∧
    (s.leg k).use = .free ∧ (∀ l < k, (s.leg l).use ≠ .free) ∧ loser = none)

/-- A leg just opened (R54): its channel, session key and stream constants, WAIT and HUNT with a full hunt timer, no epoch
key, and epoch 0 wanted by both directions. -/
def FreshLeg (p : Params) (o : OpenLeg) (channel : Byte) (sk : Option Key) (outD inD : Nat) : Prop :=
  o.channel = channel.toNat ∧ o.sk = sk ∧ o.outD = outD ∧ o.inD = inD ∧ o.out.state = .wait ∧ o.inb.state = .hunt ∧
    o.inb.history = [] ∧ o.inb.misses = 0 ∧ o.inb.hunt = some (setFor p.huntLimit) ∧
    ∀ d, (o.keys d).active = none ∧ (o.keys d).standby = none ∧ (o.keys d).wanted = some 0

/-- A leg that an ANSWER opens: its place, owner, channel, session key and stream constants, and the jobs it offers. -/
structure Opening where
  leg : Nat
  owner : Owner
  channel : Byte
  sk : Option Key
  outD : Nat
  inD : Nat
  jobs : List Job
  deriving DecidableEq, Repr

/-- The opening of leg `k` for extension `i`: its session key, the constants 0 and 1, and the two EPOCH jobs for epoch 0,
outbound first (R54). -/
def State.openingFor (s : State) (k i : Nat) (sk : Key) (channel : Byte) : Opening :=
  ⟨k, .extension i, channel, some sk, 0, 1,
    [.epoch sk 0 k .outbound ((s.leg k).stamp + 1), .epoch sk 0 k .inbound ((s.leg k).stamp + 1)]⟩

/-- The opening of a tie leg: no session key yet, the constants of its tie end, and the TIE SESSION job (R54, R156). -/
def State.tieOpening (s : State) (k ref : Nat) (g : Group) (key : Key) (t : Long) (channel : Byte) : Opening :=
  ⟨k, .tieCall ref, channel, none, if g.tieEnd = .a then 0 else 1, if g.tieEnd = .a then 1 else 0,
    [.tieSession key t k ((s.leg k).stamp + 1)]⟩

/-- A channel byte that a party without a leg to open may carry: a channel, or none (R139, R189). -/
def ChannelOrNone (channel : Byte) : Prop := channel.toNat ≤ 127 ∨ channel = 255

/-- What an ANSWER that passes R139 does for an extension with its own leg, or without one: it opens the RESERVED leg that the
entry owns on the channel given; or it opens none, the entry owning no leg, or an OPEN one whose channel is given (R138). -/
def State.OwnLeg (s : State) (i : Nat) (channel : Byte) : Option Opening → Prop
  | some p => ∃ m sk, (s.entry i).ownedLeg = some m ∧ (s.leg m).use = .reserved (.extension i) ∧
      (s.entry i).sk = some sk ∧ channel.toNat ≤ 127 ∧ s.ChannelFree channel ∧ p = s.openingFor m i sk channel
  | none => ((s.entry i).ownedLeg = none ∧ ChannelOrNone channel) ∨
      ∃ m w o, (s.entry i).ownedLeg = some m ∧ (s.leg m).use = .opened w o ∧ o.channel = channel.toNat ∧
        channel.toNat ≤ 127

/-- What an ANSWER that passes R139 does for the B side (R138): the leg it opens, the call that loses its B-side reservation
to the callee, and the reservation of its own that is released. -/
def State.FarLeg (s : State) (c : Call) (channel : Byte) (t : Long) (p : Option Opening) (loser released : Option Nat) :
    Prop :=
  match c.b with
  | .service _ => p = none ∧ loser = none ∧ released = none ∧ ChannelOrNone channel
  | .group g => loser = none ∧ released = none ∧
      (c.tieLeg = none ∧ p = none ∧ ChannelOrNone channel ∨
        ∃ k key, c.tieLeg = some k ∧ (s.leg k).use = .reserved (.tieCall c.ref) ∧ (s.group g).tieKey = some key ∧
          channel.toNat ≤ 127 ∧ s.ChannelFree channel ∧ p = some (s.tieOpening k c.ref (s.group g) key t channel))
  | .extension b => c.a ≠ b ∧ (s.entry b).state = .admitted ∧
      (s.entry b).stack.length < (s.classRecord (s.entry b).cls).limit ∧
      ((s.entry b).ownedLeg ≠ none ∧ s.OwnLeg b channel p ∧ loser = none ∧ released = c.bReservation ∧
          (∀ f, c.bReservation = some f → (s.leg f).use = .reserved (.bSide c.ref)) ∨
        (s.entry b).ownedLeg = none ∧ released = none ∧ channel.toNat ≤ 127 ∧ s.ChannelFree channel ∧
          (∃ k sk, s.CalleeLeg c b k loser ∧ (s.entry b).sk = some sk ∧ p = some (s.openingFor k b sk channel)) ∨
        (s.entry b).ownedLeg = none ∧ released = none ∧ ChannelOrNone channel ∧ p = none ∧ loser = none ∧
          c.bReservation = none ∧ ((s.entry b).secure = false ∨ s.freeLegList = [] ∧
            ∀ y ∈ s.calls, y.ref ≠ c.ref → y.state = .alerting → y.b = .extension b → y.bReservation = none))

/-- A stack with a call pushed on top: the new call not held, the one that was on top held (R133). -/
def pushedOn (ref : Nat) (stack : List StackItem) : List StackItem :=
  ⟨ref, false⟩ :: match stack with
    | [] => []
    | top :: below => ⟨top.call, true⟩ :: below

/-- The CANCELLED replies owed when the admissions in progress end, in entry index order: to the ADMIT BEGIN of an entry
CHALLENGED and to the ADMIT ANSWER of an entry CHECKING, for the request whose slot still waits (R105). -/
def State.cancelledReplies (s : State) : List Reply :=
  (List.range 512).filterMap (fun i =>
    let owed := fun kind : Byte => ((List.range 4).find? (fun m => match s.slot m with
      | some h => h.kind == kind && h.awaiting == some i
      | none => false)).bind (fun m => (s.slot m).map (fun h =>
        (⟨some m, kind + 64, h.tag, .cancelled, wordBytes i⟩ : Reply)))
    match (s.entry i).state with
    | .challenged => owed 8
    | .checking => owed 9
    | _ => none)

/-! ### What no reply may tell -/

/-- A queued job with every word of the keys copied into it, and of the answer, replaced by 0 (R39). -/
def Job.keysHidden : Job → Job
  | .challenge _ n i st => .challenge ⟨0, 0, 0, 0⟩ n i st
  | .check _ c _ _ i st => .check ⟨0, 0, 0, 0⟩ c 0 0 i st
  | .tieSession _ t k st => .tieSession ⟨0, 0, 0, 0⟩ t k st
  | .epoch _ e k d st => .epoch ⟨0, 0, 0, 0⟩ e k d st

/-- The state with every word of every key replaced by 0, in the records and in the queued jobs, their presence kept (R75,
R84, R155). -/
def State.keysHidden (s : State) : State :=
  { s with
    deviceKey := s.deviceKey.map (fun _ => ⟨0, 0, 0, 0⟩)
    jobs := s.jobs.map Job.keysHidden
    directory := mapTable (fun e => { e with
      secret := e.secret.map (fun _ => ⟨0, 0, 0, 0⟩)
      sk := e.sk.map (fun _ => ⟨0, 0, 0, 0⟩) }) s.directory
    groups := mapTable (fun g => { g with tieKey := g.tieKey.map (fun _ => ⟨0, 0, 0, 0⟩) }) s.groups
    legs := mapTable (fun l => match l.use with
      | .opened w o => { l with use := .opened w { o with
          sk := o.sk.map (fun _ => ⟨0, 0, 0, 0⟩)
          out := { o.out with keys := { o.out.keys with
            active := o.out.keys.active.map (fun k => { k with key := ⟨0, 0, 0, 0⟩ })
            standby := o.out.keys.standby.map (fun k => { k with key := ⟨0, 0, 0, 0⟩ }) } }
          inb := { o.inb with
            bound := o.inb.bound.map (fun _ => ⟨0, 0, 0, 0⟩)
            keys := { o.inb.keys with
              active := o.inb.keys.active.map (fun k => { k with key := ⟨0, 0, 0, 0⟩ })
              standby := o.inb.keys.standby.map (fun k => { k with key := ⟨0, 0, 0, 0⟩ }) } } } }
      | _ => l) s.legs }

/-- The requests that read and change nothing. -/
def isRead : Instr → Bool
  | .readExtension _ _ => true
  | .readClass _ _ => true
  | .readRoute _ _ => true
  | .readCall _ _ => true
  | .readGroup _ _ => true
  | .readLeg _ _ => true
  | .readKeyUnit _ => true
  | .readSupervision _ => true
  | .identify _ => true
  | _ => false

end Sys2Proof.Machine
end

