-- ==== Sys2Proof/Certificates/Slice0/Obligations.lean ====
section
/-! DEFINITION. The statements for the provers. A statement about a request supposes a free slot of the request buffer
(`s.freeSlot = some j`): without one its frame is discarded, which `RequestDiscardedWhenFull` says. A statement about
another event supposes that RESET_N is not held (`s.resetHeld = false`, which a free slot implies); what is so while it is
held `HardResetClearsEveryRecord` says. `answered` and `deferred` are the link's answer; the state they are given is the
effect on every record, so that each equation is also the command's frame. That a request command is the arrival of its
good frame is the model's reading (DEDUCED, log 10), and no statement cites a rule for it. -/

open Sys2Proof Sys2Proof.Machine

/-! ### The queue of commands, the tick and the resets -/

/-- One step takes the command at the front of the queue and executes it with the rest of the queue. -/
def Obligations.StepTakesFrontCommand : Prop :=
  ∀ (s : State) (c : Instr) (rest : List Instr),
    s.pending = c :: rest → step s = exec c { s with pending := rest }

/-- DESIGN CHOICE of log 3: a step on an empty queue is one tick of R1. Every running timer counts one tick, but for a timer
that was set inside the period which the tick ends: that period is no whole tick after the setting. Exactly the timers that
stand at 0 have their expiry waiting, and the retry of refused offers comes last. -/
def Obligations.IdleStepIsOneTick : Prop :=
  ∀ s : State, s.resetHeld = false → s.pending = [] → ∃ t, step s = .next t ∧
    t = { s with legs := t.legs, directory := t.directory, calls := t.calls, silence := t.silence, pending := t.pending } ∧
    (∀ i < 512, t.entry i = { s.entry i with
      timer := (s.entry i).timer.map (fun x => ⟨x.kind, afterTick x.count⟩)
      interdigit := (s.entry i).interdigit.map afterTick }) ∧
    (∀ k < 48, (t.leg k).stamp = (s.leg k).stamp ∧ (t.leg k).use = match (s.leg k).use with
      | .opened w o => .opened w { o with inb := { o.inb with hunt := o.inb.hunt.map afterTick } }
      | u => u) ∧
    t.calls = s.calls.map (fun c => { c with grace := c.grace.map afterTick }) ∧
    t.silence = (match s.silence with
      | .running c => .running (afterTick c)
      | x => x) ∧
    (∀ k, .huntTimerExpiry k ∈ t.pending ↔ k < 48 ∧ ∃ o, t.openLeg? k = some o ∧ HasRunOut o.inb.hunt) ∧
    (∀ i, .admissionWindowExpiry i ∈ t.pending ↔ i < 512 ∧ (t.entry i).HasRunOut .window) ∧
    (∀ i, .lockoutExpiry i ∈ t.pending ↔ i < 512 ∧ (t.entry i).HasRunOut .lockout) ∧
    (∀ i, .interdigitExpiry i ∈ t.pending ↔ i < 512 ∧ HasRunOut (t.entry i).interdigit) ∧
    (∀ r, .graceTimerExpiry r ∈ t.pending ↔ ∃ c ∈ t.calls, c.ref = r ∧ HasRunOut c.grace) ∧
    (.silenceTimerExpiry ∈ t.pending ↔ t.silence.HasRunOut) ∧
    t.pending.getLast? = some .jobRetryTick

/-- While RESET_N is held the part takes no command but the pin, counts no tick, sends nothing and drives 213 on every
transmit pin. Its release leaves every record at its hard-reset value, whatever stood before, the straps read; the waiting
commands are the model's own and stay. READY with cause PIN is in transmission. -/
def Obligations.HardResetClearsEveryRecord : Prop :=
  ∀ s : State,
    exec (.hardReset .held) s = .next { s with resetHeld := true } ∧
    (s.resetHeld = true → s.sending = none ∧
      (∀ c < 128, s.portDriven c = some 213 ∧ s.matrixDriven c = some 213) ∧ (∀ n, s.afterFrameDriven n = some 213) ∧
      (s.pending = [] → step s = .next s) ∧ ∀ c, (∀ pin, c ≠ .hardReset pin) → exec c s = .next s) ∧
    ∀ straps : BitVec 2, ∃ t, exec (.hardReset (.released straps)) s = .next t ∧ t.resetHeld = false ∧
      t.strapCode = straps ∧ t.linkRate = [115200, 460800, 921600, 921600].getD straps.toNat 0 ∧
      t.receiver = .waitStart ∧ (∀ j < 4, t.slot j = none) ∧ t.replyQueue = [] ∧
      t.reportQueue = [] ∧ t.lostFlag = false ∧ (∀ b < 32, t.reportMask.getLsbD b = true) ∧
      t.sending = some (.report ⟨.ready .pin .normal false .lost, false⟩) ∧
      t.frameReference = .lost ∧ t.watchRunning = false ∧
      (∀ c < 128, t.routing c = .clear ∧ readAt t.routedAs .clear c = .clear ∧ readAt t.heldInbound none c = none ∧
        readAt t.heldOutbound none c = none ∧ t.portDriven c = some 213 ∧ t.matrixDriven c = some 213) ∧
      t.jobs = [] ∧ t.deviceKey = none ∧ t.challengeCounter = 0 ∧ (∀ k < 48, t.leg k = ⟨0, .free⟩) ∧
      (∀ i < 512,
        t.entry i = ⟨.vacant, [], 0, false, none, false, 0, 0, 0, none, none, none, [], false, none, [], none⟩) ∧
      (∀ c < 16, (t.classRecord c).limit = 1 ∧ ∀ v < 32, readAt (t.classRecord c).legalities .barred v = .barred) ∧
      (∀ n < 64, t.route n = none) ∧ t.calls = [] ∧ t.referenceCounter = 1 ∧
      (∀ g < 16, t.group g = ⟨.plain, .a, 0, 0, none, false⟩) ∧
      t.mode = .normal ∧ t.lock = false ∧ t.params = ⟨213, 64, 3, 10, 3750, 1, 3, 60, 8, 5, 0⟩ ∧
      t.silenceUsed = false ∧ t.deviceKeyUsed = false ∧ t.silence = .stopped ∧ t.lastToken = none ∧ t.pending = s.pending

/-- RESTART empties calls, legs, jobs, requests, replies and reports, returns the entries in admission or ADMITTED to ENROLLED,
leaves STANDALONE, restarts the silence timer, and queues READY after its reply. A timer is set inside a tick period (`setFor`;
DESIGN CHOICE, log 3). -/
def Obligations.RestartClearsWhatRuns : Prop :=
  ∀ (s : State) (j : Nat) (tag : Byte), s.freeSlot = some j →
    let mode := if s.mode = .maintenance then Mode.maintenance else Mode.normal
    exec (.restart tag) s = .next (queueReport (.ready .request mode s.lock s.frameReference)
      (answered j 39 tag .ok []
        { s with
          requestBuffer := fillTable 4 none
          replyQueue := []
          reportQueue := []
          lostFlag := false
          transmitting := s.transmitting.map (fun x => match x with
            | .reply r => .reply { r with slot := none }
            | .report q => .report q)
          channelTable := fillTable 128 .clear
          routedAs := fillTable 128 .clear
          heldInbound := fillTable 128 none
          heldOutbound := fillTable 128 none
          jobs := []
          legs := mapTable (fun l => ⟨l.stamp, .free⟩) s.legs
          directory := mapTable (fun e =>
            let back := e.state == .challenged || e.state == .checking || e.state == .admitted
            { e with
              state := if back then .enrolled else e.state
              pending := if back then none else e.pending
              sk := if back then none else e.sk
              timer := if back then none else e.timer
              register := []
              screening := false
              interdigit := none
              stack := []
              ownedLeg := none }) s.directory
          calls := []
          groups := mapTable (fun g => { g with active := 0 }) s.groups
          mode := mode
          silence :=
            if s.params.silenceInterval = 0 then .stopped
            else if s.mode = .maintenance then .paused (100 * s.params.silenceInterval)
            else .running (setFor s.params.silenceInterval)
          lastToken := none }))

/-! ### The control link -/

/-- A good frame that arrives while all four slots are held is discarded with REQUEST_DISCARDED and has no other
effect. -/
def Obligations.RequestDiscardedWhenFull : Prop :=
  ∀ (c : Instr) (f : RequestFrame) (s : State), s.resetHeld = false → requestFrame c = some f →
    (∀ j < 4, s.slot j ≠ none) → exec c s = .next (queueReport (.requestDiscarded f.kind f.tag) s)

/-- The frame of a well-formed request, received byte by byte by a receiver in WAIT_START, has the effect of the request's
own command: the payload reading undoes the payload writing, for every request and every operand. -/
def Obligations.FrameReceivedIsItsRequest : Prop :=
  ∀ (c : Instr) (f : RequestFrame) (s : State), c.wellFormed = true → requestFrame c = some f →
    s.receiver = .waitStart → exec (.frameReceived f.line) s = exec c s

/-- One byte with its stop bit, in each state of the receiver; a good frame arrives by its kind, tag and payload. A byte
without its stop bit, and the gap, abandon the frame in progress; in WAIT_START neither has an effect. That the length byte reported is
0 when the byte without its stop bit is the one taken in LENGTH is the model's choice (DESIGN CHOICE, log 20). -/
def Obligations.ReceiverTakesOneByte : Prop :=
  ∀ (s : State) (b : Byte), s.resetHeld = false →
    (s.receiver = .waitStart → exec (.frameReceived [⟨b, true⟩]) s =
      .next (if b = 165 then { s with receiver := .length } else s)) ∧
    (s.receiver = .length → 2 ≤ b.toNat → b.toNat ≤ 250 →
      exec (.frameReceived [⟨b, true⟩]) s = .next { s with receiver := .body b [] }) ∧
    (s.receiver = .length → b.toNat < 2 ∨ 250 < b.toNat → exec (.frameReceived [⟨b, true⟩]) s =
      .next (queueReport (.frameDiscarded .length b) { s with receiver := .waitStart })) ∧
    (∀ len kept, s.receiver = .body len kept → kept.length + 1 ≠ len.toNat →
      exec (.frameReceived [⟨b, true⟩]) s = .next { s with receiver := .body len (kept ++ [b]) }) ∧
    (∀ len kept, s.receiver = .body len kept → kept.length + 1 = len.toNat →
      exec (.frameReceived [⟨b, true⟩]) s = .next { s with receiver := .check len (kept ++ [b]) }) ∧
    (∀ len kept, s.receiver = .check len kept → (len :: kept ++ [b]).foldl (· + ·) 0 ≠ 0 →
      exec (.frameReceived [⟨b, true⟩]) s =
        .next (queueReport (.frameDiscarded .check len) { s with receiver := .waitStart })) ∧
    (∀ len kind tag payload, s.receiver = .check len (kind :: tag :: payload) →
      (len :: kind :: tag :: payload ++ [b]).foldl (· + ·) 0 = 0 →
      exec (.frameReceived [⟨b, true⟩]) s = .next (frameArrives kind tag payload { s with receiver := .waitStart })) ∧
    (s.receiver = .waitStart → exec .gapExpiry s = .next s ∧ exec (.frameReceived [⟨b, false⟩]) s = .next s) ∧
    (s.receiver ≠ .waitStart →
      let len := match s.receiver with
        | .body len _ => len
        | .check len _ => len
        | _ => 0
      exec .gapExpiry s =
          .next (queueReport (.frameDiscarded .gap len) { s with receiver := .waitStart }) ∧
        exec (.frameReceived [⟨b, false⟩]) s =
          .next (queueReport (.frameDiscarded .check len) { s with receiver := .waitStart }))

/-- A frame that arrives with a kind that names no request is refused with UNKNOWN_KIND, under its own reply kind inside
1..63 and by the general refusal with the kind received outside; a request of the wrong length is refused with BAD_LENGTH
and a quiet admission request with BAD_FIELD, each with the status alone. No record outside the link changes. -/
def Obligations.LinkRefusals : Prop :=
  ∀ (s : State) (j : Nat) (kind tag : Byte) (payload : List Byte), s.freeSlot = some j →
    (kind.toNat = 0 ∨ 42 < kind.toNat → tag ≠ 0 →
      frameArrives kind tag payload s = formReply
        (if 43 ≤ kind.toNat ∧ kind.toNat ≤ 63 then ⟨some j, kind + 64, tag, .unknownKind, []⟩
          else ⟨some j, 64, tag, .unknownKind, [kind]⟩) (s.setSlot j (some ⟨kind, tag, none⟩))) ∧
    (kind.toNat = 0 ∨ 42 < kind.toNat →
      frameArrives kind 0 payload s = queueReport (.quietRefused kind .unknownKind) s) ∧
    (1 ≤ kind.toNat → kind.toNat ≤ 42 → payload.length ∉ allowedLengths kind.toNat →
      frameArrives kind tag payload s = answered j kind tag .badLength [] s) ∧
    (kind = 8 ∧ payload.length = 2 ∨ kind = 9 ∧ payload.length = 6 →
      frameArrives kind 0 payload s = queueReport (.quietRefused kind .badField) s)

/-- The last byte of a frame frees the slot of its reply, and the transmitter takes the oldest reply, or else the oldest
report, or stays idle; an idle transmitter has nothing to complete. An idle transmitter with nothing waiting takes what is
formed or queued at once; a busy one lets it wait behind the others. A report is dropped by the mask without a trace, and by
a full queue with the lost flag, which the next report admitted carries and clears. A byte stands on the line as a start bit,
its bits least significant first and a stop bit, and is read back so. -/
def Obligations.TransmitterTakesRepliesFirst : Prop :=
  (∀ s : State, s.resetHeld = false →
    (s.transmitting = none → exec .transmitComplete s = .next s) ∧
    (∀ x, s.transmitting = some x →
      let freed := match x with
        | .reply ⟨some j, _, _, _, _⟩ => s.setSlot j none
        | _ => s
      (∀ r rest, s.replyQueue = r :: rest →
        exec .transmitComplete s = .next { freed with transmitting := some (.reply r), replyQueue := rest }) ∧
      (∀ q rest, s.replyQueue = [] → s.reportQueue = q :: rest →
        exec .transmitComplete s = .next { freed with transmitting := some (.report q), reportQueue := rest }) ∧
      (s.replyQueue = [] → s.reportQueue = [] →
        exec .transmitComplete s = .next { freed with transmitting := none }))) ∧
  (∀ (s : State) (r : Reply) (q : Report),
    (s.transmitting = none → s.replyQueue = [] → formReply r s = { s with transmitting := some (.reply r) }) ∧
    (s.transmitting ≠ none → formReply r s = { s with replyQueue := s.replyQueue ++ [r] }) ∧
    (s.reportMask.getLsbD (q.kind - 128) = false → queueReport q s = s) ∧
    (s.reportMask.getLsbD (q.kind - 128) = true →
      (s.transmitting = none → s.replyQueue = [] → s.reportQueue = [] →
        queueReport q s = { s with transmitting := some (.report ⟨q, s.lostFlag⟩), lostFlag := false }) ∧
      (s.transmitting ≠ none → s.reportQueue.length < 32 →
        queueReport q s = { s with reportQueue := s.reportQueue ++ [⟨q, s.lostFlag⟩], lostFlag := false }) ∧
      (32 ≤ s.reportQueue.length → queueReport q s = { s with lostFlag := true }))) ∧
  ∀ b : Byte, (lineBits b).length = 10 ∧ (lineBits b).getD 0 true = false ∧
    (∀ i < 8, (lineBits b).getD (i + 1) false = b.getLsbD i) ∧ (lineBits b).getD 9 false = true ∧
    lineByteOf (lineBits b) = some ⟨b, true⟩

/-- REPORT MASK replaces the whole mask and leaves READY enabled: bit b of byte j is the enable of kind 128 + 8j + b. -/
def Obligations.ReportMaskReplaced : Prop :=
  ∀ (s : State) (j : Nat) (tag b0 b1 b2 b3 : Byte), s.freeSlot = some j → ∃ m : BitVec 32,
    exec (.reportMask tag [b0, b1, b2, b3]) s =
      .next (answered j 41 tag .ok [b0 ||| 1, b1, b2, b3] { s with reportMask := m }) ∧
    m.getLsbD 0 = true ∧ (∀ b, 1 ≤ b → b < 8 → m.getLsbD b = b0.getLsbD b) ∧
    ∀ b < 8, m.getLsbD (8 + b) = b1.getLsbD b ∧ m.getLsbD (16 + b) = b2.getLsbD b ∧ m.getLsbD (24 + b) = b3.getLsbD b

/-! ### The extension directory -/

/-- ENROLL of one record that passes its tests makes its VACANT entry ENROLLED, keeping only the attempt stamp, with the
write-once mark used outside MAINTENANCE. The records are taken in order and the first refusal stops them: after a
record that is enrolled the rest have the outcome they have alone on the directory it leaves, with one record more counted;
a record that is refused, by the tests in their order, leaves nothing enrolled. -/
def Obligations.EnrollStopsAtFirstRefusal : Prop :=
  ∀ (s : State) (j : Nat) (tag : Byte) (r : EnrollRecord) (rest : List EnrollRecord), s.freeSlot = some j →
    rest.length ≤ 3 → r.number.bytes.length = 6 → (∀ x ∈ rest, x.number.bytes.length = 6) →
    ((¬ ∃ digits, RecordInRange r digits) →
      exec (.enroll tag (r :: rest)) s = .next (answered j 1 tag .badField [0] s)) ∧
    ∀ digits, RecordInRange r digits →
      ((s.entry r.entry.toNat).state ≠ .vacant →
        exec (.enroll tag (r :: rest)) s = .next (answered j 1 tag .state [0] s)) ∧
      ((s.entry r.entry.toNat).state = .vacant → s.NumberHeld digits →
        exec (.enroll tag (r :: rest)) s = .next (answered j 1 tag .duplicate [0] s)) ∧
      ((s.entry r.entry.toNat).state = .vacant → ¬ s.NumberHeld digits → r.secret.k3.toNat < 2 →
        exec (.enroll tag (r :: rest)) s = .next (answered j 1 tag .weakKey [0] s)) ∧
      ((s.entry r.entry.toNat).state = .vacant → ¬ s.NumberHeld digits → 2 ≤ r.secret.k3.toNat →
        exec (.enroll tag [r]) s = .next (answered j 1 tag .ok [1]
          (s.setEntry r.entry.toNat (entryEnrolled (s.entry r.entry.toNat) s.mode r digits)))) ∧
      ((s.entry r.entry.toNat).state = .vacant → ¬ s.NumberHeld digits → 2 ≤ r.secret.k3.toNat → rest ≠ [] →
        ∃ st n u,
          exec (.enroll tag rest)
              (s.setEntry r.entry.toNat (entryEnrolled (s.entry r.entry.toNat) s.mode r digits)) =
            .next (answered j 1 tag st [byteOf n] u) ∧
          exec (.enroll tag (r :: rest)) s = .next (answered j 1 tag st [byteOf (n + 1)] u))

/-- SET SECRET, SET CLASS, UNBAR and REMOVE, where their tests pass, change the one entry named: the secret with its mark,
the class, the state BARRED to ENROLLED, or the whole entry to VACANT but for its attempt stamp. Each refusal, in the order of
the tests, changes nothing. -/
def Obligations.DirectoryWrites : Prop :=
  (∀ (s : State) (j : Nat) (tag cls : Byte) (entry : Word) (secret : Key), s.freeSlot = some j → 511 < entry.toNat →
    exec (.setSecret tag entry secret) s = .next (answered j 2 tag .badField [] s) ∧
    exec (.remove tag entry) s = .next (answered j 3 tag .badField [] s) ∧
    exec (.setClass tag entry cls) s = .next (answered j 4 tag .badField [] s) ∧
    exec (.unbar tag entry) s = .next (answered j 6 tag .badField [] s)) ∧
  ∀ (s : State) (j : Nat) (tag : Byte) (entry : Word), s.freeSlot = some j → entry.toNat ≤ 511 →
    let i := entry.toNat
    let e := s.entry i
    let open_ := e.state = .enrolled ∨ e.state = .lockedOut ∨ e.state = .barred
    (∀ secret : Key,
      (¬ open_ → exec (.setSecret tag entry secret) s = .next (answered j 2 tag .state [] s)) ∧
      (open_ → s.mode ≠ .maintenance → e.secretUsed = true →
        exec (.setSecret tag entry secret) s = .next (answered j 2 tag .writtenOnce [] s)) ∧
      (open_ → s.mode = .maintenance ∨ e.secretUsed = false → secret.k3.toNat < 2 →
        exec (.setSecret tag entry secret) s = .next (answered j 2 tag .weakKey [] s))) ∧
    (∀ cls : Byte,
      (15 < cls.toNat → exec (.setClass tag entry cls) s = .next (answered j 4 tag .badField [] s)) ∧
      (cls.toNat ≤ 15 → e.state = .vacant →
        exec (.setClass tag entry cls) s = .next (answered j 4 tag .state [] s))) ∧
    (e.state ≠ .barred → exec (.unbar tag entry) s = .next (answered j 6 tag .state [] s)) ∧
    (¬ open_ → exec (.remove tag entry) s = .next (answered j 3 tag .state [] s)) ∧
    (open_ → (∃ c ∈ s.calls, c.b = .extension i) →
      exec (.remove tag entry) s = .next (answered j 3 tag .callsPresent [] s)) ∧
    (∀ secret : Key, e.state = .enrolled ∨ e.state = .lockedOut ∨ e.state = .barred →
      s.mode = .maintenance ∨ e.secretUsed = false → 2 ≤ secret.k3.toNat →
      exec (.setSecret tag entry secret) s = .next (answered j 2 tag .ok []
        (s.setEntry i { e with secret := some secret, secretUsed := e.secretUsed || s.mode != .maintenance }))) ∧
    (∀ cls : Byte, cls.toNat ≤ 15 → e.state ≠ .vacant →
      exec (.setClass tag entry cls) s = .next (answered j 4 tag .ok [] (s.setEntry i { e with cls := cls.toNat }))) ∧
    (e.state = .barred →
      exec (.unbar tag entry) s = .next (answered j 6 tag .ok [] (s.setEntry i { e with state := .enrolled }))) ∧
    (e.state = .enrolled ∨ e.state = .lockedOut ∨ e.state = .barred → (∀ c ∈ s.calls, c.b ≠ .extension i) →
      exec (.remove tag entry) s = .next (answered j 3 tag .ok [] (s.setEntry i
        ⟨.vacant, [], 0, false, none, false, 0, 0, e.stamp, none, none, none, [], false, none, [], none⟩)))

/-- BAR of an entry in each of its states. ENROLLED keeps its count; LOCKED_OUT loses its timer and its count and keeps
its level; CHALLENGED with its window running loses window and challenge without an attempt counted; CHALLENGED awaiting
its challenge, and CHECKING, have their deferred reply answered CANCELLED. ADMITTED is withdrawn with WITHDRAWN, reason
BARRED, its screening dropped without a report, its session key discarded, and its calls removed top first with reason
WITHDRAWN (`CallsAreRemoved`). An index above 511 and an entry that is VACANT or BARRED are refused. The request is
answered after the steps of its state (R88), so its reply is formed after the reports and the CANCELLED reply of these. -/
def Obligations.BarOutOfService : Prop :=
  ∀ (s : State) (j : Nat) (tag : Byte) (entry : Word), s.freeSlot = some j →
    let i := entry.toNat
    let e := s.entry i
    (511 < i → exec (.bar tag entry) s = .next (answered j 5 tag .badField [] s)) ∧ (i ≤ 511 →
    (e.state = .vacant ∨ e.state = .barred → exec (.bar tag entry) s = .next (answered j 5 tag .state [] s)) ∧
    (e.state = .enrolled →
      exec (.bar tag entry) s = .next (answered j 5 tag .ok [] (s.setEntry i { e with state := .barred }))) ∧
    (e.state = .lockedOut → exec (.bar tag entry) s = .next (answered j 5 tag .ok []
      (s.setEntry i { e with state := .barred, attempts := 0, timer := none }))) ∧
    (e.state = .challenged → (∀ m h, s.slot m = some h → h.awaiting ≠ some i) →
      exec (.bar tag entry) s = .next (answered j 5 tag .ok []
        (s.setEntry i { e with state := .barred, pending := none, timer := none }))) ∧
    (∀ m h, e.state = .challenged ∧ h.kind = 8 ∨ e.state = .checking ∧ h.kind = 9 → m < 4 → s.slot m = some h →
      h.awaiting = some i → (∀ n g, n ≠ m → s.slot n = some g → g.awaiting ≠ some i) →
      exec (.bar tag entry) s = .next (answered j 5 tag .ok []
        ((formReply ⟨some m, h.kind + 64, h.tag, .cancelled, wordBytes i⟩
          (s.setSlot m (some { h with awaiting := none }))).setEntry i
          { e with state := .barred, pending := none, timer := none }))) ∧
    (e.state = .admitted →
      let left := (queueReport (.withdrawn i .barred e.stack.length) s).setEntry i
        { e with register := [], screening := false, interdigit := none, sk := none }
      let ended := e.stack.foldl (fun u x => removeCall x.call (some .withdrawn) u) left
      exec (.bar tag entry) s =
        .next (answered j 5 tag .ok [] (ended.setEntry i { ended.entry i with state := .barred }))))

/-! ### Admission -/

/-- ADMIT BEGIN of an ENROLLED entry in NORMAL, with the device key present and room in the queue: the CHALLENGE job takes
the counter's value, the counter and the stamp advance, the entry is CHALLENGED, and the reply is deferred. ADMIT ANSWER of
an entry whose window runs: the window stops, a CHECK job carries the secret, the challenge number and the answer, the
entry is CHECKING with its stamp and challenge number, and the reply is deferred. Each refusal, in the order of the tests,
changes no record: an index above 511 with BAD_FIELD; ADMIT BEGIN of a LOCKED_OUT entry with LOCKED_OUT, of any other that is
not ENROLLED with STATE, and without a device key with NO_KEY; ADMIT ANSWER of an entry without a running window with STATE;
and either with a full queue with BUSY_KEYS. Those by the mode are in `ModeRefusals`. -/
def Obligations.AdmissionRequestsQueueJobs : Prop :=
  (∀ (s : State) (j : Nat) (tag : Byte) (entry first second : Word), s.freeSlot = some j → tag ≠ 0 → 511 < entry.toNat →
    exec (.admitBegin tag entry) s = .next (answered j 8 tag .badField (wordBytes entry.toNat) s) ∧
    exec (.admitAnswer tag entry first second) s = .next (answered j 9 tag .badField (wordBytes entry.toNat) s)) ∧
  ∀ (s : State) (j : Nat) (tag : Byte) (entry : Word), s.freeSlot = some j → tag ≠ 0 → entry.toNat ≤ 511 →
    let i := entry.toNat
    let e := s.entry i
    (s.mode = .normal → e.state = .lockedOut →
      exec (.admitBegin tag entry) s = .next (answered j 8 tag .lockedOut (wordBytes i) s)) ∧
    (s.mode = .normal → e.state ≠ .lockedOut → e.state ≠ .enrolled →
      exec (.admitBegin tag entry) s = .next (answered j 8 tag .state (wordBytes i) s)) ∧
    (s.mode ≠ .maintenance → (e.state ≠ .challenged ∨ ∀ ticks, e.timer ≠ some ⟨.window, ticks⟩) → ∀ first second,
      exec (.admitAnswer tag entry first second) s = .next (answered j 9 tag .state (wordBytes i) s)) ∧
    (∀ key, s.mode = .normal → e.state = .enrolled → s.deviceKey = some key → s.jobs.length < 32 →
      exec (.admitBegin tag entry) s = .next (deferred j 8 tag i
        { s.setEntry i { e with state := .challenged, stamp := e.stamp + 1, pending := none, timer := none } with
          jobs := s.jobs ++ [.challenge key s.challengeCounter i (e.stamp + 1)]
          challengeCounter := s.challengeCounter + 1 })) ∧
    (s.mode = .normal → e.state = .enrolled → s.deviceKey = none →
      exec (.admitBegin tag entry) s = .next (answered j 8 tag .noKey (wordBytes i) s)) ∧
    (s.mode = .normal → e.state = .enrolled → s.deviceKey ≠ none → 32 ≤ s.jobs.length →
      exec (.admitBegin tag entry) s = .next (answered j 8 tag .busyKeys (wordBytes i) s)) ∧
    (∀ ticks first second, s.mode ≠ .maintenance → e.state = .challenged → e.timer = some ⟨.window, ticks⟩ →
      (∀ secret c, e.secret = some secret → e.pending = some c → s.jobs.length < 32 →
        exec (.admitAnswer tag entry first second) s = .next (deferred j 9 tag i
          { s.setEntry i { e with state := .checking, timer := none } with
            jobs := s.jobs ++ [.check secret c first second i e.stamp] })) ∧
      (32 ≤ s.jobs.length →
        exec (.admitAnswer tag entry first second) s = .next (answered j 9 tag .busyKeys (wordBytes i) s)))

/-- The oldest job, a CHALLENGE the entry still expects, completes: the entry keeps C = c1 + 65536 × c2 and its window starts
with 2, 5, 10 or 30 s; the owed reply is OK with the entry, c1, c2 and the window. A timer is set inside a tick period
(`setFor`; DESIGN CHOICE, log 3). -/
def Obligations.ChallengeDelivered : Prop :=
  ∀ (s : State) (key : Key) (n : Long) (i : Nat) (rest : List Job) (m : Nat) (tag : Byte),
    s.resetHeld = false → i < 512 → s.jobs = .challenge key n i (s.entry i).stamp :: rest → (s.entry i).state = .challenged →
    m < 4 → s.slot m = some ⟨8, tag, some i⟩ → (∀ l g, l ≠ m → s.slot l = some g → g.awaiting ≠ some i) →
    let w := match s.params.windowChoice with
      | 0 => 2
      | 1 => 5
      | 2 => 10
      | _ => 30
    let c1 := wordOf (generator key n 4) 0
    let c2 := wordOf (generator key n 4) 1
    exec .challengeCompletion s = .next
      (formReply ⟨some m, 72, tag, .ok, wordBytes i ++ wordBytes c1.toNat ++ wordBytes c2.toNat ++ [byteOf w]⟩
        (({ s with jobs := rest }.setEntry i { s.entry i with
          pending := some (BitVec.ofNat 32 (c1.toNat + 65536 * c2.toNat))
          timer := some ⟨.window, setFor w⟩ }).setSlot m (some ⟨8, tag, none⟩)))

/-- The oldest job, a CHECK the entry still expects, completes with a match: ADMITTED with its session key, whose third
word is adjusted, counts 0 and nothing in use; the owed reply is ADMITTED. -/
def Obligations.CheckMatchAdmits : Prop :=
  ∀ (s : State) (secret : Key) (c : Long) (first second : Word) (i : Nat) (rest : List Job) (m : Nat) (tag : Byte),
    s.resetHeld = false → i < 512 → s.jobs = .check secret c first second i (s.entry i).stamp :: rest → (s.entry i).state = .checking →
    m < 4 → s.slot m = some ⟨9, tag, some i⟩ → (∀ l g, l ≠ m → s.slot l = some g → g.awaiting ≠ some i) →
    first = wordOf (generator secret c 2) 0 → second = wordOf (generator secret c 2) 1 →
    let g := generator secret c 2
    let w := wordOf g 4
    exec .checkCompletion s = .next
      (formReply ⟨some m, 73, tag, .admitted, wordBytes i⟩
        (({ s with jobs := rest }.setEntry i { s.entry i with
          state := .admitted
          sk := some ⟨wordOf g 2, wordOf g 3, if w.toNat < 2 then w + 2 else w, wordOf g 5⟩
          pending := none
          attempts := 0
          level := 0
          register := []
          screening := false
          interdigit := none
          stack := []
          ownedLeg := none }).setSlot m (some ⟨9, tag, none⟩)))

/-- An entry one failed attempt later: ENROLLED below the limit, LOCKED_OUT at it, for base × 2 ^ level seconds, its level
raised up to 4. A CHECK mismatch answers REFUSED_ANSWER, then queues LOCKOUT_BEGIN; a window expiry queues ADMIT_TIMEOUT, then
LOCKOUT_BEGIN; an expiry whose window has not run out changes nothing. A lockout that a CHECK begins is set inside a tick period
(`setFor`), one that a window expiry begins at a tick, so that the next tick counts (DESIGN CHOICE, log 3). -/
def Obligations.FailedAttemptCounts : Prop :=
  ∀ (s : State) (i : Nat), s.resetHeld = false → i < 512 →
    let e := s.entry i
    let locks := s.params.attemptLimit ≤ e.attempts + 1
    let seconds := s.params.lockoutBase * 2 ^ e.level
    let failed := fun timer : TimerCount => if locks then
        { e with
          state := .lockedOut
          attempts := e.attempts + 1
          level := min (e.level + 1) 4
          pending := none
          timer := some ⟨.lockout, timer⟩ }
      else ({ e with state := .enrolled, attempts := e.attempts + 1, pending := none, timer := none } : Entry)
    let told := fun u : State =>
      if locks then queueReport (.lockoutBegin i seconds (min (e.level + 1) 4)) u else u
    (e.state = .challenged → e.HasRunOut .window →
      exec (.admissionWindowExpiry i) s = .next (told
        (queueReport (.admitTimeout i (e.attempts + 1) (if locks then seconds else 0))
          (s.setEntry i (failed ⟨100 * seconds, false⟩))))) ∧
    (e.state ≠ .challenged ∨ ¬ e.HasRunOut .window → exec (.admissionWindowExpiry i) s = .next s) ∧
    (∀ secret c first second rest m tag, s.jobs = .check secret c first second i e.stamp :: rest →
      e.state = .checking → m < 4 → s.slot m = some ⟨9, tag, some i⟩ →
      (∀ l g, l ≠ m → s.slot l = some g → g.awaiting ≠ some i) →
      first ≠ wordOf (generator secret c 2) 0 ∨ second ≠ wordOf (generator secret c 2) 1 →
      exec .checkCompletion s = .next (told
        (formReply ⟨some m, 73, tag, .refusedAnswer,
            wordBytes i ++ [byteOf (e.attempts + 1)] ++ wordBytes (if locks then seconds else 0)⟩
          (({ s with jobs := rest }.setEntry i (failed (setFor seconds))).setSlot m (some ⟨9, tag, none⟩)))))

/-- CLEAR LOCKOUT and the lockout expiry end a lockout alike: ENROLLED, count 0, no timer, the level kept, LOCKOUT_END
with its cause. CLEAR LOCKOUT refuses an index above 511 with BAD_FIELD and an entry that is not LOCKED_OUT with STATE. An
expiry whose lockout has not run out changes nothing. That the reply to CLEAR LOCKOUT is formed after LOCKOUT_END is queued is
the model's choice: R100 states no order (DESIGN CHOICE, log 6). -/
def Obligations.LockoutEnds : Prop :=
  (∀ (s : State) (j : Nat) (tag : Byte) (entry : Word), s.freeSlot = some j →
    (511 < entry.toNat → exec (.clearLockout tag entry) s = .next (answered j 10 tag .badField [] s)) ∧
    (entry.toNat ≤ 511 → (s.entry entry.toNat).state ≠ .lockedOut →
      exec (.clearLockout tag entry) s = .next (answered j 10 tag .state [] s))) ∧
  ∀ (s : State) (j : Nat) (tag : Byte) (entry : Word), entry.toNat ≤ 511 →
    let e := s.entry entry.toNat
    let free := s.setEntry entry.toNat { e with state := .enrolled, attempts := 0, timer := none }
    (s.freeSlot = some j → e.state = .lockedOut → exec (.clearLockout tag entry) s =
      .next (answered j 10 tag .ok [] (queueReport (.lockoutEnd entry.toNat e.level .request) free))) ∧
    (s.resetHeld = false → e.state = .lockedOut → e.HasRunOut .lockout →
      exec (.lockoutExpiry entry.toNat) s = .next (queueReport (.lockoutEnd entry.toNat e.level .expiry) free)) ∧
    (s.resetHeld = false → e.state ≠ .lockedOut ∨ ¬ e.HasRunOut .lockout →
      exec (.lockoutExpiry entry.toNat) s = .next s)

/-- A completed job that its requester no longer expects leaves the queue and changes nothing else: by the stamp, by the
state, or by the wanted epoch (that the outstanding mark then stays as it is: DEDUCED, log 14). -/
def Obligations.UnexpectedResultsDiscarded : Prop :=
  ∀ (s : State) (rest : List Job), s.resetHeld = false →
    (∀ key n i stamp, s.jobs = .challenge key n i stamp :: rest →
      (s.entry i).stamp ≠ stamp ∨ (s.entry i).state ≠ .challenged →
      exec .challengeCompletion s = .next { s with jobs := rest }) ∧
    (∀ secret c first second i stamp, s.jobs = .check secret c first second i stamp :: rest →
      (s.entry i).stamp ≠ stamp ∨ (s.entry i).state ≠ .checking →
      exec .checkCompletion s = .next { s with jobs := rest }) ∧
    (∀ key t k stamp, s.jobs = .tieSession key t k stamp :: rest →
      (s.leg k).stamp ≠ stamp ∨ (∀ r o, (s.leg k).use ≠ .opened (.tieCall r) o) ∨
        (∃ o, s.openLeg? k = some o ∧ o.sk ≠ none) →
      exec .tieSessionCompletion s = .next { s with jobs := rest }) ∧
    (∀ sk e k d stamp, s.jobs = .epoch sk e k d stamp :: rest →
      (s.leg k).stamp ≠ stamp ∨ s.openLeg? k = none ∨
        (∃ o, s.openLeg? k = some o ∧ ((o.keys d).outstanding = false ∨ (o.keys d).wanted = none)) →
      exec .epochCompletion s = .next { s with jobs := rest })

/-- WITHDRAW of an entry whose stacked calls name it as a party: WITHDRAWN with reason HOST and the number of calls, its
screening dropped without a report, its session key discarded, each of its calls removed top first with reason WITHDRAWN
(`CallsAreRemoved`), then ENROLLED. Each of its calls leaves the table, its own stack is empty after, and the leg that it
alone owns is FREE, an OPEN one's channel CLEAR. The other calls stay, and a peer loses from its stack the calls ended and no
other; no other entry changes but in its stack and its owned leg. An idle transmitter takes the reply, ahead of the
withdrawal's reports (R102); that the model forms it before they are queued is its reading (DEDUCED, log 6). An index above
511 is refused with BAD_FIELD and an entry that is not ADMITTED with STATE. -/
def Obligations.WithdrawalEndsTheCalls : Prop :=
  (∀ (s : State) (j : Nat) (tag : Byte) (entry : Word), s.freeSlot = some j →
    (511 < entry.toNat → exec (.withdraw tag entry) s = .next (answered j 11 tag .badField [] s)) ∧
    (entry.toNat ≤ 511 → (s.entry entry.toNat).state ≠ .admitted →
      exec (.withdraw tag entry) s = .next (answered j 11 tag .state [] s))) ∧
  ∀ (s : State) (j : Nat) (tag : Byte) (entry : Word), s.freeSlot = some j → entry.toNat ≤ 511 →
    (s.entry entry.toNat).state = .admitted →
    (∀ x ∈ (s.entry entry.toNat).stack, ∃ c, s.call x.call = some c ∧
      (c.a = entry.toNat ∨ c.b = .extension entry.toNat)) →
    let i := entry.toNat
    let e := s.entry i
    let replied := answered j 11 tag .ok [byteOf e.stack.length] s
    let left := (queueReport (.withdrawn i .host e.stack.length) replied).setEntry i
      { e with register := [], screening := false, interdigit := none, sk := none }
    let ended := e.stack.foldl (fun u x => removeCall x.call (some .withdrawn) u) left
    let t := ended.setEntry i { ended.entry i with state := .enrolled }
    exec (.withdraw tag entry) s = .next t ∧
      (tag ≠ 0 → s.transmitting = none → s.replyQueue = [] →
        t.transmitting = some (.reply ⟨some j, 75, tag, .ok, [byteOf e.stack.length]⟩)) ∧
      t.entry i = { e with
        state := .enrolled
        sk := none
        stack := []
        screening := false
        register := []
        interdigit := none
        ownedLeg := (t.entry i).ownedLeg } ∧
      (∀ k, e.stack ≠ [] → e.ownedLeg = some k → (s.leg k).use.owner? = some (.extension i) →
        (∀ l < 48, l ≠ k → (s.leg l).use.owner? ≠ some (.extension i)) →
        t.leg k = ⟨(s.leg k).stamp, .free⟩ ∧ (t.entry i).ownedLeg = none ∧
          ∀ w o, (s.leg k).use = .opened w o → o.channel < 128 → t.routing o.channel = .clear) ∧
      (∀ x ∈ e.stack, t.call x.call = none) ∧
      (∀ c ∈ s.calls, (∀ x ∈ e.stack, x.call ≠ c.ref) → ∃ d ∈ t.calls, d = { c with status := d.status, grace := d.grace }) ∧
      (∀ l, l ≠ i → t.entry l = { s.entry l with
        stack := (s.entry l).stack.filter (fun x => !(e.stack.any (fun y => y.call == x.call) &&
          match s.call x.call with
          | some c => c.a == l || c.b == .extension l
          | none => false))
        ownedLeg := (t.entry l).ownedLeg }) ∧
      t.classes = s.classes ∧ t.routes = s.routes ∧ t.jobs = s.jobs ∧ t.mode = s.mode ∧ t.lock = s.lock ∧
      t.params = s.params ∧ t.deviceKey = s.deviceKey ∧ t.challengeCounter = s.challengeCounter ∧
      t.referenceCounter = s.referenceCounter ∧ t.requestBuffer = replied.requestBuffer ∧
      (s.IdleHasNothingWaiting → t.replyQueue = replied.replyQueue)

/-! ### Classes, routes and screening -/

/-- WRITE CLASS with a stack limit of 1 to 3 and 32 legality bytes of 0 to 2 replaces the whole record. A set lock refuses it
first outside MAINTENANCE, with LOCKED; then a class above 15, a stack limit of 0 or above 3, or a legality byte above 2 is
refused with BAD_FIELD. A refusal changes nothing. -/
def Obligations.WriteClassReplacesRecord : Prop :=
  ∀ (s : State) (j : Nat) (tag cls limit : Byte) (bytes : List Byte), s.freeSlot = some j → bytes.length = 32 →
    (s.lock = true → s.mode ≠ .maintenance →
      exec (.writeClass tag cls limit bytes) s = .next (answered j 15 tag .locked [] s)) ∧
    ((s.lock = false ∨ s.mode = .maintenance) →
      15 < cls.toNat ∨ limit = 0 ∨ 3 < limit.toNat ∨ (∃ b ∈ bytes, 2 < b.toNat) →
      exec (.writeClass tag cls limit bytes) s = .next (answered j 15 tag .badField [] s)) ∧
    ((s.lock = false ∨ s.mode = .maintenance) → cls.toNat ≤ 15 → 1 ≤ limit.toNat → limit.toNat ≤ 3 →
      (∀ b ∈ bytes, b.toNat ≤ 2) →
      ∃ r : ClassRecord, exec (.writeClass tag cls limit bytes) s =
          .next (answered j 15 tag .ok [] (s.setClassRecord cls.toNat r)) ∧
        r.limit = limit.toNat ∧ ∀ v < 32, (readAt r.legalities .barred v).code = bytes.getD v 0)

/-- READ CLASS and READ ROUTE: R112 and R117 whole. The reply's way over the link is `answered` (log 6, log 10). -/
def Obligations.ReadTablesShowEntries : Prop :=
  ∀ (s : State) (j : Nat) (tag cls route : Byte), s.freeSlot = some j →
    (15 < cls.toNat → exec (.readClass tag cls) s = .next (answered j 16 tag .badField [] s)) ∧
    (cls.toNat ≤ 15 → exec (.readClass tag cls) s = .next (answered j 16 tag .ok
      (cls :: byteOf (s.classRecord cls.toNat).limit ::
        (List.range 32).map (fun v => (readAt (s.classRecord cls.toNat).legalities .barred v).code)) s)) ∧
    (63 < route.toNat → exec (.readRoute tag route) s = .next (answered j 19 tag .badField [] s)) ∧
    (route.toNat ≤ 63 → s.route route.toNat = none →
      exec (.readRoute tag route) s = .next (answered j 19 tag .ok (route :: List.replicate 45 0) s)) ∧
    (∀ r, route.toNat ≤ 63 → s.route route.toNat = some r →
      exec (.readRoute tag route) s = .next (answered j 19 tag .ok
        (route :: 1 :: byteOf r.low.length :: (r.low.map byteOf ++ List.replicate (16 - r.low.length) 0
          ++ byteOf r.high.length :: (r.high.map byteOf ++ List.replicate (16 - r.high.length) 0
          ++ (match r.kind with
            | .localCall => [0, 0]
            | .trunk g => [1, byteOf g]
            | .service c => [2, byteOf c])
          ++ [byteOf r.service, if r.secureRequired then 1 else 0, byteOf r.strip, byteOf r.insert.length]
          ++ r.insert.map byteOf ++ List.replicate (4 - r.insert.length) 0))) s))

/-- WRITE ROUTE of fields in range that conflict with no other occupied entry makes its entry hold them, in place of any it
held; a conflict with another occupied entry, whichever of the two is the shorter, is refused with CONFLICT. Before that a set
lock refuses the request outside MAINTENANCE with LOCKED, and then an entry above 63, or fields that are not in range and so give
no route (`FieldsGive`), with BAD_FIELD. A refusal changes nothing. -/
def Obligations.WriteRouteKeepsRoutesApart : Prop :=
  ∀ (s : State) (j : Nat) (tag route : Byte) (f : RouteFields), s.freeSlot = some j → f.wellFormed = true →
    let refused := fun st : Status => exec (.writeRoute tag route f) s = .next (answered j 17 tag st [] s)
    (s.lock = true → s.mode ≠ .maintenance → refused .locked) ∧
    ((s.lock = false ∨ s.mode = .maintenance) →
      (63 < route.toNat ∨ (∀ r, ¬ FieldsGive f r) → refused .badField) ∧
      ∀ r, route.toNat ≤ 63 → FieldsGive f r →
        let conflict := fun a : Route => RangesMeet r a ∨ RangesMeet a r
        ((∀ m a, m ≠ route.toNat → s.route m = some a → ¬ conflict a) →
          exec (.writeRoute tag route f) s = .next (answered j 17 tag .ok [] (s.setRoute route.toNat (some r)))) ∧
        ((∃ m a, m ≠ route.toNat ∧ s.route m = some a ∧ conflict a) → refused .conflict))

/-- CLEAR ROUTE: R116 whole; the reply's way over the link is `answered` (log 6, log 10). Calls and screenings are in the
state that the answer keeps, and the next digit walks the table without the entry. -/
def Obligations.ClearRouteVacatesEntry : Prop :=
  ∀ (s : State) (j : Nat) (tag route : Byte), s.freeSlot = some j →
    (s.lock = true → s.mode ≠ .maintenance →
      exec (.clearRoute tag route) s = .next (answered j 18 tag .locked [] s)) ∧
    (s.lock = false ∨ s.mode = .maintenance → 63 < route.toNat →
      exec (.clearRoute tag route) s = .next (answered j 18 tag .badField [] s)) ∧
    (s.lock = false ∨ s.mode = .maintenance → route.toNat ≤ 63 →
      exec (.clearRoute tag route) s =
          .next (answered j 18 tag .ok [] { s with routes := writeAt s.routes route.toNat none }) ∧
        ∀ digits n r, (s.setRoute route.toNat none).walk digits = .exact n r → n ≠ route.toNat)

/-- DIAL START begins a screening with an empty register and a full interdigit time; DIAL ABORT and the interdigit expiry end
one, the expiry with DIAL_TIMEOUT and the number of digits. An expiry whose timer has not run out changes nothing. Each refusal,
in the order of the tests, changes nothing: an index above 511 or a digit above 9 with BAD_FIELD; DIAL START of an entry that is
not ADMITTED or is screening with STATE, and at its class's limit with CALL_LIMIT; DIGIT and DIAL ABORT without an active
screening with STATE. Those by the mode are in `ModeRefusals`. A timer is set inside a tick period (`setFor`; DESIGN CHOICE, log
3). -/
def Obligations.ScreeningBeginsAndEnds : Prop :=
  (∀ (s : State) (j : Nat) (tag : Byte) (entry : Word) (value : Byte), s.freeSlot = some j →
    (511 < entry.toNat → exec (.dialStart tag entry) s = .next (answered j 12 tag .badField [] s) ∧
      exec (.dialAbort tag entry) s = .next (answered j 14 tag .badField [] s)) ∧
    (511 < entry.toNat ∨ 9 < value.toNat →
      exec (.digit tag entry value) s = .next (answered j 13 tag .badField [] s)) ∧
    (entry.toNat ≤ 511 →
      let e := s.entry entry.toNat
      (s.mode = .normal → e.state ≠ .admitted ∨ e.screening = true →
        exec (.dialStart tag entry) s = .next (answered j 12 tag .state [] s)) ∧
      (s.mode = .normal → e.state = .admitted → e.screening = false →
        (s.classRecord e.cls).limit ≤ e.stack.length →
        exec (.dialStart tag entry) s = .next (answered j 12 tag .callLimit [] s)) ∧
      (s.mode ≠ .maintenance → e.screening = false →
        exec (.dialAbort tag entry) s = .next (answered j 14 tag .state [] s) ∧
        (value.toNat ≤ 9 → exec (.digit tag entry value) s = .next (answered j 13 tag .state [] s))))) ∧
  ∀ (s : State) (j : Nat) (tag : Byte) (entry : Word), entry.toNat ≤ 511 →
    let i := entry.toNat
    let e := s.entry i
    (s.freeSlot = some j → s.mode = .normal → e.state = .admitted → e.screening = false →
      e.stack.length < (s.classRecord e.cls).limit →
      exec (.dialStart tag entry) s = .next (answered j 12 tag .ok [] (s.setEntry i
        { e with register := [], screening := true, interdigit := some (setFor s.params.interdigitTime) }))) ∧
    (s.freeSlot = some j → s.mode ≠ .maintenance → e.screening = true →
      exec (.dialAbort tag entry) s = .next (answered j 14 tag .ok []
        (s.setEntry i { e with register := [], screening := false, interdigit := none }))) ∧
    (s.resetHeld = false → e.screening = true → HasRunOut e.interdigit →
      exec (.interdigitExpiry i) s = .next (queueReport (.dialTimeout i e.register.length .incomplete)
        (s.setEntry i { e with register := [], screening := false, interdigit := none }))) ∧
    (s.resetHeld = false → e.screening = false ∨ ¬ HasRunOut e.interdigit → exec (.interdigitExpiry i) s = .next s)

/-- DIGIT with no exact match: with a candidate the digit is kept, the interdigit time starts again and the answer is MORE with
the number of digits; with none, screening ends and the answer is NO_ROUTE with that number. A timer is set inside a tick period
(`setFor`; DESIGN CHOICE, log 3). -/
def Obligations.DigitIsCollected : Prop :=
  ∀ (s : State) (j : Nat) (tag : Byte) (entry : Word) (value : Byte), s.freeSlot = some j → entry.toNat ≤ 511 →
    value.toNat ≤ 9 → s.mode ≠ .maintenance → (s.entry entry.toNat).screening = true →
    let i := entry.toNat
    let e := s.entry i
    let digits := e.register ++ [value.toNat]
    let p := digitsValue digits
    let body := wordBytes i ++ [byteOf digits.length]
    (∀ n r, s.route n = some r →
      ¬ (r.low.length = digits.length ∧ digitsValue r.low ≤ p ∧ p ≤ digitsValue r.high)) →
    ((∃ n r, s.route n = some r ∧ digits.length ≤ r.low.length ∧
        digitsValue r.low / 10 ^ (r.low.length - digits.length) ≤ p ∧
        p ≤ digitsValue r.high / 10 ^ (r.low.length - digits.length)) →
      exec (.digit tag entry value) s = .next (answered j 13 tag .more body (s.setEntry i
        { e with register := digits, interdigit := some (setFor s.params.interdigitTime) }))) ∧
    ((∀ n r, s.route n = some r → ¬ (digits.length ≤ r.low.length ∧
        digitsValue r.low / 10 ^ (r.low.length - digits.length) ≤ p ∧
        p ≤ digitsValue r.high / 10 ^ (r.low.length - digits.length))) →
      exec (.digit tag entry value) s = .next (answered j 13 tag .noRoute body (s.setEntry i
        { e with register := [], screening := false, interdigit := none })))

/-- The walk of the route table for the digits collected, where no two routes conflict: it answers the exact match when an
occupied entry is one, and then no other occupied entry is a candidate; it answers MORE when an occupied entry is a candidate
and none an exact match, and NO_ROUTE when none is a candidate. Each outcome is so said by which entries are occupied and with
what, and the order of the entries does not enter it. -/
def Obligations.ExactMatchIsOnlyCandidate : Prop :=
  ∀ (s : State) (digits : List Nat), s.RoutesApart →
    let p := digitsValue digits
    let exact := fun r : Route => r.low.length = digits.length ∧ digitsValue r.low ≤ p ∧ p ≤ digitsValue r.high
    let candidate := fun r : Route => digits.length ≤ r.low.length ∧
      digitsValue r.low / 10 ^ (r.low.length - digits.length) ≤ p ∧
      p ≤ digitsValue r.high / 10 ^ (r.low.length - digits.length)
    (∀ n r, s.walk digits = .exact n r ↔ s.route n = some r ∧ exact r) ∧
    (∀ n r, s.walk digits = .exact n r → ∀ m b, s.route m = some b → candidate b → m = n ∧ b = r) ∧
    (s.walk digits = .more ↔
      (∃ n r, s.route n = some r ∧ candidate r) ∧ ∀ n r, s.route n = some r → ¬ exact r) ∧
    (s.walk digits = .noRoute ↔ ∀ n r, s.route n = some r → ¬ candidate r)

/-- The DIGIT that completes a route decides in the order legality, party, caller's depth, call table, feasibility, legs: for
a LOCAL route number, caller, callee's state and callee's depth; for a TRUNK route tie key and budget; for a SERVICE route
no party test. Each refusal carries the entry and the route and changes nothing but the end of the screening. -/
def Obligations.LocalDecisionRefusals : Prop :=
  ∀ (s : State) (j : Nat) (tag : Byte) (entry : Word) (value : Byte) (n : Nat) (r : Route), s.freeSlot = some j →
    entry.toNat ≤ 511 → value.toNat ≤ 9 → s.mode ≠ .maintenance → (s.entry entry.toNat).screening = true →
    s.RoutesApart → s.route n = some r →
    let i := entry.toNat
    let e := s.entry i
    let digits := e.register ++ [value.toNat]
    r.low.length = digits.length → digitsValue r.low ≤ digitsValue digits →
    digitsValue digits ≤ digitsValue r.high →
    let legality := readAt (s.classRecord e.cls).legalities .barred r.service
    let ended := s.setEntry i { e with register := [], screening := false, interdigit := none }
    let refused := fun st : Status => exec (.digit tag entry value) s =
      .next (answered j 13 tag st (wordBytes i ++ [byteOf n]) ended)
    let full := (s.classRecord e.cls).limit ≤ e.stack.length
    (legality = .barred → refused .barredService) ∧
    (legality ≠ .barred → r.kind = .localCall →
      (¬ s.NumberHeld digits → refused .noSuchExtension) ∧
      (s.NumbersUnique → e.state ≠ .vacant → e.number = digits → refused .selfCall) ∧
      ∀ k < 512, s.NumbersUnique → k ≠ i → (s.entry k).state ≠ .vacant → (s.entry k).number = digits →
        let depth := (s.entry k).stack.length
        let limit := (s.classRecord (s.entry k).cls).limit
        ((s.entry k).state ≠ .admitted → refused .calleeUnavailable) ∧
        ((s.entry k).state = .admitted → limit ≤ depth → refused .calleeBusy) ∧
        ((s.entry k).state = .admitted → depth < limit → full → refused .callLimit)) ∧
    (∀ g, legality ≠ .barred → r.kind = .trunk g →
      let keyless := (s.group g).kind = .tie ∧ (s.group g).tieKey = none
      (keyless → refused .noKey) ∧
      (¬ keyless → (s.group g).budget ≤ (s.group g).active → refused .groupFull) ∧
      (¬ keyless → (s.group g).active < (s.group g).budget → full → refused .callLimit)) ∧
    (∀ code, legality ≠ .barred → r.kind = .service code → full → refused .callLimit) ∧
    (∀ b, legality ≠ .barred → s.ScreenPasses i digits r b →
      let requires := legality = .secureOnly ∨ r.secureRequired = true
      let tie := ∃ g, b = .group g ∧ (s.group g).kind = .tie
      let infeasible := e.secure = false ∨ (∃ k, b = .extension k ∧ (s.entry k).secure = false) ∨
        ∃ g, b = .group g ∧ (s.group g).kind = .plain
      let tooFew := s.freeLegList.length < (s.legsNeeded i b s.referenceCounter).length
      (96 ≤ s.calls.length → refused .callTableFull) ∧
      (s.calls.length < 96 → requires → infeasible ∨ tooFew → refused .secureUnavailable) ∧
      (s.calls.length < 96 → tie → s.freeLegList = [] → refused .secureUnavailable))

/-- The DIGIT that completes a route and passes every check creates the call: ALERTING at the young end of the table, with
the first free reference from the counter on, 65535 being followed by 1, pushed on the caller's stack with the call that was on top now held; a
TRUNK call forwards the digits after the strip behind the insert and counts in its group; every call is then evaluated and
the answer is ROUTED. The legs needed are reserved, tie, caller, callee, each the FREE leg of lowest index then remaining,
and a call left short of one is CLEAR_BY_CAPACITY. Stated in full for a SERVICE route with no leg to reserve, and then for
every route. The reply is formed after the CALL_SECURE reports of the evaluation, as R137 has it. -/
def Obligations.DigitRoutesServiceCall : Prop :=
  ∀ (s : State) (j : Nat) (tag : Byte) (entry : Word) (value : Byte) (n : Nat) (r : Route), s.freeSlot = some j →
    entry.toNat ≤ 511 → value.toNat ≤ 9 → s.mode ≠ .maintenance → (s.entry entry.toNat).screening = true →
    s.RoutesApart → s.route n = some r →
    let i := entry.toNat
    let e := s.entry i
    let digits := e.register ++ [value.toNat]
    let legality := readAt (s.classRecord e.cls).legalities .barred r.service
    ∀ m : Nat,
    let offered := fun x : Nat => if x = 0 then s.referenceCounter else (s.referenceCounter - 1 + x) % 65535 + 1
    let ref := offered m
    r.low.length = digits.length → digitsValue r.low ≤ digitsValue digits →
    digitsValue digits ≤ digitsValue r.high → legality ≠ .barred →
    s.calls.length < 96 → (m = 0 ∨ 1 ≤ s.referenceCounter ∧ s.referenceCounter ≤ 65535) →
    (∀ x < m, ∃ c ∈ s.calls, c.ref = offered x) → (∀ c ∈ s.calls, c.ref ≠ ref) →
    (∀ code, r.kind = .service code → e.stack.length < (s.classRecord e.cls).limit →
      (e.secure = false ∨ e.ownedLeg ≠ none) →
      (e.secure = true ∨ legality = .allowed ∧ r.secureRequired = false) →
      exec (.digit tag entry value) s = .next (answered j 13 tag .routed
        (wordBytes i ++ [byteOf n] ++ wordBytes ref ++ [2, 0, 0, 0, byteOf code] ++ List.replicate 21 0)
        (evaluateCalls { s.setEntry i { e with
              register := []
              screening := false
              interdigit := none
              stack := pushedOn ref e.stack } with
          calls := s.calls ++ [{
            ref := ref
            a := i
            b := .service code
            forwarded := []
            tieNumber := none
            tieLeg := none
            service := r.service
            state := .alerting
            requiresSecure := legality == .secureOnly || r.secureRequired
            status := .notSecure
            bReservation := none
            grace := none }]
          referenceCounter := if 65535 ≤ ref then 1 else ref + 1 }))) ∧
    ∀ b, s.ScreenPasses i digits r b →
      let requires := legality = .secureOnly ∨ r.secureRequired = true
      let needed := s.legsNeeded i b ref
      let given := needed.zip s.freeLegList
      (requires → e.secure = true ∧ (∀ k, b = .extension k → (s.entry k).secure = true) ∧
        (∀ g, b = .group g → (s.group g).kind = .tie) ∧ needed.length ≤ s.freeLegList.length) →
      (∀ g, b = .group g → (s.group g).kind = .tie → s.freeLegList ≠ []) →
      let forwarded := match b with
        | .group _ => r.insert ++ digits.drop r.strip
        | _ => []
      let party := match b with
        | .extension k => [0] ++ wordBytes k ++ [0, 0]
        | .group g => [1, 0, 0, byteOf g, 0]
        | .service code => [2, 0, 0, 0, byteOf code]
      ∃ u, exec (.digit tag entry value) s = .next (answered j 13 tag .routed
          (wordBytes i ++ [byteOf n] ++ wordBytes ref ++ party ++ byteOf forwarded.length ::
            (forwarded.map byteOf ++ List.replicate (20 - forwarded.length) 0)) (evaluateCalls u)) ∧
        u = { s with
          directory := u.directory
          legs := u.legs
          groups := u.groups
          calls := s.calls ++ [{
            ref := ref
            a := i
            b := b
            forwarded := forwarded
            tieNumber := none
            tieLeg := given.lookup (.tieCall ref)
            service := r.service
            state := .alerting
            requiresSecure := legality == .secureOnly || r.secureRequired
            status := if needed.length ≤ s.freeLegList.length then .notSecure else .clearByCapacity
            bReservation := given.lookup (.bSide ref)
            grace := none }]
          referenceCounter := if 65535 ≤ ref then 1 else ref + 1 } ∧
        u.entry i = { e with
          register := []
          screening := false
          interdigit := none
          stack := pushedOn ref e.stack
          ownedLeg := (given.lookup (.extension i)).or e.ownedLeg } ∧
        (∀ l, l ≠ i → u.entry l = s.entry l) ∧
        (∀ k, u.leg k = match given.find? (fun x => x.2 == k) with
          | some x => ⟨(s.leg k).stamp, .reserved x.1⟩
          | none => s.leg k) ∧
        ∀ g, u.group g = if b = .group g then { s.group g with active := (s.group g).active + 1 } else s.group g

/-! ### Calls -/

/-- ANSWER of an ALERTING SERVICE call whose caller owns a RESERVED leg k, with an A channel on which no leg is OPEN: leg k
is OPEN on that channel with the next stamp, the caller's session key, the stream constants 0 and 1, WAIT and HUNT, its
hunt timer full, and its channel is LEG k; the outbound and the inbound EPOCH jobs for epoch 0 are queued while places
remain, and refused and marked otherwise.

ANSWER of every ALERTING call that passes R139: the call is TALKING and pushed on a LOCAL callee's stack; the caller's leg and
the B side's are opened or left as `OwnLeg` and `FarLeg` say, each opened leg on its channel with its jobs offered; a B-side
reservation passes to the callee or is released; every call is then evaluated. That the caller's leg is opened first is the
model's choice (DESIGN CHOICE, log 17), and so is the place of the reply, formed after the CALL_SECURE reports of the
evaluation, an order that no rule states (DESIGN CHOICE, log 6). The refusals of R139 come in its order and leave every record
as it was. A timer is set inside a tick period (`setFor`; DESIGN CHOICE, log 3). -/
def Obligations.AnswerOpensCallersLeg : Prop :=
  (∀ (s : State) (j k : Nat) (tag channelA channelB : Byte) (call : Word) (t : Long) (c : Call) (code : Nat) (sk : Key),
      s.freeSlot = some j → call ≠ 0 → channelA.toNat ≤ 127 → (channelB.toNat ≤ 127 ∨ channelB = 255) →
      s.mode ≠ .standalone → s.call call.toNat = some c → c.state = .alerting → c.b = .service code → c.tieLeg = none →
      k < 48 → (s.entry c.a).ownedLeg = some k → (s.leg k).use = .reserved (.extension c.a) →
      (s.entry c.a).sk = some sk →
      (∀ l < 48, ∀ o, s.openLeg? l = some o → o.channel ≠ channelA.toNat) →
      let stamp := (s.leg k).stamp + 1
      ∃ u o, exec (.answer tag call channelA channelB t) s = .next (answered j 20 tag .ok
          (wordBytes c.ref ++ [byteOf k, 255, ((u.call c.ref).map (fun x => x.status.code)).getD 0]) u) ∧
        u.leg k = ⟨stamp, .opened (.extension c.a) o⟩ ∧ (∀ l, l ≠ k → u.leg l = s.leg l) ∧
        u.routing channelA.toNat = .leg k ∧ (∀ d, d ≠ channelA.toNat → u.routing d = s.routing d) ∧
        o.channel = channelA.toNat ∧ o.sk = some sk ∧ o.outD = 0 ∧ o.inD = 1 ∧
        o.out.state = .wait ∧ o.inb.state = .hunt ∧ o.inb.history = [] ∧ o.inb.misses = 0 ∧
        o.inb.hunt = some (setFor s.params.huntLimit) ∧
        (∀ d, (o.keys d).active = none ∧ (o.keys d).standby = none ∧ (o.keys d).wanted = some 0) ∧
        (s.jobs.length < 31 → u.jobs = s.jobs ++ [.epoch sk 0 k .outbound stamp, .epoch sk 0 k .inbound stamp] ∧
          ∀ d, (o.keys d).outstanding = true ∧ (o.keys d).marked = false) ∧
        (s.jobs.length = 31 → u.jobs = s.jobs ++ [.epoch sk 0 k .outbound stamp] ∧
          (o.keys .outbound).outstanding = true ∧ (o.keys .inbound).marked = true ∧
          (o.keys .inbound).outstanding = false) ∧
        (32 ≤ s.jobs.length → u.jobs = s.jobs ∧ ∀ d, (o.keys d).outstanding = false ∧ (o.keys d).marked = true) ∧
        (∀ x, u.call c.ref = some x → x.state = .talking) ∧ (u.call c.ref).isSome ∧
        u.directory = s.directory ∧ u.groups = s.groups ∧ u.classes = s.classes ∧ u.routes = s.routes ∧
        u.mode = s.mode ∧ u.lock = s.lock ∧ u.params = s.params ∧ u.referenceCounter = s.referenceCounter) ∧
  (∀ (s : State) (j : Nat) (tag channelA channelB : Byte) (call : Word) (t : Long) (c : Call) (pa pb : Option Opening)
      (loser released : Option Nat),
    s.freeSlot = some j → call ≠ 0 → s.mode ≠ .standalone → (s.calls.map (fun x => x.ref)).Nodup →
    s.call call.toNat = some c → c.state = .alerting → s.OwnLeg c.a channelA pa →
    s.FarLeg c channelB t pb loser released → (pa ≠ none → pb ≠ none → channelA ≠ channelB) →
    let opened := pa.toList ++ pb.toList
    ∃ v, exec (.answer tag call channelA channelB t) s = .next (answered j 20 tag .ok
        (wordBytes c.ref ++ [byteOf ((pa.map (fun x => x.leg)).getD 255), byteOf ((pb.map (fun x => x.leg)).getD 255),
          (((evaluateCalls v).call c.ref).map (fun x => x.status.code)).getD 0]) (evaluateCalls v)) ∧
      v = { s with
        legs := v.legs
        channelTable := v.channelTable
        directory := v.directory
        jobs := v.jobs
        calls := s.calls.map (fun x =>
          if x.ref = c.ref then { x with
            state := .talking
            tieNumber := if c.tieLeg = none then none else some t
            bReservation := match c.b with
              | .extension _ => none
              | _ => x.bReservation }
          else if some x.ref = loser then { x with bReservation := none }
          else x) } ∧
      (∀ l, v.entry l = if c.b = .extension l then { s.entry l with
          stack := pushedOn c.ref (s.entry l).stack
          ownedLeg := (pb.map (fun x => x.leg)).or (s.entry l).ownedLeg } else s.entry l) ∧
      (∀ l, (∀ p ∈ opened, p.leg ≠ l) →
        v.leg l = if released = some l then ⟨(s.leg l).stamp, .free⟩ else s.leg l) ∧
      (∀ d, (∀ p ∈ opened, p.channel.toNat ≠ d) → v.routing d = s.routing d) ∧
      (∀ p ∈ opened, v.routing p.channel.toNat = .leg p.leg ∧
        ∃ o, v.leg p.leg = ⟨(s.leg p.leg).stamp + 1, .opened p.owner o⟩ ∧
          FreshLeg s.params o p.channel p.sk p.outD p.inD ∧
          (s.jobs.length ≤ 28 → if p.sk = none then o.sessionOutstanding = true ∧ o.sessionWanted = false
            else ∀ d, (o.keys d).outstanding = true ∧ (o.keys d).marked = false) ∧
          (32 ≤ s.jobs.length → if p.sk = none then o.sessionOutstanding = false ∧ o.sessionWanted = true
            else ∀ d, (o.keys d).outstanding = false ∧ (o.keys d).marked = true)) ∧
      (s.jobs.length ≤ 28 → v.jobs = s.jobs ++ opened.flatMap (fun p => p.jobs)) ∧
      (32 ≤ s.jobs.length → v.jobs = s.jobs)) ∧
  ∀ (s : State) (j : Nat) (tag channelA channelB : Byte) (call : Word) (t : Long), s.freeSlot = some j →
    let refused := fun st : Status => exec (.answer tag call channelA channelB t) s = .next (answered j 20 tag st [] s)
    (call = 0 ∨ ¬ ChannelOrNone channelA ∨ ¬ ChannelOrNone channelB → refused .badField) ∧
    (call ≠ 0 → ChannelOrNone channelA → ChannelOrNone channelB →
      (s.mode = .standalone → refused .noControl) ∧
      (s.mode ≠ .standalone → s.call call.toNat = none → refused .notFound) ∧
      ∀ c, s.mode ≠ .standalone → s.call call.toNat = some c →
        (c.state = .talking → refused .state) ∧
        (∀ b, c.state = .alerting → c.b = .extension b →
          ((s.entry b).state ≠ .admitted → refused .calleeUnavailable) ∧
          ((s.entry b).state = .admitted → (s.classRecord (s.entry b).cls).limit ≤ (s.entry b).stack.length →
            refused .calleeBusy)) ∧
        (c.state = .alerting →
          (∀ channel pa, s.OwnLeg c.a channelA pa → (∃ p loser released, s.FarLeg c channel t (some p) loser released) →
            (channelB = 255 → refused .badField) ∧
            (channelB ≠ 255 → ¬ s.ChannelFree channelB ∨ pa ≠ none ∧ channelA = channelB → refused .channelInUse)) ∧
          (∀ pb loser released m, s.FarLeg c channelB t pb loser released → (s.entry c.a).ownedLeg = some m →
            (s.leg m).use = .reserved (.extension c.a) →
            (channelA = 255 → refused .badField) ∧
            (channelA ≠ 255 → ¬ s.ChannelFree channelA → refused .channelInUse)) ∧
          (∀ pb loser released m w o, s.FarLeg c channelB t pb loser released → (s.entry c.a).ownedLeg = some m →
            (s.leg m).use = .opened w o → o.channel ≠ channelA.toNat → refused .channelMismatch) ∧
          (∀ pa b m w o, s.OwnLeg c.a channelA pa → c.b = .extension b → (s.entry b).state = .admitted →
            (s.entry b).stack.length < (s.classRecord (s.entry b).cls).limit → (s.entry b).ownedLeg = some m →
            (s.leg m).use = .opened w o → o.channel ≠ channelB.toNat → refused .channelMismatch)))

/-- HOLD and RETRIEVE change the held mark of the top call of an ADMITTED entry's stack, and show the stack. An index above
511 is refused with BAD_FIELD; an entry that is not ADMITTED or has no call, and a top call that is held already, or for
RETRIEVE is not held, with STATE. -/
def Obligations.HoldAndRetrieve : Prop :=
  (∀ (s : State) (j : Nat) (tag : Byte) (entry : Word), s.freeSlot = some j →
    (511 < entry.toNat → exec (.hold tag entry) s = .next (answered j 21 tag .badField [] s) ∧
      exec (.retrieve tag entry) s = .next (answered j 22 tag .badField [] s)) ∧
    (entry.toNat ≤ 511 → (s.entry entry.toNat).state ≠ .admitted ∨ (s.entry entry.toNat).stack = [] →
      exec (.hold tag entry) s = .next (answered j 21 tag .state [] s) ∧
      exec (.retrieve tag entry) s = .next (answered j 22 tag .state [] s))) ∧
  ∀ (s : State) (j : Nat) (tag : Byte) (entry : Word) (top : StackItem) (below : List StackItem),
    s.freeSlot = some j → entry.toNat ≤ 511 → (s.entry entry.toNat).state = .admitted →
    (s.entry entry.toNat).stack = top :: below →
    let shown := fun stack => byteOf (below.length + 1) :: ((stack ++ List.replicate 2 ⟨0, false⟩).take 3).flatMap
      (fun x : StackItem => wordBytes x.call ++ [if x.held then (1 : Byte) else 0])
    (top.held = false → exec (.hold tag entry) s = .next (answered j 21 tag .ok (shown (⟨top.call, true⟩ :: below))
      (s.setEntry entry.toNat { s.entry entry.toNat with stack := ⟨top.call, true⟩ :: below }))) ∧
    (top.held = true → exec (.retrieve tag entry) s = .next (answered j 22 tag .ok (shown (⟨top.call, false⟩ :: below))
      (s.setEntry entry.toNat { s.entry entry.toNat with stack := ⟨top.call, false⟩ :: below }))) ∧
    (top.held = true → exec (.hold tag entry) s = .next (answered j 21 tag .state [] s)) ∧
    (top.held = false → exec (.retrieve tag entry) s = .next (answered j 22 tag .state [] s))

/-- SWAP: R142 whole, and the reply shows the stack as it then is; the reply's way over the link is `answered` (log 6,
log 10). The other party's stack is in the state that the answer keeps. -/
def Obligations.SwapExchangesTopTwo : Prop :=
  ∀ (s : State) (j : Nat) (tag : Byte) (entry : Word), s.freeSlot = some j →
    let i := entry.toNat
    (511 < i → exec (.swap tag entry) s = .next (answered j 23 tag .badField [] s)) ∧
    (i ≤ 511 → (s.entry i).state ≠ .admitted → exec (.swap tag entry) s = .next (answered j 23 tag .state [] s)) ∧
    (i ≤ 511 → (s.entry i).stack.length < 2 → exec (.swap tag entry) s = .next (answered j 23 tag .state [] s)) ∧
    (∀ first second below, i ≤ 511 → (s.entry i).state = .admitted → (s.entry i).stack = first :: second :: below →
      let shown := fun stack => byteOf (below.length + 2) :: ((stack ++ [⟨0, false⟩]).take 3).flatMap
        (fun x : StackItem => wordBytes x.call ++ [if x.held then (1 : Byte) else 0])
      let once : List StackItem := ⟨second.call, false⟩ :: ⟨first.call, true⟩ :: below
      let twice : List StackItem := ⟨first.call, false⟩ :: ⟨second.call, true⟩ :: below
      exec (.swap tag entry) s =
          .next (answered j 23 tag .ok (shown once) (s.setEntry i { s.entry i with stack := once })) ∧
        exec (.swap tag entry) (s.setEntry i { s.entry i with stack := once }) =
          .next (answered j 23 tag .ok (shown twice) (s.setEntry i { s.entry i with stack := twice })))

/-- END of a call removes it and reports nothing; the expiry of a grace timer that has run out removes its call with reason
INSECURE, and one that has not changes nothing. A removal with a reason first queues CALL_ENDED. The removal takes the call
from the stacks of its parties and from the table, lowers its group's count, frees its B-side reservation and its tie leg,
its caller's RESERVED leg once no call left in the caller's stack is ALERTING, and the leg of a party whose stack has
become empty; no other leg or channel changes, and the remaining calls are evaluated. Said of END first for a TRUNK call
without legs, then of every removal. END refuses a reference of 0 with BAD_FIELD and one that is not in the table with NOT_FOUND.

That END's reply is formed after the CALL_SECURE reports of the evaluation is the model's choice, an order that no rule states
(DESIGN CHOICE, log 6); that the call is taken from the stacks of its two parties alone is its reading (DEDUCED, log 14). -/
def Obligations.CallsAreRemoved : Prop :=
  (∀ (s : State) (j : Nat) (tag : Byte) (call : Word), s.freeSlot = some j →
    (call = 0 → exec (.endCall tag call) s = .next (answered j 24 tag .badField [] s)) ∧
    (call ≠ 0 → s.call call.toNat = none → exec (.endCall tag call) s = .next (answered j 24 tag .notFound [] s))) ∧
  ∀ (s : State) (r : Nat) (c : Call), s.call r = some c →
    (∀ j tag (call : Word) g, s.freeSlot = some j → call.toNat = r → 1 ≤ r → c.b = .group g → c.tieLeg = none →
      c.bReservation = none → (s.entry c.a).ownedLeg = none →
      exec (.endCall tag call) s = .next (answered j 24 tag .ok [] (evaluateCalls
        { (s.setEntry c.a { s.entry c.a with
            stack := (s.entry c.a).stack.filter (fun x => x.call != c.ref) }).setGroup g
            { s.group g with active := (s.group g).active - 1 } with
          calls := s.calls.filter (fun x => x.ref != c.ref) }))) ∧
    (∀ j tag (call : Word), s.freeSlot = some j → call.toNat = r → 1 ≤ r →
      exec (.endCall tag call) s = .next (answered j 24 tag .ok [] (removeCall r none s))) ∧
    (s.resetHeld = false → HasRunOut c.grace →
      exec (.graceTimerExpiry r) s = .next (removeCall r (some .insecure) s)) ∧
    (s.resetHeld = false → ¬ HasRunOut c.grace → exec (.graceTimerExpiry r) s = .next s) ∧
    (∀ why, removeCall r (some why) s = removeCall r none (queueReport (.callEnded r why c.a c.b c.state) s)) ∧
    (removeCall r none s).call r = none ∧
    ∃ u, removeCall r none s = evaluateCalls u ∧
      u = { s with
        legs := u.legs
        channelTable := u.channelTable
        directory := u.directory
        calls := s.calls.filter (fun x => x.ref != r)
        groups := u.groups } ∧
      (let party := fun i => c.a = i ∨ c.b = .extension i
      let aloneOwns := fun i k => (s.entry i).ownedLeg = some k ∧ (s.leg k).use.owner? = some (.extension i) ∧
        ∀ l < 48, l ≠ k → (s.leg l).use.owner? ≠ some (.extension i)
      let freed := fun i k => u.leg k = ⟨(s.leg k).stamp, .free⟩ ∧ (u.entry i).ownedLeg = none ∧
        ∀ w o, (s.leg k).use = .opened w o → o.channel < 128 → u.routing o.channel = .clear
      (∀ i, (party i → u.entry i = { s.entry i with
          stack := (s.entry i).stack.filter (fun x => x.call != r), ownedLeg := (u.entry i).ownedLeg }) ∧
        (¬ party i → u.entry i = { s.entry i with ownedLeg := (u.entry i).ownedLeg })) ∧
      (∀ g, u.group g = if c.b = .group g then { s.group g with active := (s.group g).active - 1 } else s.group g) ∧
      (∀ k, c.bReservation = some k ∨ c.tieLeg = some k → u.leg k = ⟨(s.leg k).stamp, .free⟩ ∧
        ∀ w o, (s.leg k).use = .opened w o → o.channel < 128 → u.routing o.channel = .clear) ∧
      (∀ k, aloneOwns c.a k → (s.leg k).use = .reserved (.extension c.a) →
        (∀ x ∈ (s.entry c.a).stack, x.call ≠ r → ∀ y, s.call x.call = some y → y.state ≠ .alerting) → freed c.a k) ∧
      (∀ i k, party i → aloneOwns i k → (∃ x ∈ (s.entry i).stack, x.call = r) →
        (∀ x ∈ (s.entry i).stack, x.call = r) → freed i k) ∧
      (∀ i k, party i → aloneOwns i k → (∀ l, l ≠ i → (s.entry l).ownedLeg ≠ some k) → c.bReservation ≠ some k →
        c.tieLeg ≠ some k → (∃ x ∈ (s.entry i).stack, x.call ≠ r ∧ ∀ w, (s.leg k).use = .reserved w →
          ∃ y, s.call x.call = some y ∧ y.state = .alerting) →
        u.leg k = s.leg k ∧ (u.entry i).ownedLeg = some k) ∧
      (∀ k, c.bReservation ≠ some k → c.tieLeg ≠ some k → (∀ i, party i → (s.entry i).ownedLeg ≠ some k) →
        u.leg k = s.leg k) ∧
      ∀ d, (∀ k o, s.openLeg? k = some o → o.channel = d → u.leg k = s.leg k) → u.routing d = s.routing d)

/-- An evaluation gives every TALKING call the status of its parties, starts or stops the grace timer of a call that requires
secure and leaves any other's, reports each change in routing order, and touches nothing else. An extension is secure when it
owns an OPEN leg with both directions in RUN, a group when the call's tie leg is OPEN and so (a call to a PLAIN group has none:
DEDUCED, log 14), a service always. A timer is set inside a tick period (`setFor`; DESIGN CHOICE, log 3). -/
def Obligations.EvaluationOfCalls : Prop :=
  ∀ s : State,
    let t := evaluateCalls s
    let running := fun k => ∃ w o, (s.leg k).use = .opened w o ∧ o.out.state = .run ∧ o.inb.state = .run
    let extension := fun i => ∃ k, (s.entry i).ownedLeg = some k ∧ running k
    let far := fun c : Call => match c.b with
      | .extension i => extension i
      | .group _ => ∃ k, c.tieLeg = some k ∧ running k
      | .service _ => True
    let short := fun i => (s.entry i).secure = true ∧ (s.entry i).ownedLeg = none
    t = { s with
      calls := t.calls
      replyQueue := t.replyQueue
      reportQueue := t.reportQueue
      lostFlag := t.lostFlag
      transmitting := t.transmitting } ∧
    (s.IdleHasNothingWaiting → t.replyQueue = s.replyQueue) ∧
    t.calls.length = s.calls.length ∧
    (∀ (n : Nat) (c : Call), s.calls[n]? = some c → ∃ d, t.calls[n]? = some d ∧
      (c.state = .alerting → d = c) ∧
      (c.state = .talking →
        d = { c with status := d.status, grace := d.grace } ∧
        (d.status = .secure ↔ extension c.a ∧ far c) ∧
        (d.status = .clearByCapacity ↔ d.status ≠ .secure ∧ (short c.a ∨ ∃ i, c.b = .extension i ∧ short i)) ∧
        (c.requiresSecure = false → d.grace = c.grace) ∧
        (c.requiresSecure = true → d.status = .secure → d.grace = none) ∧
        (c.requiresSecure = true → d.status ≠ .secure →
          d.grace = some (c.grace.getD (setFor s.params.secureGrace))))) ∧
    ((∀ b < 32, s.reportMask.getLsbD b = true) → s.lostFlag = false → s.transmitting ≠ none →
      s.reportQueue.length + s.calls.length ≤ 32 →
      t.transmitting = s.transmitting ∧ t.lostFlag = false ∧
      t.reportQueue = s.reportQueue ++ (s.calls.zip t.calls).filterMap (fun x =>
        if x.1.state = .talking ∧ x.2.status ≠ x.1.status then
          some ⟨.callSecure x.1.ref x.2.status x.1.requiresSecure, false⟩
        else none))

/-! ### Reading the records -/

/-- READ GROUP, READ KEY UNIT, READ SUPERVISION, IDENTIFY, READ CALL, READ LEG and READ EXTENSION, by index and by number: each
is answered OK with the record as it stands, field by field, or refused by its tests, and changes nothing. That a timer which
does not run shows as all ones also while the silence timer is STOPPED, and what a leg that is not OPEN shows in the fields
it has not, are the model's readings (DEDUCED, log 11). -/
def Obligations.ReadsShowTheRecords : Prop :=
  ∀ (s : State) (j : Nat) (tag : Byte), s.freeSlot = some j →
    let yes := fun b : Bool => if b then (1 : Byte) else 0
    let place := fun k : Option Nat => byteOf (k.getD 255)
    let remaining := fun t : Option TimerCount => wordBytes ((t.map (fun c => c.ticks)).getD 65535)
    let digits := fun (m : Nat) (d : List Nat) =>
      byteOf d.length :: (d.map byteOf ++ List.replicate (m - d.length) (0 : Byte))
    let present : Option Long → List Byte := fun n => match n with
      | none => [0, 0, 0, 0, 0]
      | some n => 1 :: longBytes n.toNat
    (∀ group : Byte, (15 < group.toNat → exec (.readGroup tag group) s = .next (answered j 28 tag .badField [] s)) ∧
      (group.toNat ≤ 15 →
        let g := s.group group.toNat
        exec (.readGroup tag group) s = .next (answered j 28 tag .ok
          [group, match g.kind with | .plain => (0 : Byte) | .tie => 1, match g.tieEnd with | .a => (0 : Byte) | .b => 1, byteOf g.budget,
            byteOf g.active, yes g.tieKey.isSome, yes g.tieKeyUsed] s))) ∧
    exec (.readKeyUnit tag) s = .next (answered j 33 tag .ok
      ([yes s.deviceKey.isSome, yes s.deviceKeyUsed] ++ longBytes s.challengeCounter.toNat ++ [byteOf s.jobs.length]) s) ∧
    exec (.readSupervision tag) s = .next (answered j 40 tag .ok
      ([match s.mode with | .normal => (0 : Byte) | .standalone => 1 | .maintenance => 2, yes s.lock]
        ++ [s.params.idleCode, s.params.syncPeriod, s.params.missLimit, s.params.huntLimit, s.params.epochLength,
          s.params.windowChoice, s.params.attemptLimit, s.params.lockoutBase, s.params.interdigitTime,
          s.params.secureGrace, s.params.silenceInterval].flatMap wordBytes
        ++ [yes s.silenceUsed, if s.params.silenceInterval ≠ 0 ∧ s.mode ≠ .maintenance then 1 else 0]
        ++ (match s.silence with
          | .stopped => (0 : Byte) :: wordBytes 65535
          | .running c => 1 :: wordBytes c.ticks
          | .paused n => 2 :: wordBytes n)
        ++ [s.lastToken.getD 0]) s) ∧
    exec (.identify tag) s = .next (answered j 42 tag .ok
      [90, 72, 1, byteOf s.strapCode.toNat, 2, 0, 128, 48, 96, 64, 16, 32, 16, 32, 4, 32] s) ∧
    (exec (.readCall tag 0) s = .next (answered j 25 tag .badField [] s) ∧ ∀ ref : Word, ref ≠ 0 →
      (s.call ref.toNat = none → exec (.readCall tag ref) s = .next (answered j 25 tag .notFound [] s)) ∧
      ∀ c, s.call ref.toNat = some c →
        let heldBy := fun i => if ∃ x ∈ (s.entry i).stack, x.call = c.ref ∧ x.held = true then (1 : Byte) else 0
        let body : List Byte := wordBytes c.ref ++ wordBytes c.a
          ++ (match c.b with
            | .extension i => (0 : Byte) :: wordBytes i
            | .group g => 1 :: wordBytes g
            | .service v => 2 :: wordBytes v)
          ++ digits 20 c.forwarded ++ longBytes ((c.tieNumber.map (fun n => n.toNat)).getD 0)
          ++ [place c.tieLeg, byteOf c.service, match c.state with | .alerting => (0 : Byte) | .talking => 1,
            yes c.requiresSecure, match c.status with | .notSecure => (0 : Byte) | .secure => 1 | .clearByCapacity => 2,
            place c.bReservation, heldBy c.a, match c.b with | .extension i => heldBy i | _ => 0]
          ++ remaining c.grace ++ [byteOf s.calls.length] ++ wordBytes s.referenceCounter
        exec (.readCall tag ref) s = .next (answered j 25 tag .ok body s) ∧
          (c.forwarded.length ≤ 20 → body.length = 45)) ∧
    (∀ leg : Byte, (47 < leg.toNat → exec (.readLeg tag leg) s = .next (answered j 31 tag .badField [] s)) ∧
      (leg.toNat ≤ 47 →
        let stamp := (s.leg leg.toNat).stamp
        let owner : Owner → List Byte := fun w => match w with
          | .extension i => 1 :: wordBytes i
          | .bSide r => 2 :: wordBytes r
          | .tieCall r => 3 :: wordBytes r
          | .loopTest => [4, 0, 0]
        let direction := fun (state : Byte) (counter : Long) (k : DirectionKeys) =>
          state :: longBytes counter.toNat ++ present (k.active.map (fun a => a.epoch))
            ++ present (k.standby.map (fun a => a.epoch)) ++ present k.wanted ++ [yes k.outstanding, yes k.marked]
        let body : List Byte := leg :: match (s.leg leg.toNat).use with
          | .free => [0, 0, 0, 0, 255, 0, 0, 0, stamp] ++ List.replicate 49 0
          | .reserved w => 1 :: owner w ++ [255, 0, 0, 0, stamp] ++ List.replicate 49 0
          | .opened w o => 2 :: owner w ++ [byteOf o.channel, yes o.sk.isSome, yes o.sessionOutstanding,
              yes o.sessionWanted, stamp, byteOf o.outD, byteOf o.inD]
            ++ direction (match o.out.state with | .wait => (1 : Byte) | .run => 2 | .late => 3) o.out.counter o.out.keys
            ++ direction (match o.inb.state with | .run => (2 : Byte) | .late => 3 | .hunt => 4) o.inb.counter o.inb.keys
            ++ [byteOf o.inb.misses] ++ remaining o.inb.hunt
        exec (.readLeg tag leg) s = .next (answered j 31 tag .ok body s) ∧ body.length = 59)) ∧
    (∀ entry : Word, 511 < entry.toNat →
      exec (.readExtension tag (.byIndex entry)) s = .next (answered j 7 tag .badField [] s)) ∧
    (∀ f : DigitsField, f.bytes.length = 6 →
      ((∀ d, DigitsCarry f 6 d → d.length < 3 ∨ 6 < d.length) →
        exec (.readExtension tag (.byNumber f)) s = .next (answered j 7 tag .badField [] s)) ∧
      ∀ d, DigitsCarry f 6 d → 3 ≤ d.length → d.length ≤ 6 → ¬ s.NumberHeld d →
        exec (.readExtension tag (.byNumber f)) s = .next (answered j 7 tag .notFound [] s)) ∧
    ∀ entry : Word, entry.toNat ≤ 511 →
      let e := s.entry entry.toNat
      let stacked : Nat → List Byte := fun n => match e.stack[n]? with
        | some x => wordBytes x.call ++ [yes x.held]
        | none => [0, 0, 0]
      let body : List Byte := wordBytes entry.toNat
        ++ [match e.state with
          | .vacant => (0 : Byte)
          | .enrolled => 1
          | .challenged => 2
          | .checking => 3
          | .admitted => 4
          | .lockedOut => 5
          | .barred => 6]
        ++ digits 6 e.number
        ++ [byteOf e.cls, yes e.secure, yes e.secret.isSome, yes e.secretUsed, byteOf e.attempts, byteOf e.level,
          e.stamp, yes e.pending.isSome, yes e.sk.isSome]
        ++ (match e.timer with
          | none => (0 : Byte) :: longBytes 4294967295
          | some ⟨.window, c⟩ => 1 :: longBytes c.ticks
          | some ⟨.lockout, c⟩ => 2 :: longBytes c.ticks)
        ++ digits 16 e.register ++ [yes e.screening] ++ remaining e.interdigit
        ++ byteOf e.stack.length :: stacked 0 ++ stacked 1 ++ stacked 2 ++ [place e.ownedLeg]
      exec (.readExtension tag (.byIndex entry)) s = .next (answered j 7 tag .ok body s) ∧
      (e.number.length ≤ 6 → e.register.length ≤ 16 → body.length = 55) ∧
      ∀ f, s.NumbersUnique → e.state ≠ .vacant → 3 ≤ e.number.length → e.number.length ≤ 6 → DigitsCarry f 6 e.number →
        exec (.readExtension tag (.byNumber f)) s = .next (answered j 7 tag .ok body s)

/-- The read requests complete, and what they send is the same for two states that differ only in the words of their keys:
with a free slot the same reply from both, and in any case the same frames sent and waiting. -/
def Obligations.ReadsRevealNoKey : Prop :=
  ∀ (c : Instr) (s : State), isRead c = true →
    (∀ j, s.freeSlot = some j → ∃ kind tag status body, exec c s = .next (answered j kind tag status body s) ∧
      exec c s.keysHidden = .next (answered j kind tag status body s.keysHidden)) ∧
    ∃ t t', exec c s = .next t ∧ exec c s.keysHidden = .next t' ∧
      t'.transmitting = t.transmitting ∧ t'.replyQueue = t.replyQueue ∧ t'.reportQueue = t.reportQueue ∧
      t'.lostFlag = t.lostFlag ∧
      t = { s with
        requestBuffer := t.requestBuffer
        replyQueue := t.replyQueue
        reportQueue := t.reportQueue
        lostFlag := t.lostFlag
        transmitting := t.transmitting }

/-! ### Trunk groups and the key unit -/

/-- WRITE GROUP, with a kind it may take, replaces kind, tie end and budget, the budget no lower than the active count; SET
TIE KEY makes the key present, its mark used outside MAINTENANCE. Neither changes the active count. Each refusal, in the order of
the tests, changes nothing: a group above 15, a kind or tie end that names none, or a budget above 96 with BAD_FIELD; another
kind while calls stand with CALLS_PRESENT; a tie key whose mark is used outside MAINTENANCE with WRITTEN_ONCE; a weak one with
WEAK_KEY. LOCKED is in `LockHolds`. -/
def Obligations.GroupWrites : Prop :=
  (∀ (s : State) (j : Nat) (tag group kind tieEnd budget : Byte) (key : Key), s.freeSlot = some j →
    (15 < group.toNat → exec (.setTieKey tag group key) s = .next (answered j 27 tag .badField [] s)) ∧
    ((s.lock = false ∨ s.mode = .maintenance) →
      15 < group.toNat ∨ 1 < kind.toNat ∨ 1 < tieEnd.toNat ∨ 96 < budget.toNat →
      exec (.writeGroup tag group kind tieEnd budget) s = .next (answered j 26 tag .badField [] s))) ∧
  ∀ (s : State) (j : Nat) (tag group : Byte), s.freeSlot = some j → group.toNat ≤ 15 →
    (s.lock = false ∨ s.mode = .maintenance) →
    let g := s.group group.toNat
    (∀ key : Key, s.mode ≠ .maintenance → g.tieKeyUsed = true →
      exec (.setTieKey tag group key) s = .next (answered j 27 tag .writtenOnce [] s)) ∧
    (∀ key : Key, s.mode = .maintenance ∨ g.tieKeyUsed = false → key.k3.toNat < 2 →
      exec (.setTieKey tag group key) s = .next (answered j 27 tag .weakKey [] s)) ∧
    (∀ (kind : GroupKind) (tieEnd : TieEnd) (budget : Byte), budget.toNat ≤ 96 → (kind = g.kind ∨ g.active = 0) →
      exec (.writeGroup tag group kind.code tieEnd.code budget) s = .next (answered j 26 tag .ok
        [group, byteOf (max budget.toNat g.active)]
        (s.setGroup group.toNat { g with kind := kind, tieEnd := tieEnd, budget := max budget.toNat g.active }))) ∧
    (∀ (kind : GroupKind) (tieEnd : TieEnd) (budget : Byte), budget.toNat ≤ 96 → kind ≠ g.kind → 0 < g.active →
      exec (.writeGroup tag group kind.code tieEnd.code budget) s = .next (answered j 26 tag .callsPresent [] s)) ∧
    (∀ key : Key, s.mode = .maintenance ∨ g.tieKeyUsed = false → 2 ≤ key.k3.toNat →
      exec (.setTieKey tag group key) s = .next (answered j 27 tag .ok [] (s.setGroup group.toNat
        { g with tieKey := some key, tieKeyUsed := g.tieKeyUsed || s.mode != .maintenance })))

/-- SET DEVICE KEY tests the lock, the mark and the key in this order; accepted, it replaces key and counter and uses the
mark outside MAINTENANCE. -/
def Obligations.SetDeviceKey : Prop :=
  ∀ (s : State) (j : Nat) (tag : Byte) (key : Key) (start : Long), s.freeSlot = some j →
    (s.mode ≠ .maintenance → s.lock = true →
      exec (.setDeviceKey tag key start) s = .next (answered j 32 tag .locked [] s)) ∧
    (s.mode ≠ .maintenance → s.lock = false → s.deviceKeyUsed = true →
      exec (.setDeviceKey tag key start) s = .next (answered j 32 tag .writtenOnce [] s)) ∧
    (s.mode = .maintenance ∨ s.lock = false ∧ s.deviceKeyUsed = false → key.k3.toNat < 2 →
      exec (.setDeviceKey tag key start) s = .next (answered j 32 tag .weakKey [] s)) ∧
    (s.mode = .maintenance ∨ s.lock = false ∧ s.deviceKeyUsed = false → 2 ≤ key.k3.toNat →
      exec (.setDeviceKey tag key start) s = .next (answered j 32 tag .ok []
        { s with
          deviceKey := some key
          challengeCounter := start
          deviceKeyUsed := s.deviceKeyUsed || s.mode != .maintenance }))

/-- The oldest job, a TIE SESSION its leg expects, completes: the leg holds the session key, and its directions offer their
EPOCH jobs into the free places, outbound first; a direction that finds none is marked. -/
def Obligations.TieSessionDelivered : Prop :=
  ∀ (s : State) (key : Key) (t : Long) (k r : Nat) (rest : List Job) (o : OpenLeg) (e1 e2 : Long),
    s.resetHeld = false → s.jobs = .tieSession key t k (s.leg k).stamp :: rest → (s.leg k).use = .opened (.tieCall r) o → o.sk = none →
    o.out.keys.wanted = some e1 → o.out.keys.outstanding = false → o.out.keys.marked = false →
    o.inb.keys.wanted = some e2 → o.inb.keys.outstanding = false → o.inb.keys.marked = false →
    let g := generator key t 5
    let w := wordOf g 2
    let sk : Key := ⟨wordOf g 0, wordOf g 1, if w.toNat < 2 then w + 2 else w, wordOf g 3⟩
    let first : Job := .epoch sk e1 k .outbound (s.leg k).stamp
    let second : Job := .epoch sk e2 k .inbound (s.leg k).stamp
    let left := fun (one two : Bool) (jobs : List Job) =>
      { s.setLeg k ⟨(s.leg k).stamp, .opened (.tieCall r) { o with
          sk := some sk
          sessionOutstanding := false
          out := { o.out with keys := { o.out.keys with outstanding := one, marked := !one } }
          inb := { o.inb with keys := { o.inb.keys with outstanding := two, marked := !two } } }⟩ with
        jobs := jobs }
    (rest.length ≤ 30 → exec .tieSessionCompletion s = .next (left true true (rest ++ [first, second]))) ∧
    (rest.length = 31 → exec .tieSessionCompletion s = .next (left true false (rest ++ [first]))) ∧
    (32 ≤ rest.length → exec .tieSessionCompletion s = .next (left false false rest))

/-- The oldest job, an EPOCH its direction has outstanding, completes. For another epoch than the one now wanted a job for
that one takes its place. For an outbound direction in WAIT the key becomes active, the direction runs from block 0, and
LEG_STATE is queued; the calls are evaluated when this makes the leg of an extension or a tie call running. For a direction
without an active key that does not wait so, an inbound one or an outbound one in LATE, the key becomes active and the next
epoch is wanted, its state standing. For a direction with an active key it becomes the standby key, and none is wanted. -/
def Obligations.EpochDelivered : Prop :=
  ∀ (s : State) (sk now : Key) (e w : Long) (k : Nat) (d : Direction) (rest : List Job) (owner : Owner) (o : OpenLeg),
    s.resetHeld = false → s.jobs = .epoch sk e k d (s.leg k).stamp :: rest → (s.leg k).use = .opened owner o → o.sk = some now →
    (o.keys d).outstanding = true → (o.keys d).marked = false → (o.keys d).wanted = some w →
    let g := generator sk e 3
    let w2 := wordOf g 2
    let key : Key := ⟨wordOf g 0, wordOf g 1, if w2.toNat < 2 then w2 + 2 else w2, wordOf g 3⟩
    let next := if e.toNat = 4294967295 / s.params.epochLength then 0 else e + 1
    (w ≠ e → exec .epochCompletion s =
      .next { s with jobs := rest ++ [.epoch now w k d (s.leg k).stamp] }) ∧
    (w = e → d = .outbound → o.out.state = .wait → o.out.keys.active = none → rest.length < 32 →
      let started : State :=
        { (queueReport (.legState k .outbound .run 0) s).setLeg k ⟨(s.leg k).stamp, .opened owner { o with
            out := { o.out with
              state := .run
              counter := 0
              filling := []
              emission := none
              keys := { o.out.keys with active := some ⟨e, key⟩, wanted := some next } } }⟩ with
          jobs := rest ++ [.epoch now next k .outbound (s.leg k).stamp] }
      exec .epochCompletion s = .next
        (if o.inb.state = .run ∧ owner.isTold = true then evaluateCalls started else started)) ∧
    (w = e → (o.keys d).active = none → (d = .outbound → o.out.state ≠ .wait) → rest.length < 32 →
      exec .epochCompletion s = .next
        { s.setLeg k ⟨(s.leg k).stamp, .opened owner (o.setKeys d { o.keys d with
            active := some ⟨e, key⟩, wanted := some next })⟩ with
          jobs := rest ++ [.epoch now next k d (s.leg k).stamp] }) ∧
    (w = e → (o.keys d).active ≠ none → (d = .outbound → o.out.state ≠ .wait) →
      exec .epochCompletion s = .next
        ({ s with jobs := rest }.setLeg k ⟨(s.leg k).stamp, .opened owner (o.setKeys d { o.keys d with
          standby := some ⟨e, key⟩, wanted := none, outstanding := false })⟩))

/-- At a tick a marked EPOCH offer is queued when a place remains, with the epoch wanted then, and its mark is cleared; with
the queue full it stays marked and nothing changes. So for one mark; and over every mark, of a TIE SESSION or an EPOCH job, the
offers are queued in R42's order while places remain, each mark so served is cleared and its job outstanding, and the rest
stay as they are. -/
def Obligations.MarkedOfferRetried : Prop :=
  (∀ (s : State) (k : Nat) (d : Direction) (owner : Owner) (o : OpenLeg) (sk : Key) (e : Long), s.resetHeld = false → k < 48 →
    (s.leg k).use = .opened owner o → o.sk = some sk → (o.keys d).wanted = some e → (o.keys d).marked = true →
    o.sessionWanted = false → (∀ d', d' ≠ d → (o.keys d').marked = false) →
    (∀ l x, l ≠ k → s.openLeg? l = some x →
      x.sessionWanted = false ∧ x.out.keys.marked = false ∧ x.inb.keys.marked = false) →
    (s.jobs.length < 32 → exec .jobRetryTick s = .next
      { s.setLeg k ⟨(s.leg k).stamp, .opened owner
          (o.setKeys d { o.keys d with outstanding := true, marked := false })⟩ with
        jobs := s.jobs ++ [.epoch sk e k d (s.leg k).stamp] }) ∧
    (32 ≤ s.jobs.length → exec .jobRetryTick s = .next s)) ∧
  ∀ s : State, s.resetHeld = false →
    let queued := s.markedOffers.take (32 - s.jobs.length)
    let served := fun (k : Nat) (d : Option Direction) => queued.any (fun x => x.1 == k && x.2.1 == d)
    let keys := fun (k : Nat) (d : Direction) (x : DirectionKeys) => { x with
      outstanding := x.outstanding || served k (some d)
      marked := x.marked && !served k (some d) }
    ∃ t, exec .jobRetryTick s = .next t ∧ t = { s with legs := t.legs, jobs := s.jobs ++ queued.map (fun x => x.2.2) } ∧
      (∀ k, (s.leg k).use.isOpen = false → t.leg k = s.leg k) ∧
      ∀ k w o, (s.leg k).use = .opened w o → t.leg k = ⟨(s.leg k).stamp, .opened w { o with
        sessionOutstanding := o.sessionOutstanding || served k none
        sessionWanted := o.sessionWanted && !served k none
        out := { o.out with keys := keys k .outbound o.out.keys }
        inb := { o.inb with keys := keys k .inbound o.inb.keys } }⟩

/-! ### Legs and the loop test -/

/-- LOOP START in MAINTENANCE, with a key that is not weak and a channel on which no leg is OPEN, opens the FREE leg of lowest
index on the channel with the key given, the constants 0 and 0 and the next stamp, and offers both EPOCH jobs; a direction that
finds no place is marked. Each refusal in MAINTENANCE, in the order of the tests, changes nothing: BAD_FIELD, WEAK_KEY,
CHANNEL_IN_USE, and SECURE_UNAVAILABLE when no leg is FREE. A timer is set inside a tick period (`setFor`; DESIGN CHOICE, log
3). -/
def Obligations.LoopStartOpensLeg : Prop :=
  (∀ (s : State) (j : Nat) (tag channel : Byte) (key : Key), s.freeSlot = some j → s.mode = .maintenance →
    let refused := fun st : Status => exec (.loopStart tag channel key) s = .next (answered j 29 tag st [] s)
    (127 < channel.toNat → refused .badField) ∧
    (channel.toNat ≤ 127 → key.k3.toNat < 2 → refused .weakKey) ∧
    (channel.toNat ≤ 127 → 2 ≤ key.k3.toNat → ¬ s.ChannelFree channel → refused .channelInUse) ∧
    (channel.toNat ≤ 127 → 2 ≤ key.k3.toNat → s.ChannelFree channel → (∀ k < 48, (s.leg k).use ≠ .free) →
      refused .secureUnavailable)) ∧
  ∀ (s : State) (j k : Nat) (tag channel : Byte) (key : Key), s.freeSlot = some j → s.mode = .maintenance →
    channel.toNat ≤ 127 → 2 ≤ key.k3.toNat → (∀ l < 48, ∀ o, s.openLeg? l = some o → o.channel ≠ channel.toNat) →
    k < 48 → (s.leg k).use = .free → (∀ l < k, (s.leg l).use ≠ .free) →
    let stamp := (s.leg k).stamp + 1
    let keys := fun placed : Bool => (⟨none, none, some 0, placed, !placed⟩ : DirectionKeys)
    let first : Job := .epoch key 0 k .outbound stamp
    let second : Job := .epoch key 0 k .inbound stamp
    let opens := fun (one two : Bool) (jobs : List Job) =>
      exec (.loopStart tag channel key) s = .next (answered j 29 tag .ok [byteOf k, stamp]
      { (s.setLeg k ⟨stamp, .opened .loopTest
          { channel := channel.toNat
            sk := some key
            sessionOutstanding := false
            sessionWanted := false
            outD := 0
            inD := 0
            out := ⟨.wait, keys one, 0, [], [], none⟩
            inb := ⟨.hunt, keys two, 0, 0, [], none, [], none, none, [], 0, some (setFor s.params.huntLimit)⟩ }⟩).setRouting
          channel.toNat (.leg k) with
        jobs := jobs })
    (s.jobs.length ≤ 30 → opens true true (s.jobs ++ [first, second])) ∧
    (s.jobs.length = 31 → opens true false (s.jobs ++ [first])) ∧
    (32 ≤ s.jobs.length → opens false false s.jobs)

/-- LOOP STOP closes the loop-test leg named; MAINT EXIT closes all of them, returns to NORMAL, and lets a paused silence count
run on or starts a stopped one. No other leg changes, and no report is made. LOOP STOP refuses an index above 47 with BAD_FIELD
and a leg that is not OPEN for the loop test with STATE. A silence timer is started inside a tick period (`setFor`; DESIGN
CHOICE, log 3), and so is the count that runs on (DESIGN CHOICE, log 21). -/
def Obligations.LoopTestEnds : Prop :=
  ∀ (s : State) (j : Nat) (tag : Byte), s.freeSlot = some j →
    (∀ leg : Byte,
      (47 < leg.toNat → exec (.loopStop tag leg) s = .next (answered j 30 tag .badField [] s)) ∧
      (leg.toNat ≤ 47 → (∀ o, (s.leg leg.toNat).use ≠ .opened .loopTest o) →
        exec (.loopStop tag leg) s = .next (answered j 30 tag .state [] s))) ∧
    (∀ (leg : Byte) (o : OpenLeg), leg.toNat ≤ 47 → (s.leg leg.toNat).use = .opened .loopTest o →
      exec (.loopStop tag leg) s = .next (answered j 30 tag .ok []
        ((s.setRouting o.channel .clear).setLeg leg.toNat ⟨(s.leg leg.toNat).stamp, .free⟩))) ∧
    (s.mode = .maintenance → ∃ t,
      exec (.maintExit tag) s = .next (answered j 38 tag .ok
        [byteOf ((List.range 48).countP (fun k => (s.leg k).use.isLoop))] t) ∧
      t = { s with
        legs := t.legs
        channelTable := t.channelTable
        mode := .normal
        silence := if s.params.silenceInterval = 0 then s.silence else match s.silence with
          | .paused n => .running ⟨n, true⟩
          | .stopped => .running (setFor s.params.silenceInterval)
          | .running c => .running c } ∧
      (∀ k < 48, t.leg k = if (s.leg k).use.isLoop then ⟨(s.leg k).stamp, .free⟩ else s.leg k) ∧
      (∀ k o, (s.leg k).use = .opened .loopTest o → o.channel < 128 → t.routing o.channel = .clear) ∧
      ∀ c, (∀ k o, (s.leg k).use = .opened .loopTest o → o.channel ≠ c) → t.routing c = s.routing c)

/-- The expiry of a hunt timer that has run out: LEG_FAILED, the close, then what the owner suffers: the withdrawal of the
extension, the removal of the tie call, nothing for the loop test. An expiry whose leg has no hunt timer at 0 changes
nothing. -/
def Obligations.HuntExpiryFailsLeg : Prop :=
  ∀ (s : State) (k : Nat), s.resetHeld = false →
    (∀ owner o, (s.leg k).use = .opened owner o → HasRunOut o.inb.hunt →
      let told := queueReport (.legFailed k owner o.channel .syncLost) s
      let closed := (told.setRouting o.channel .clear).setLeg k ⟨(s.leg k).stamp, .free⟩
      (owner = .loopTest → exec (.huntTimerExpiry k) s = .next closed) ∧
      (∀ r, owner = .tieCall r → exec (.huntTimerExpiry k) s = .next (removeCall r (some .syncLost) closed)) ∧
      (∀ i, owner = .extension i → (s.entry i).state = .admitted →
        exec (.huntTimerExpiry k) s = .next (withdrawEntry i .syncLost .enrolled
          (closed.setEntry i { s.entry i with ownedLeg := none })))) ∧
    ((∀ o, s.openLeg? k = some o → ¬ HasRunOut o.inb.hunt) → exec (.huntTimerExpiry k) s = .next s)

/-- One frame event of an outbound direction that counts: below position 128 the sample joins the block being collected;
after it the block collected becomes the emission block, bound to the active key of its epoch, or to the standby key of
its epoch which becomes active, or to none, and the counter advances. What is driven is the emission block's sample at the
same position, at the key point the first sample of the block just bound, or the idle code; the idle samples of a sync slot are
those in force when they are driven, and the sample driven at a key point rests on this too (DEDUCED, log 12). A direction in
WAIT discards the sample and drives the idle code. The trunk side of a tie leg carries what its outbound direction drives,
whether its inbound direction runs or not (DEDUCED, log 19).

One frame event of an inbound direction: in HUNT the last 13 samples are tested, and a valid sync pattern is adopted, its block
followed by one that is bound to its key (the test takes no key: DEDUCED, log 18); the three samples of the sync slot that
follow are discarded; then each sample is placed, the sync slot of a sync block is checked at position 124, and the miss limit
leads back to HUNT; after a block its recovered samples become the delivery block, when it was keyed, and the counter advances.
What is driven is the delivery block's sample at the same position, or the idle code. A timer is set inside a tick period
(`setFor`; DESIGN CHOICE, log 3). -/
def Obligations.OutboundFrameEvent : Prop :=
  (∀ (p : Params) (d : Nat) (x : Byte) (o : Outbound), o.state = .wait →
    outboundFrame p d x o = (o, byteOf p.idleCode)) ∧
  (∀ (p : Params) (d : Nat) (x : Byte) (o : Outbound), o.state ≠ .wait →
      (o.filling.length < 128 →
        outboundFrame p d x o = ({ o with filling := o.filling ++ [x] }, match o.emission with
          | some ⟨n, some words⟩ =>
            scrambledSample words n p.syncPeriod (byteOf p.idleCode) o.draining o.filling.length
          | _ => byteOf p.idleCode)) ∧
      (o.filling.length = 128 →
        let n := o.counter
        let epoch : Long := BitVec.ofNat 32 (n.toNat / p.epochLength)
        let after := (outboundFrame p d x o).1
        let first := fun key : Key =>
          scrambledSample (generator key n d) n p.syncPeriod (byteOf p.idleCode) o.filling 0
        after.counter = n + 1 ∧ after.filling = [x] ∧ after.draining = o.filling ∧
        (∀ a, o.keys.active = some a → a.epoch = epoch →
          after.state = .run ∧ after.keys = o.keys ∧ after.emission = some ⟨n, some (generator a.key n d)⟩ ∧
          (outboundFrame p d x o).2 = first a.key) ∧
        (∀ b, (∀ a, o.keys.active = some a → a.epoch ≠ epoch) → o.keys.standby = some b → b.epoch = epoch →
          after.state = .run ∧ after.emission = some ⟨n, some (generator b.key n d)⟩ ∧
          (outboundFrame p d x o).2 = first b.key ∧ after.keys = { o.keys with
            active := some b
            standby := none
            wanted := some (if epoch.toNat = 4294967295 / p.epochLength then 0 else epoch + 1) }) ∧
        ((∀ a, o.keys.active = some a → a.epoch ≠ epoch) → (∀ b, o.keys.standby = some b → b.epoch ≠ epoch) →
          after.state = .late ∧ after.emission = some ⟨n, none⟩ ∧ (outboundFrame p d x o).2 = byteOf p.idleCode ∧
          after.keys = { o.keys with
            active := none
            standby := none
            wanted := some (BitVec.ofNat 32 ((n + 1).toNat / p.epochLength)) }))) ∧
  ∀ (p : Params) (d : Nat) (x : Byte) (i : Inbound),
    let after := (inboundFrame p d x i).1
    let driven := (inboundFrame p d x i).2
    let idle := byteOf p.idleCode
    let run := fun bound : Option Key => match bound with
      | some _ => InState.run
      | none => InState.late
    (i.state = .hunt →
      let history := (i.history ++ [x]).drop (i.history.length - 12)
      driven = idle ∧
      ((∀ n, ¬ SyncPattern p.syncPeriod history n) → after = { i with history := history }) ∧
      ∀ n, SyncPattern p.syncPeriod history n →
        BindsBlock p.epochLength (n + 1) i.keys after.keys after.bound ∧
        after = ⟨run after.bound, after.keys, n + 1, 3, [], after.bound, [], none, none, [], 0, none⟩) ∧
    (i.state ≠ .hunt → 0 < i.skip → after = { i with skip := i.skip - 1 } ∧ driven = idle) ∧
    (i.state ≠ .hunt → i.skip = 0 → i.filling.length < 128 →
      let placed := { i with filling := i.filling ++ [x] }
      let slot := placed.filling.drop 112
      let checked := i.filling.length = 124 ∧ i.counter.toNat % p.syncPeriod = 0
      driven = (if i.delivery = none then idle else i.draining.getD i.filling.length idle) ∧
      (¬ checked → after = placed) ∧
      (checked → SyncPattern p.syncPeriod slot i.counter → after = { placed with misses := 0 }) ∧
      (checked → ¬ SyncPattern p.syncPeriod slot i.counter →
        after = if i.misses + 1 < p.missLimit then { placed with misses := i.misses + 1 }
          else ⟨.hunt, i.keys, 0, 0, [], none, [], none, none, [], 0, some (setFor p.huntLimit)⟩)) ∧
    (i.state ≠ .hunt → i.skip = 0 → i.filling.length = 128 →
      let recovered := i.bound.map (fun key =>
        recoverBlock (generator key i.counter d) i.counter p.syncPeriod idle i.lastSegment7 i.filling)
      BindsBlock p.epochLength (i.counter + 1) i.keys after.keys after.bound ∧
      after = { i with
        state := run after.bound
        keys := after.keys
        counter := i.counter + 1
        filling := [x]
        bound := after.bound
        draining := recovered.getD []
        delivery := recovered.map (fun _ => i.counter)
        lastSegment7 := recovered.map (fun clear => clear.drop 112) } ∧
      driven = (recovered.getD []).getD 0 idle)

/-- A descrambler with the sender's words recovers every block: all of a block that is no sync block, and every segment of a
sync block but the one its sync slot displaces, which takes the hold fill: a copy of the segment before it, or of segment 7 of
the block before, or the idle code where no block before was descrambled; and the sync slot passes the test of R18 with the
block's number. -/
def Obligations.DescramblerUndoesScrambler : Prop :=
  ∀ (words : List Word) (n : Long) (p : Nat) (idle : Byte) (last : Option (List Byte)) (clear : List Byte),
    words.length = 8 → clear.length = 128 →
    let sent := (List.range 128).map (scrambledSample words n p idle clear)
    let got := recoverBlock words n p idle last sent
    (isSyncBlock p n = false → got = clear) ∧
    (isSyncBlock p n = true → validSync p ((sent.drop 112).take 13) = some n ∧
      ∀ k < 8, k ≠ (permutation words).getD 7 0 → ∀ i < 16, got.getD (16 * k + i) 0 = clear.getD (16 * k + i) 0) ∧
    (isSyncBlock p n = true → ∀ i < 16,
      let m := (permutation words).getD 7 0
      (0 < m → got.getD (16 * m + i) 0 = clear.getD (16 * (m - 1) + i) 0) ∧
      (m = 0 → last = none → got.getD i 0 = idle) ∧
      ∀ seg, m = 0 → last = some seg → seg.length = 16 → got.getD i 0 = seg.getD i 0)

/-! ### The highways -/

/-- A frame of any number of timeslots. A channel whose timeslot passed drives the sample due on each side, or the idle code
when the reference was LOST or the channel's routing is not that of the frame before; one whose timeslot did not pass drives
nothing and hears the idle code. A CLEAR channel gives the samples held from the frame before, or the idle code, and holds
what it hears. A LEG channel, of a leg that is OPEN and routed there alone, gives what the leg's two directions drive, its
loop test hearing the outbound direction's own sample and its port side idle, and holds nothing. Every timeslot after 63
carries the idle code. In LOST the pulse restores the reference with FRAME_RESTORED, ahead of the reports of the legs.
FRAME_PULSE and FRAME_REFERENCE_RESTORE are the same pulse, taken by the reference as it stands.

What a change of a direction brings, its report, its EPOCH offer and the evaluation of the calls, is said of
`directionChanged` for every leg and record (`State.ChangeBrings`), and the frame leaves what these turns of its LEG channels
leave. That order is the model's choice (DESIGN CHOICE, log 8), and so is that both pulse rows are the same pulse (DESIGN CHOICE,
log 7). That the trunk side of a tie call's LEG channel carries its outbound direction's sample whatever the inbound direction
does, where R158 words it by the whole leg, is the model's reading (DEDUCED, log 19). -/
def Obligations.FrameCarriesClearChannels : Prop :=
  ∀ (s : State) (f : FrameSamples), s.resetHeld = false → ∃ t,
    exec (.framePulse f) s = .next t ∧ exec (.frameReferenceRestore f) s = .next t ∧
    t.frameReference = .present ∧ t.watchRunning = true ∧ t.channelTable = s.channelTable ∧
    t.routedAs = s.channelTable ∧
    (∀ n, 64 ≤ n → t.afterFrameDriven n = if n < f.slots then some s.idle else none) ∧
    (∀ c < 128,
      let port := if c % 64 < f.slots then readAt f.port 0 c else s.idle
      let matrix := if c % 64 < f.slots then readAt f.matrix 0 c else s.idle
      let drives := fun x : Byte =>
        if c % 64 < f.slots then
          some (if s.frameReference = .present ∧ readAt s.routedAs .clear c = s.routing c then x else s.idle)
        else none
      (s.routing c = .clear →
        readAt t.heldInbound none c = some port ∧ readAt t.heldOutbound none c = some matrix ∧
        t.portDriven c = drives ((readAt s.heldOutbound none c).getD s.idle) ∧
        t.matrixDriven c = drives ((readAt s.heldInbound none c).getD s.idle)) ∧
      ∀ k w o, s.routing c = .leg k → (s.leg k).use = .opened w o → (∀ d < 128, d ≠ c → s.routing d ≠ .leg k) →
        let out := outboundFrame s.params o.outD matrix o.out
        let inb := inboundFrame s.params o.inD (if w = .loopTest then out.2 else port) o.inb
        readAt t.heldInbound none c = none ∧ readAt t.heldOutbound none c = none ∧
        t.portDriven c = drives (if w = .loopTest then s.idle else out.2) ∧ t.matrixDriven c = drives inb.2 ∧
        ∃ a b : DirectionKeys,
          t.leg k = ⟨(s.leg k).stamp, .opened w { o with out := { out.1 with keys := a }, inb := { inb.1 with keys := b } }⟩ ∧
          a = { out.1.keys with outstanding := a.outstanding, marked := a.marked } ∧
          b = { inb.1.keys with outstanding := b.outstanding, marked := b.marked }) ∧
    (let port := fun c => if c % 64 < f.slots then readAt f.port 0 c else s.idle
      let matrix := fun c => if c % 64 < f.slots then readAt f.matrix 0 c else s.idle
      let present := { s with frameReference := .present, watchRunning := true }
      let base := if s.frameReference = .lost then queueReport .frameRestored present else present
      let order := (List.range 64).flatMap (fun n => [n, n + 64])
      t = { order.foldl (s.legTurn port matrix) base with
        heldInbound := t.heldInbound
        heldOutbound := t.heldOutbound
        portTransmit := t.portTransmit
        matrixTransmit := t.matrixTransmit
        afterFrame := t.afterFrame
        routedAs := s.channelTable }) ∧
    (s.frameReference = .lost → s.reportMask.getLsbD 2 = true →
      (s.transmitting = none → s.replyQueue = [] → s.reportQueue = [] →
        t.transmitting = some (.report ⟨.frameRestored, s.lostFlag⟩)) ∧
      (s.transmitting ≠ none → s.reportQueue.length < 32 →
        t.reportQueue[s.reportQueue.length]? = some ⟨.frameRestored, s.lostFlag⟩)) ∧
    (∀ (u : State) (k : Nat) (w : Owner) (d : Direction) (o before after : OpenLeg), k < 48 →
      (u.leg k).use = .opened w o → (d = .outbound → after.out.state = .wait → before.out.state = .wait) →
      u.ChangeBrings k w d before after (directionChanged k d before after u)) ∧
    ((∀ c < 128, s.routing c = .clear) →
      let framed := { s with
        frameReference := .present
        watchRunning := true
        heldInbound := t.heldInbound
        heldOutbound := t.heldOutbound
        portTransmit := t.portTransmit
        matrixTransmit := t.matrixTransmit
        afterFrame := t.afterFrame
        routedAs := s.channelTable }
      t = match s.frameReference with
        | .present => framed
        | .lost => queueReport .frameRestored framed)

/-- The loss of the frame reference in PRESENT: the reference is LOST, FRAME_LOST carries the number of OPEN legs and goes
before the reports of the legs (log 9), both sides of every channel carry the idle code, and the inbound direction of every OPEN
leg hunts afresh with a full hunt timer and its keys kept, while its outbound direction stands. The legs take their turns in
index order (log 9), each with its LEG_STATE when it was not in HUNT, its EPOCH offer where one is due, and the evaluation of
the calls when it was running (`State.ChangeBrings`, said of `directionChanged` in `FrameCarriesClearChannels`). In LOST nothing
happens. A timer is set inside a tick period (`setFor`; DESIGN CHOICE, log 3). -/
def Obligations.ReferenceLossHuntsEveryLeg : Prop :=
  ∀ s : State, s.resetHeld = false →
    (s.frameReference = .lost → exec .frameReferenceLoss s = .next s) ∧
    (s.frameReference = .present → ∃ t, exec .frameReferenceLoss s = .next t ∧ t.frameReference = .lost ∧
      (∀ c < 128, t.portDriven c = some s.idle ∧ t.matrixDriven c = some s.idle) ∧
      (∀ k, (s.leg k).use.isOpen = false → t.leg k = s.leg k) ∧
      (∀ k o owner, (s.leg k).use = .opened owner o → ∃ i : Inbound,
        t.leg k = ⟨(s.leg k).stamp, .opened owner { o with inb := i }⟩ ∧
        i.state = .hunt ∧ i.hunt = some (setFor s.params.huntLimit) ∧ i.history = [] ∧ i.misses = 0 ∧
        i.filling = [] ∧ i.draining = [] ∧ i.delivery = none ∧ i.lastSegment7 = none ∧
        i.keys.active = o.inb.keys.active ∧ i.keys.standby = o.inb.keys.standby ∧
        i.keys.wanted = o.inb.keys.wanted) ∧
      (let hunts := fun (u : State) (k : Nat) =>
          (match u.openLeg? k with
            | none => u
            | some o => directionChanged k .inbound o { o with inb :=
                ⟨.hunt, o.inb.keys, 0, 0, [], none, [], none, none, [], 0, some (setFor s.params.huntLimit)⟩ } u)
       t = (List.range 48).foldl hunts (queueReport
          (.frameLost ((List.range 48).countP (fun k => (s.leg k).use.isOpen))) { s with frameReference := .lost })) ∧
      ((∀ b < 32, s.reportMask.getLsbD b = true) → s.lostFlag = false → s.transmitting ≠ none → s.calls = [] →
        s.reportQueue.length + 1 + (List.range 48).countP (fun k => (s.leg k).use.isOpen) ≤ 32 →
        t.reportQueue = s.reportQueue ++
          (⟨.frameLost ((List.range 48).countP (fun k => (s.leg k).use.isOpen)), false⟩ ::
            (List.range 48).filterMap (fun k => (s.openLeg? k).bind (fun o =>
              if o.inb.state = .hunt then none else some ⟨.legState k .inbound .hunt 0, false⟩)))) ∧
      (((∀ k < 48, (s.leg k).use.isOpen = false) →
        t = queueReport (.frameLost 0) { s with frameReference := .lost }) ∧
      (s.reportMask.getLsbD 1 = true →
        let lost := QueuedReport.mk (.frameLost ((List.range 48).countP (fun k => (s.leg k).use.isOpen))) s.lostFlag
        (s.transmitting = none → s.replyQueue = [] → s.reportQueue = [] → t.transmitting = some (.report lost)) ∧
        (s.transmitting ≠ none → s.reportQueue.length < 32 → t.reportQueue[s.reportQueue.length]? = some lost)) ∧
      t.heldInbound = s.heldInbound ∧ t.heldOutbound = s.heldOutbound ∧ t.channelTable = s.channelTable ∧
      t.directory = s.directory ∧ t.groups = s.groups ∧ t.mode = s.mode ∧ t.params = s.params ∧
      t.calls.length = s.calls.length))

/-! ### Supervision -/

/-- SET PARAM, where its tests pass, replaces the parameter named by the value brought into its range and no other; a new
attempt limit brings the counts below it; a silence interval uses its mark outside MAINTENANCE and moves the silence timer. Each
refusal, in the order of the tests, changes nothing. A timer is set inside a tick period (`setFor`; DESIGN CHOICE, log 3). -/
def Obligations.SetParamClampsAndApplies : Prop :=
  ∀ (s : State) (j : Nat) (tag identifier : Byte) (value : Word), s.freeSlot = some j →
    let id := identifier.toNat
    let lo := [0, 8, 1, 2, 64, 0, 1, 1, 1, 2, 0].getD id 0
    let hi := [255, 250, 7, 60, 65535, 3, 15, 3600, 30, 30, 60].getD id 0
    let v := if value.toNat < lo then lo else if hi < value.toNat then hi else value.toNat
    let refused := fun st : Status => exec (.setParam tag identifier value) s = .next (answered j 34 tag st [] s)
    (10 < id → refused .badField) ∧
    (id ≤ 10 → s.lock = true → s.mode ≠ .maintenance → refused .locked) ∧
    (id = 10 → s.lock = false → s.mode ≠ .maintenance → s.silenceUsed = true → refused .writtenOnce) ∧
    (id = 1 ∨ id = 4 → (s.lock = false ∨ s.mode = .maintenance) → (∃ k < 48, (s.leg k).use ≠ .free) → refused .state) ∧
    (id ≤ 10 → (s.lock = false ∨ s.mode = .maintenance) →
    (id = 10 → s.mode = .maintenance ∨ s.silenceUsed = false) →
    (id = 1 ∨ id = 4 → ∀ k < 48, (s.leg k).use = .free) →
    ∃ t, exec (.setParam tag identifier value) s = .next (answered j 34 tag .ok (identifier :: wordBytes v) t) ∧
      t.params.values = s.params.values.set id v ∧
      t = { s with params := t.params, directory := t.directory, silence := t.silence, silenceUsed := t.silenceUsed } ∧
      (∀ i < 512, t.entry i =
        let e := s.entry i
        if id = 6 ∧ e.state ≠ .vacant ∧ e.state ≠ .lockedOut ∧ v ≤ e.attempts then { e with attempts := v - 1 }
        else e) ∧
      t.silenceUsed = (s.silenceUsed || (id == 10 && s.mode != .maintenance)) ∧
      t.silence = if id ≠ 10 then s.silence
        else if v = 0 then .stopped
        else if s.mode = .normal ∧ s.silence = .stopped then .running (setFor v) else s.silence)

/-- CONFIG LOCK sets the lock. ALIVE counts when its token is one of the two and not the last that counted: it becomes the last
token, the silence timer takes the full interval, and STANDALONE is left with STANDALONE_LEFT. A timer is set inside a tick
period (`setFor`; DESIGN CHOICE, log 3). -/
def Obligations.LockAndAlive : Prop :=
  ∀ (s : State) (j : Nat) (tag token : Byte), s.freeSlot = some j →
    exec (.configLock tag) s = .next (answered j 35 tag .ok [] { s with lock := true }) ∧
    (token ≠ 60 → token ≠ 195 → exec (.alive tag token) s = .next (answered j 36 tag .badField [] s)) ∧
    (token = 60 ∨ token = 195 → s.lastToken = some token →
      exec (.alive tag token) s = .next (answered j 36 tag .state [] s)) ∧
    (token = 60 ∨ token = 195 → s.lastToken ≠ some token →
      let counted := { s with
        lastToken := some token
        silence :=
          if s.params.silenceInterval = 0 then s.silence
          else if s.mode = .maintenance then .paused (100 * s.params.silenceInterval)
          else .running (setFor s.params.silenceInterval) }
      exec (.alive tag token) s = .next (answered j 36 tag .ok []
        (if s.mode = .standalone then queueReport (.standaloneLeft token) { counted with mode := .normal }
          else counted)))

/-- MAINT ENTER, with no call and every leg FREE, and the silence expiry end the admissions in progress without an attempt
counted; MAINT ENTER returns the ADMITTED entries to ENROLLED too, the silence expiry leaves them. The replies owed to those
admissions are formed with CANCELLED in entry index order, and their slots owe nothing after; the silence expiry queues
STANDALONE_ENTERED before them. An expiry in another mode, or with time left, changes nothing. MAINT ENTER pauses a running
count as it stands, one of 0 too (DESIGN CHOICE, log 21). -/
def Obligations.ModeEntriesEndAdmissions : Prop :=
  ∀ (s : State) (j : Nat) (tag : Byte), s.mode = .normal →
    let inAdmission := fun i => (s.entry i).state = .challenged ∨ (s.entry i).state = .checking
    let answers := fun base : State => s.cancelledReplies.foldl (fun u r => formReply r u) base
    let owesNothing := fun t : State => ∀ m < 4, t.slot m =
      if ∃ r ∈ s.cancelledReplies, r.slot = some m then (s.slot m).map (fun h => { h with awaiting := none }) else s.slot m
    (s.freeSlot = some j → s.calls = [] → (∀ k < 48, (s.leg k).use = .free) → ∃ t,
      exec (.maintEnter tag) s = .next (answered j 37 tag .ok (wordBytes ((List.range 512).countP (fun i =>
        (s.entry i).state == .challenged || (s.entry i).state == .checking || (s.entry i).state == .admitted))) t) ∧
      t = { answers s with
        directory := t.directory
        requestBuffer := t.requestBuffer
        mode := .maintenance
        silence := match s.silence with
          | .running c => .paused c.ticks
          | x => x } ∧
      (∀ i < 512,
        (inAdmission i → t.entry i = { s.entry i with state := .enrolled, pending := none, timer := none }) ∧
        ((s.entry i).state = .admitted → t.entry i = { s.entry i with
          state := .enrolled, sk := none, register := [], screening := false, interdigit := none }) ∧
        (¬ inAdmission i → (s.entry i).state ≠ .admitted → t.entry i = s.entry i)) ∧
      owesNothing t) ∧
    (s.resetHeld = false → s.silence.HasRunOut → ∃ t, exec .silenceTimerExpiry s = .next t ∧
      t = { answers (queueReport (.standaloneEntered ((List.range 512).countP (fun i =>
          (s.entry i).state == .challenged || (s.entry i).state == .checking))) s) with
        directory := t.directory
        requestBuffer := t.requestBuffer
        mode := .standalone
        silence := .stopped } ∧
      (∀ i < 512,
        (inAdmission i → t.entry i = { s.entry i with state := .enrolled, pending := none, timer := none }) ∧
        (¬ inAdmission i → t.entry i = s.entry i)) ∧
      owesNothing t) ∧
    ∀ u : State, u.resetHeld = false → u.mode ≠ .normal ∨ ¬ u.silence.HasRunOut →
      exec .silenceTimerExpiry u = .next u

/-- The mode refusals of the running exchange (11.1), each before any test of the records, and MAINT ENTER's refusal while a
call stands or a leg is not FREE; none changes anything. -/
def Obligations.ModeRefusals : Prop :=
  ∀ (s : State) (j : Nat) (tag : Byte) (entry first second : Word) (value : Byte), s.freeSlot = some j →
    entry.toNat ≤ 511 → value.toNat ≤ 9 →
    (s.mode = .standalone →
      (tag ≠ 0 → exec (.admitBegin tag entry) s = .next (answered j 8 tag .noControl (wordBytes entry.toNat) s)) ∧
      exec (.dialStart tag entry) s = .next (answered j 12 tag .noControl [] s) ∧
      (∀ ref a b t, ref ≠ 0 → ChannelOrNone a → ChannelOrNone b →
        exec (.answer tag ref a b t) s = .next (answered j 20 tag .noControl [] s)) ∧
      exec (.maintEnter tag) s = .next (answered j 37 tag .noControl [] s)) ∧
    (s.mode = .maintenance →
      (tag ≠ 0 → exec (.admitBegin tag entry) s = .next (answered j 8 tag .maintenance (wordBytes entry.toNat) s) ∧
        exec (.admitAnswer tag entry first second) s =
          .next (answered j 9 tag .maintenance (wordBytes entry.toNat) s)) ∧
      exec (.dialStart tag entry) s = .next (answered j 12 tag .maintenance [] s) ∧
      exec (.digit tag entry value) s = .next (answered j 13 tag .maintenance [] s) ∧
      exec (.dialAbort tag entry) s = .next (answered j 14 tag .maintenance [] s) ∧
      exec (.maintEnter tag) s = .next (answered j 37 tag .state [] s)) ∧
    (s.mode = .normal → s.calls ≠ [] ∨ (∃ k < 48, (s.leg k).use ≠ .free) →
      exec (.maintEnter tag) s = .next (answered j 37 tag .callsPresent [] s)) ∧
    (s.mode ≠ .maintenance → exec (.maintExit tag) s = .next (answered j 38 tag .state [] s) ∧
      ∀ channel key, exec (.loopStart tag channel key) s = .next (answered j 29 tag .state [] s))

/-! ### Laws of the whole device -/

/-- The control mode changes only by the events of 11.1 and by a hard reset. The requests inside FRAME_RECEIVED are those
commands themselves (`FrameReceivedIsItsRequest`). -/
def Obligations.ModeChangesOnlyAtItsEvents : Prop :=
  ∀ (c : Instr) (s t : State), exec c s = .next t → (∀ bytes, c ≠ .frameReceived bytes) → t.mode ≠ s.mode →
    (c = .silenceTimerExpiry ∧ s.mode = .normal ∧ t.mode = .standalone) ∨
    ((∃ tag token, c = .alive tag token) ∧ s.mode = .standalone ∧ t.mode = .normal) ∨
    ((∃ tag, c = .restart tag) ∧ s.mode = .standalone ∧ t.mode = .normal) ∨
    ((∃ tag, c = .maintEnter tag) ∧ s.mode = .normal ∧ t.mode = .maintenance) ∨
    ((∃ tag, c = .maintExit tag) ∧ s.mode = .maintenance ∧ t.mode = .normal) ∨
    ((∃ straps, c = .hardReset (.released straps)) ∧ t.mode = .normal)

/-- Outside MAINTENANCE a set lock refuses the seven guarded requests with LOCKED. The lock, the used marks of the device
key, the silence interval and the tie keys, and the strap code change back only by a hard reset. -/
def Obligations.LockHolds : Prop :=
  (∀ (s : State) (j : Nat) (tag a b c : Byte) (bytes : List Byte) (f : RouteFields) (key : Key) (value : Word)
      (start : Long), s.freeSlot = some j → s.lock = true → s.mode ≠ .maintenance →
    (bytes.length = 32 → exec (.writeClass tag a b bytes) s = .next (answered j 15 tag .locked [] s)) ∧
    (f.wellFormed = true → exec (.writeRoute tag a f) s = .next (answered j 17 tag .locked [] s)) ∧
    exec (.clearRoute tag a) s = .next (answered j 18 tag .locked [] s) ∧
    (∀ d, exec (.writeGroup tag a b c d) s = .next (answered j 26 tag .locked [] s)) ∧
    (a.toNat ≤ 15 → exec (.setTieKey tag a key) s = .next (answered j 27 tag .locked [] s)) ∧
    exec (.setDeviceKey tag key start) s = .next (answered j 32 tag .locked [] s) ∧
    (a.toNat ≤ 10 → exec (.setParam tag a value) s = .next (answered j 34 tag .locked [] s))) ∧
  (∀ (c : Instr) (s t : State), exec c s = .next t → (∀ straps, c ≠ .hardReset (.released straps)) →
    (s.lock = true → t.lock = true) ∧ (s.deviceKeyUsed = true → t.deviceKeyUsed = true) ∧
    (s.silenceUsed = true → t.silenceUsed = true) ∧ t.strapCode = s.strapCode ∧
    ∀ g, (s.group g).tieKeyUsed = true → (t.group g).tieKeyUsed = true)

/-- The job queue and the report queue never hold more than 32, the call table never more than 96, every parameter stays in
its range and READY stays enabled: every step keeps this, from every state. -/
def Obligations.StepKeepsBounds : Prop :=
  ∀ s t : State, s.WithinCapacity → s.ParamsInRange → s.reportMask.getLsbD 0 = true → step s = .next t →
    t.WithinCapacity ∧ t.ParamsInRange ∧ t.reportMask.getLsbD 0 = true

/-- No two occupied route entries conflict, and no two entries that are not VACANT hold the same number: every step keeps
both, each on its own. -/
def Obligations.StepKeepsRoutesAndNumbers : Prop :=
  ∀ s t : State, step s = .next t →
    (s.RoutesApart → t.RoutesApart) ∧ (s.NumbersUnique → t.NumbersUnique)

/-- Every formed reply belongs to a request that holds a slot of its own, so at most four wait: every step keeps this. And
every step keeps that an idle transmitter has nothing waiting. -/
def Obligations.StepKeepsRepliesHoldSlots : Prop :=
  ∀ s t : State, step s = .next t →
    (s.RepliesHoldSlots → t.RepliesHoldSlots ∧ t.replyQueue.length ≤ 4) ∧
    (s.IdleHasNothingWaiting → t.IdleHasNothingWaiting)

/-- An entry has fewer failed attempts than the limit unless it is LOCKED_OUT, and no level exceeds 4: every step keeps
this. -/
def Obligations.StepKeepsAttemptsLawful : Prop :=
  ∀ s t : State, s.AttemptsLawful → step s = .next t → t.AttemptsLawful

/-- References are unique and each trunk group counts exactly the calls to it: every step keeps this. -/
def Obligations.StepKeepsCallsCounted : Prop :=
  ∀ s t : State, s.CallsCounted → step s = .next t → t.CallsCounted

/-- The part right after reset meets every law that the steps keep. -/
def Obligations.ResetMeetsTheLaws : Prop :=
  State.reset.WithinCapacity ∧ State.reset.ParamsInRange ∧ State.reset.reportMask.getLsbD 0 = true ∧
    State.reset.RoutesApart ∧ State.reset.NumbersUnique ∧ State.reset.RepliesHoldSlots ∧ State.reset.IdleHasNothingWaiting ∧
    State.reset.AttemptsLawful ∧ State.reset.CallsCounted
end

