-- ==== Sys2Proof/Laws/State.lean ====
section
/-! SUPPORT. What each update of the state leaves in each of its fields, and what the named reads give after it. -/

namespace Sys2Proof.Machine

variable (s : State)

/-! ### setEntry -/

@[simp] theorem setEntry_resetHeld (i : Nat) (e : Entry) : (s.setEntry i e).resetHeld = s.resetHeld := rfl
@[simp] theorem setEntry_strapCode (i : Nat) (e : Entry) : (s.setEntry i e).strapCode = s.strapCode := rfl
@[simp] theorem setEntry_receiver (i : Nat) (e : Entry) : (s.setEntry i e).receiver = s.receiver := rfl
@[simp] theorem setEntry_requestBuffer (i : Nat) (e : Entry) : (s.setEntry i e).requestBuffer = s.requestBuffer := rfl
@[simp] theorem setEntry_replyQueue (i : Nat) (e : Entry) : (s.setEntry i e).replyQueue = s.replyQueue := rfl
@[simp] theorem setEntry_reportQueue (i : Nat) (e : Entry) : (s.setEntry i e).reportQueue = s.reportQueue := rfl
@[simp] theorem setEntry_lostFlag (i : Nat) (e : Entry) : (s.setEntry i e).lostFlag = s.lostFlag := rfl
@[simp] theorem setEntry_reportMask (i : Nat) (e : Entry) : (s.setEntry i e).reportMask = s.reportMask := rfl
@[simp] theorem setEntry_transmitting (i : Nat) (e : Entry) : (s.setEntry i e).transmitting = s.transmitting := rfl
@[simp] theorem setEntry_frameReference (i : Nat) (e : Entry) : (s.setEntry i e).frameReference = s.frameReference := rfl
@[simp] theorem setEntry_watchRunning (i : Nat) (e : Entry) : (s.setEntry i e).watchRunning = s.watchRunning := rfl
@[simp] theorem setEntry_channelTable (i : Nat) (e : Entry) : (s.setEntry i e).channelTable = s.channelTable := rfl
@[simp] theorem setEntry_routedAs (i : Nat) (e : Entry) : (s.setEntry i e).routedAs = s.routedAs := rfl
@[simp] theorem setEntry_heldInbound (i : Nat) (e : Entry) : (s.setEntry i e).heldInbound = s.heldInbound := rfl
@[simp] theorem setEntry_heldOutbound (i : Nat) (e : Entry) : (s.setEntry i e).heldOutbound = s.heldOutbound := rfl
@[simp] theorem setEntry_portTransmit (i : Nat) (e : Entry) : (s.setEntry i e).portTransmit = s.portTransmit := rfl
@[simp] theorem setEntry_matrixTransmit (i : Nat) (e : Entry) : (s.setEntry i e).matrixTransmit = s.matrixTransmit := rfl
@[simp] theorem setEntry_afterFrame (i : Nat) (e : Entry) : (s.setEntry i e).afterFrame = s.afterFrame := rfl
@[simp] theorem setEntry_jobs (i : Nat) (e : Entry) : (s.setEntry i e).jobs = s.jobs := rfl
@[simp] theorem setEntry_deviceKey (i : Nat) (e : Entry) : (s.setEntry i e).deviceKey = s.deviceKey := rfl
@[simp] theorem setEntry_challengeCounter (i : Nat) (e : Entry) : (s.setEntry i e).challengeCounter = s.challengeCounter := rfl
@[simp] theorem setEntry_legs (i : Nat) (e : Entry) : (s.setEntry i e).legs = s.legs := rfl
@[simp] theorem setEntry_directory (i : Nat) (e : Entry) : (s.setEntry i e).directory = writeAt s.directory i e := rfl
@[simp] theorem setEntry_classes (i : Nat) (e : Entry) : (s.setEntry i e).classes = s.classes := rfl
@[simp] theorem setEntry_routes (i : Nat) (e : Entry) : (s.setEntry i e).routes = s.routes := rfl
@[simp] theorem setEntry_calls (i : Nat) (e : Entry) : (s.setEntry i e).calls = s.calls := rfl
@[simp] theorem setEntry_referenceCounter (i : Nat) (e : Entry) : (s.setEntry i e).referenceCounter = s.referenceCounter := rfl
@[simp] theorem setEntry_groups (i : Nat) (e : Entry) : (s.setEntry i e).groups = s.groups := rfl
@[simp] theorem setEntry_mode (i : Nat) (e : Entry) : (s.setEntry i e).mode = s.mode := rfl
@[simp] theorem setEntry_lock (i : Nat) (e : Entry) : (s.setEntry i e).lock = s.lock := rfl
@[simp] theorem setEntry_params (i : Nat) (e : Entry) : (s.setEntry i e).params = s.params := rfl
@[simp] theorem setEntry_silenceUsed (i : Nat) (e : Entry) : (s.setEntry i e).silenceUsed = s.silenceUsed := rfl
@[simp] theorem setEntry_deviceKeyUsed (i : Nat) (e : Entry) : (s.setEntry i e).deviceKeyUsed = s.deviceKeyUsed := rfl
@[simp] theorem setEntry_silence (i : Nat) (e : Entry) : (s.setEntry i e).silence = s.silence := rfl
@[simp] theorem setEntry_lastToken (i : Nat) (e : Entry) : (s.setEntry i e).lastToken = s.lastToken := rfl
@[simp] theorem setEntry_pending (i : Nat) (e : Entry) : (s.setEntry i e).pending = s.pending := rfl

/-! ### setLeg -/

@[simp] theorem setLeg_resetHeld (k : Nat) (l : Leg) : (s.setLeg k l).resetHeld = s.resetHeld := rfl
@[simp] theorem setLeg_strapCode (k : Nat) (l : Leg) : (s.setLeg k l).strapCode = s.strapCode := rfl
@[simp] theorem setLeg_receiver (k : Nat) (l : Leg) : (s.setLeg k l).receiver = s.receiver := rfl
@[simp] theorem setLeg_requestBuffer (k : Nat) (l : Leg) : (s.setLeg k l).requestBuffer = s.requestBuffer := rfl
@[simp] theorem setLeg_replyQueue (k : Nat) (l : Leg) : (s.setLeg k l).replyQueue = s.replyQueue := rfl
@[simp] theorem setLeg_reportQueue (k : Nat) (l : Leg) : (s.setLeg k l).reportQueue = s.reportQueue := rfl
@[simp] theorem setLeg_lostFlag (k : Nat) (l : Leg) : (s.setLeg k l).lostFlag = s.lostFlag := rfl
@[simp] theorem setLeg_reportMask (k : Nat) (l : Leg) : (s.setLeg k l).reportMask = s.reportMask := rfl
@[simp] theorem setLeg_transmitting (k : Nat) (l : Leg) : (s.setLeg k l).transmitting = s.transmitting := rfl
@[simp] theorem setLeg_frameReference (k : Nat) (l : Leg) : (s.setLeg k l).frameReference = s.frameReference := rfl
@[simp] theorem setLeg_watchRunning (k : Nat) (l : Leg) : (s.setLeg k l).watchRunning = s.watchRunning := rfl
@[simp] theorem setLeg_channelTable (k : Nat) (l : Leg) : (s.setLeg k l).channelTable = s.channelTable := rfl
@[simp] theorem setLeg_routedAs (k : Nat) (l : Leg) : (s.setLeg k l).routedAs = s.routedAs := rfl
@[simp] theorem setLeg_heldInbound (k : Nat) (l : Leg) : (s.setLeg k l).heldInbound = s.heldInbound := rfl
@[simp] theorem setLeg_heldOutbound (k : Nat) (l : Leg) : (s.setLeg k l).heldOutbound = s.heldOutbound := rfl
@[simp] theorem setLeg_portTransmit (k : Nat) (l : Leg) : (s.setLeg k l).portTransmit = s.portTransmit := rfl
@[simp] theorem setLeg_matrixTransmit (k : Nat) (l : Leg) : (s.setLeg k l).matrixTransmit = s.matrixTransmit := rfl
@[simp] theorem setLeg_afterFrame (k : Nat) (l : Leg) : (s.setLeg k l).afterFrame = s.afterFrame := rfl
@[simp] theorem setLeg_jobs (k : Nat) (l : Leg) : (s.setLeg k l).jobs = s.jobs := rfl
@[simp] theorem setLeg_deviceKey (k : Nat) (l : Leg) : (s.setLeg k l).deviceKey = s.deviceKey := rfl
@[simp] theorem setLeg_challengeCounter (k : Nat) (l : Leg) : (s.setLeg k l).challengeCounter = s.challengeCounter := rfl
@[simp] theorem setLeg_legs (k : Nat) (l : Leg) : (s.setLeg k l).legs = writeAt s.legs k l := rfl
@[simp] theorem setLeg_directory (k : Nat) (l : Leg) : (s.setLeg k l).directory = s.directory := rfl
@[simp] theorem setLeg_classes (k : Nat) (l : Leg) : (s.setLeg k l).classes = s.classes := rfl
@[simp] theorem setLeg_routes (k : Nat) (l : Leg) : (s.setLeg k l).routes = s.routes := rfl
@[simp] theorem setLeg_calls (k : Nat) (l : Leg) : (s.setLeg k l).calls = s.calls := rfl
@[simp] theorem setLeg_referenceCounter (k : Nat) (l : Leg) : (s.setLeg k l).referenceCounter = s.referenceCounter := rfl
@[simp] theorem setLeg_groups (k : Nat) (l : Leg) : (s.setLeg k l).groups = s.groups := rfl
@[simp] theorem setLeg_mode (k : Nat) (l : Leg) : (s.setLeg k l).mode = s.mode := rfl
@[simp] theorem setLeg_lock (k : Nat) (l : Leg) : (s.setLeg k l).lock = s.lock := rfl
@[simp] theorem setLeg_params (k : Nat) (l : Leg) : (s.setLeg k l).params = s.params := rfl
@[simp] theorem setLeg_silenceUsed (k : Nat) (l : Leg) : (s.setLeg k l).silenceUsed = s.silenceUsed := rfl
@[simp] theorem setLeg_deviceKeyUsed (k : Nat) (l : Leg) : (s.setLeg k l).deviceKeyUsed = s.deviceKeyUsed := rfl
@[simp] theorem setLeg_silence (k : Nat) (l : Leg) : (s.setLeg k l).silence = s.silence := rfl
@[simp] theorem setLeg_lastToken (k : Nat) (l : Leg) : (s.setLeg k l).lastToken = s.lastToken := rfl
@[simp] theorem setLeg_pending (k : Nat) (l : Leg) : (s.setLeg k l).pending = s.pending := rfl

/-! ### setRouting -/

@[simp] theorem setRouting_resetHeld (c : Nat) (r : Routing) : (s.setRouting c r).resetHeld = s.resetHeld := rfl
@[simp] theorem setRouting_strapCode (c : Nat) (r : Routing) : (s.setRouting c r).strapCode = s.strapCode := rfl
@[simp] theorem setRouting_receiver (c : Nat) (r : Routing) : (s.setRouting c r).receiver = s.receiver := rfl
@[simp] theorem setRouting_requestBuffer (c : Nat) (r : Routing) : (s.setRouting c r).requestBuffer = s.requestBuffer := rfl
@[simp] theorem setRouting_replyQueue (c : Nat) (r : Routing) : (s.setRouting c r).replyQueue = s.replyQueue := rfl
@[simp] theorem setRouting_reportQueue (c : Nat) (r : Routing) : (s.setRouting c r).reportQueue = s.reportQueue := rfl
@[simp] theorem setRouting_lostFlag (c : Nat) (r : Routing) : (s.setRouting c r).lostFlag = s.lostFlag := rfl
@[simp] theorem setRouting_reportMask (c : Nat) (r : Routing) : (s.setRouting c r).reportMask = s.reportMask := rfl
@[simp] theorem setRouting_transmitting (c : Nat) (r : Routing) : (s.setRouting c r).transmitting = s.transmitting := rfl
@[simp] theorem setRouting_frameReference (c : Nat) (r : Routing) : (s.setRouting c r).frameReference = s.frameReference := rfl
@[simp] theorem setRouting_watchRunning (c : Nat) (r : Routing) : (s.setRouting c r).watchRunning = s.watchRunning := rfl
@[simp] theorem setRouting_channelTable (c : Nat) (r : Routing) : (s.setRouting c r).channelTable = writeAt s.channelTable c r := rfl
@[simp] theorem setRouting_routedAs (c : Nat) (r : Routing) : (s.setRouting c r).routedAs = s.routedAs := rfl
@[simp] theorem setRouting_heldInbound (c : Nat) (r : Routing) : (s.setRouting c r).heldInbound = s.heldInbound := rfl
@[simp] theorem setRouting_heldOutbound (c : Nat) (r : Routing) : (s.setRouting c r).heldOutbound = s.heldOutbound := rfl
@[simp] theorem setRouting_portTransmit (c : Nat) (r : Routing) : (s.setRouting c r).portTransmit = s.portTransmit := rfl
@[simp] theorem setRouting_matrixTransmit (c : Nat) (r : Routing) : (s.setRouting c r).matrixTransmit = s.matrixTransmit := rfl
@[simp] theorem setRouting_afterFrame (c : Nat) (r : Routing) : (s.setRouting c r).afterFrame = s.afterFrame := rfl
@[simp] theorem setRouting_jobs (c : Nat) (r : Routing) : (s.setRouting c r).jobs = s.jobs := rfl
@[simp] theorem setRouting_deviceKey (c : Nat) (r : Routing) : (s.setRouting c r).deviceKey = s.deviceKey := rfl
@[simp] theorem setRouting_challengeCounter (c : Nat) (r : Routing) : (s.setRouting c r).challengeCounter = s.challengeCounter := rfl
@[simp] theorem setRouting_legs (c : Nat) (r : Routing) : (s.setRouting c r).legs = s.legs := rfl
@[simp] theorem setRouting_directory (c : Nat) (r : Routing) : (s.setRouting c r).directory = s.directory := rfl
@[simp] theorem setRouting_classes (c : Nat) (r : Routing) : (s.setRouting c r).classes = s.classes := rfl
@[simp] theorem setRouting_routes (c : Nat) (r : Routing) : (s.setRouting c r).routes = s.routes := rfl
@[simp] theorem setRouting_calls (c : Nat) (r : Routing) : (s.setRouting c r).calls = s.calls := rfl
@[simp] theorem setRouting_referenceCounter (c : Nat) (r : Routing) : (s.setRouting c r).referenceCounter = s.referenceCounter := rfl
@[simp] theorem setRouting_groups (c : Nat) (r : Routing) : (s.setRouting c r).groups = s.groups := rfl
@[simp] theorem setRouting_mode (c : Nat) (r : Routing) : (s.setRouting c r).mode = s.mode := rfl
@[simp] theorem setRouting_lock (c : Nat) (r : Routing) : (s.setRouting c r).lock = s.lock := rfl
@[simp] theorem setRouting_params (c : Nat) (r : Routing) : (s.setRouting c r).params = s.params := rfl
@[simp] theorem setRouting_silenceUsed (c : Nat) (r : Routing) : (s.setRouting c r).silenceUsed = s.silenceUsed := rfl
@[simp] theorem setRouting_deviceKeyUsed (c : Nat) (r : Routing) : (s.setRouting c r).deviceKeyUsed = s.deviceKeyUsed := rfl
@[simp] theorem setRouting_silence (c : Nat) (r : Routing) : (s.setRouting c r).silence = s.silence := rfl
@[simp] theorem setRouting_lastToken (c : Nat) (r : Routing) : (s.setRouting c r).lastToken = s.lastToken := rfl
@[simp] theorem setRouting_pending (c : Nat) (r : Routing) : (s.setRouting c r).pending = s.pending := rfl

/-! ### setClassRecord -/

@[simp] theorem setClassRecord_resetHeld (c : Nat) (r : ClassRecord) : (s.setClassRecord c r).resetHeld = s.resetHeld := rfl
@[simp] theorem setClassRecord_strapCode (c : Nat) (r : ClassRecord) : (s.setClassRecord c r).strapCode = s.strapCode := rfl
@[simp] theorem setClassRecord_receiver (c : Nat) (r : ClassRecord) : (s.setClassRecord c r).receiver = s.receiver := rfl
@[simp] theorem setClassRecord_requestBuffer (c : Nat) (r : ClassRecord) : (s.setClassRecord c r).requestBuffer = s.requestBuffer := rfl
@[simp] theorem setClassRecord_replyQueue (c : Nat) (r : ClassRecord) : (s.setClassRecord c r).replyQueue = s.replyQueue := rfl
@[simp] theorem setClassRecord_reportQueue (c : Nat) (r : ClassRecord) : (s.setClassRecord c r).reportQueue = s.reportQueue := rfl
@[simp] theorem setClassRecord_lostFlag (c : Nat) (r : ClassRecord) : (s.setClassRecord c r).lostFlag = s.lostFlag := rfl
@[simp] theorem setClassRecord_reportMask (c : Nat) (r : ClassRecord) : (s.setClassRecord c r).reportMask = s.reportMask := rfl
@[simp] theorem setClassRecord_transmitting (c : Nat) (r : ClassRecord) : (s.setClassRecord c r).transmitting = s.transmitting := rfl
@[simp] theorem setClassRecord_frameReference (c : Nat) (r : ClassRecord) : (s.setClassRecord c r).frameReference = s.frameReference := rfl
@[simp] theorem setClassRecord_watchRunning (c : Nat) (r : ClassRecord) : (s.setClassRecord c r).watchRunning = s.watchRunning := rfl
@[simp] theorem setClassRecord_channelTable (c : Nat) (r : ClassRecord) : (s.setClassRecord c r).channelTable = s.channelTable := rfl
@[simp] theorem setClassRecord_routedAs (c : Nat) (r : ClassRecord) : (s.setClassRecord c r).routedAs = s.routedAs := rfl
@[simp] theorem setClassRecord_heldInbound (c : Nat) (r : ClassRecord) : (s.setClassRecord c r).heldInbound = s.heldInbound := rfl
@[simp] theorem setClassRecord_heldOutbound (c : Nat) (r : ClassRecord) : (s.setClassRecord c r).heldOutbound = s.heldOutbound := rfl
@[simp] theorem setClassRecord_portTransmit (c : Nat) (r : ClassRecord) : (s.setClassRecord c r).portTransmit = s.portTransmit := rfl
@[simp] theorem setClassRecord_matrixTransmit (c : Nat) (r : ClassRecord) : (s.setClassRecord c r).matrixTransmit = s.matrixTransmit := rfl
@[simp] theorem setClassRecord_afterFrame (c : Nat) (r : ClassRecord) : (s.setClassRecord c r).afterFrame = s.afterFrame := rfl
@[simp] theorem setClassRecord_jobs (c : Nat) (r : ClassRecord) : (s.setClassRecord c r).jobs = s.jobs := rfl
@[simp] theorem setClassRecord_deviceKey (c : Nat) (r : ClassRecord) : (s.setClassRecord c r).deviceKey = s.deviceKey := rfl
@[simp] theorem setClassRecord_challengeCounter (c : Nat) (r : ClassRecord) : (s.setClassRecord c r).challengeCounter = s.challengeCounter := rfl
@[simp] theorem setClassRecord_legs (c : Nat) (r : ClassRecord) : (s.setClassRecord c r).legs = s.legs := rfl
@[simp] theorem setClassRecord_directory (c : Nat) (r : ClassRecord) : (s.setClassRecord c r).directory = s.directory := rfl
@[simp] theorem setClassRecord_classes (c : Nat) (r : ClassRecord) : (s.setClassRecord c r).classes = writeAt s.classes c r := rfl
@[simp] theorem setClassRecord_routes (c : Nat) (r : ClassRecord) : (s.setClassRecord c r).routes = s.routes := rfl
@[simp] theorem setClassRecord_calls (c : Nat) (r : ClassRecord) : (s.setClassRecord c r).calls = s.calls := rfl
@[simp] theorem setClassRecord_referenceCounter (c : Nat) (r : ClassRecord) : (s.setClassRecord c r).referenceCounter = s.referenceCounter := rfl
@[simp] theorem setClassRecord_groups (c : Nat) (r : ClassRecord) : (s.setClassRecord c r).groups = s.groups := rfl
@[simp] theorem setClassRecord_mode (c : Nat) (r : ClassRecord) : (s.setClassRecord c r).mode = s.mode := rfl
@[simp] theorem setClassRecord_lock (c : Nat) (r : ClassRecord) : (s.setClassRecord c r).lock = s.lock := rfl
@[simp] theorem setClassRecord_params (c : Nat) (r : ClassRecord) : (s.setClassRecord c r).params = s.params := rfl
@[simp] theorem setClassRecord_silenceUsed (c : Nat) (r : ClassRecord) : (s.setClassRecord c r).silenceUsed = s.silenceUsed := rfl
@[simp] theorem setClassRecord_deviceKeyUsed (c : Nat) (r : ClassRecord) : (s.setClassRecord c r).deviceKeyUsed = s.deviceKeyUsed := rfl
@[simp] theorem setClassRecord_silence (c : Nat) (r : ClassRecord) : (s.setClassRecord c r).silence = s.silence := rfl
@[simp] theorem setClassRecord_lastToken (c : Nat) (r : ClassRecord) : (s.setClassRecord c r).lastToken = s.lastToken := rfl
@[simp] theorem setClassRecord_pending (c : Nat) (r : ClassRecord) : (s.setClassRecord c r).pending = s.pending := rfl

/-! ### setRoute -/

@[simp] theorem setRoute_resetHeld (n : Nat) (r : Option Route) : (s.setRoute n r).resetHeld = s.resetHeld := rfl
@[simp] theorem setRoute_strapCode (n : Nat) (r : Option Route) : (s.setRoute n r).strapCode = s.strapCode := rfl
@[simp] theorem setRoute_receiver (n : Nat) (r : Option Route) : (s.setRoute n r).receiver = s.receiver := rfl
@[simp] theorem setRoute_requestBuffer (n : Nat) (r : Option Route) : (s.setRoute n r).requestBuffer = s.requestBuffer := rfl
@[simp] theorem setRoute_replyQueue (n : Nat) (r : Option Route) : (s.setRoute n r).replyQueue = s.replyQueue := rfl
@[simp] theorem setRoute_reportQueue (n : Nat) (r : Option Route) : (s.setRoute n r).reportQueue = s.reportQueue := rfl
@[simp] theorem setRoute_lostFlag (n : Nat) (r : Option Route) : (s.setRoute n r).lostFlag = s.lostFlag := rfl
@[simp] theorem setRoute_reportMask (n : Nat) (r : Option Route) : (s.setRoute n r).reportMask = s.reportMask := rfl
@[simp] theorem setRoute_transmitting (n : Nat) (r : Option Route) : (s.setRoute n r).transmitting = s.transmitting := rfl
@[simp] theorem setRoute_frameReference (n : Nat) (r : Option Route) : (s.setRoute n r).frameReference = s.frameReference := rfl
@[simp] theorem setRoute_watchRunning (n : Nat) (r : Option Route) : (s.setRoute n r).watchRunning = s.watchRunning := rfl
@[simp] theorem setRoute_channelTable (n : Nat) (r : Option Route) : (s.setRoute n r).channelTable = s.channelTable := rfl
@[simp] theorem setRoute_routedAs (n : Nat) (r : Option Route) : (s.setRoute n r).routedAs = s.routedAs := rfl
@[simp] theorem setRoute_heldInbound (n : Nat) (r : Option Route) : (s.setRoute n r).heldInbound = s.heldInbound := rfl
@[simp] theorem setRoute_heldOutbound (n : Nat) (r : Option Route) : (s.setRoute n r).heldOutbound = s.heldOutbound := rfl
@[simp] theorem setRoute_portTransmit (n : Nat) (r : Option Route) : (s.setRoute n r).portTransmit = s.portTransmit := rfl
@[simp] theorem setRoute_matrixTransmit (n : Nat) (r : Option Route) : (s.setRoute n r).matrixTransmit = s.matrixTransmit := rfl
@[simp] theorem setRoute_afterFrame (n : Nat) (r : Option Route) : (s.setRoute n r).afterFrame = s.afterFrame := rfl
@[simp] theorem setRoute_jobs (n : Nat) (r : Option Route) : (s.setRoute n r).jobs = s.jobs := rfl
@[simp] theorem setRoute_deviceKey (n : Nat) (r : Option Route) : (s.setRoute n r).deviceKey = s.deviceKey := rfl
@[simp] theorem setRoute_challengeCounter (n : Nat) (r : Option Route) : (s.setRoute n r).challengeCounter = s.challengeCounter := rfl
@[simp] theorem setRoute_legs (n : Nat) (r : Option Route) : (s.setRoute n r).legs = s.legs := rfl
@[simp] theorem setRoute_directory (n : Nat) (r : Option Route) : (s.setRoute n r).directory = s.directory := rfl
@[simp] theorem setRoute_classes (n : Nat) (r : Option Route) : (s.setRoute n r).classes = s.classes := rfl
@[simp] theorem setRoute_routes (n : Nat) (r : Option Route) : (s.setRoute n r).routes = writeAt s.routes n r := rfl
@[simp] theorem setRoute_calls (n : Nat) (r : Option Route) : (s.setRoute n r).calls = s.calls := rfl
@[simp] theorem setRoute_referenceCounter (n : Nat) (r : Option Route) : (s.setRoute n r).referenceCounter = s.referenceCounter := rfl
@[simp] theorem setRoute_groups (n : Nat) (r : Option Route) : (s.setRoute n r).groups = s.groups := rfl
@[simp] theorem setRoute_mode (n : Nat) (r : Option Route) : (s.setRoute n r).mode = s.mode := rfl
@[simp] theorem setRoute_lock (n : Nat) (r : Option Route) : (s.setRoute n r).lock = s.lock := rfl
@[simp] theorem setRoute_params (n : Nat) (r : Option Route) : (s.setRoute n r).params = s.params := rfl
@[simp] theorem setRoute_silenceUsed (n : Nat) (r : Option Route) : (s.setRoute n r).silenceUsed = s.silenceUsed := rfl
@[simp] theorem setRoute_deviceKeyUsed (n : Nat) (r : Option Route) : (s.setRoute n r).deviceKeyUsed = s.deviceKeyUsed := rfl
@[simp] theorem setRoute_silence (n : Nat) (r : Option Route) : (s.setRoute n r).silence = s.silence := rfl
@[simp] theorem setRoute_lastToken (n : Nat) (r : Option Route) : (s.setRoute n r).lastToken = s.lastToken := rfl
@[simp] theorem setRoute_pending (n : Nat) (r : Option Route) : (s.setRoute n r).pending = s.pending := rfl

/-! ### setGroup -/

@[simp] theorem setGroup_resetHeld (g : Nat) (r : Group) : (s.setGroup g r).resetHeld = s.resetHeld := rfl
@[simp] theorem setGroup_strapCode (g : Nat) (r : Group) : (s.setGroup g r).strapCode = s.strapCode := rfl
@[simp] theorem setGroup_receiver (g : Nat) (r : Group) : (s.setGroup g r).receiver = s.receiver := rfl
@[simp] theorem setGroup_requestBuffer (g : Nat) (r : Group) : (s.setGroup g r).requestBuffer = s.requestBuffer := rfl
@[simp] theorem setGroup_replyQueue (g : Nat) (r : Group) : (s.setGroup g r).replyQueue = s.replyQueue := rfl
@[simp] theorem setGroup_reportQueue (g : Nat) (r : Group) : (s.setGroup g r).reportQueue = s.reportQueue := rfl
@[simp] theorem setGroup_lostFlag (g : Nat) (r : Group) : (s.setGroup g r).lostFlag = s.lostFlag := rfl
@[simp] theorem setGroup_reportMask (g : Nat) (r : Group) : (s.setGroup g r).reportMask = s.reportMask := rfl
@[simp] theorem setGroup_transmitting (g : Nat) (r : Group) : (s.setGroup g r).transmitting = s.transmitting := rfl
@[simp] theorem setGroup_frameReference (g : Nat) (r : Group) : (s.setGroup g r).frameReference = s.frameReference := rfl
@[simp] theorem setGroup_watchRunning (g : Nat) (r : Group) : (s.setGroup g r).watchRunning = s.watchRunning := rfl
@[simp] theorem setGroup_channelTable (g : Nat) (r : Group) : (s.setGroup g r).channelTable = s.channelTable := rfl
@[simp] theorem setGroup_routedAs (g : Nat) (r : Group) : (s.setGroup g r).routedAs = s.routedAs := rfl
@[simp] theorem setGroup_heldInbound (g : Nat) (r : Group) : (s.setGroup g r).heldInbound = s.heldInbound := rfl
@[simp] theorem setGroup_heldOutbound (g : Nat) (r : Group) : (s.setGroup g r).heldOutbound = s.heldOutbound := rfl
@[simp] theorem setGroup_portTransmit (g : Nat) (r : Group) : (s.setGroup g r).portTransmit = s.portTransmit := rfl
@[simp] theorem setGroup_matrixTransmit (g : Nat) (r : Group) : (s.setGroup g r).matrixTransmit = s.matrixTransmit := rfl
@[simp] theorem setGroup_afterFrame (g : Nat) (r : Group) : (s.setGroup g r).afterFrame = s.afterFrame := rfl
@[simp] theorem setGroup_jobs (g : Nat) (r : Group) : (s.setGroup g r).jobs = s.jobs := rfl
@[simp] theorem setGroup_deviceKey (g : Nat) (r : Group) : (s.setGroup g r).deviceKey = s.deviceKey := rfl
@[simp] theorem setGroup_challengeCounter (g : Nat) (r : Group) : (s.setGroup g r).challengeCounter = s.challengeCounter := rfl
@[simp] theorem setGroup_legs (g : Nat) (r : Group) : (s.setGroup g r).legs = s.legs := rfl
@[simp] theorem setGroup_directory (g : Nat) (r : Group) : (s.setGroup g r).directory = s.directory := rfl
@[simp] theorem setGroup_classes (g : Nat) (r : Group) : (s.setGroup g r).classes = s.classes := rfl
@[simp] theorem setGroup_routes (g : Nat) (r : Group) : (s.setGroup g r).routes = s.routes := rfl
@[simp] theorem setGroup_calls (g : Nat) (r : Group) : (s.setGroup g r).calls = s.calls := rfl
@[simp] theorem setGroup_referenceCounter (g : Nat) (r : Group) : (s.setGroup g r).referenceCounter = s.referenceCounter := rfl
@[simp] theorem setGroup_groups (g : Nat) (r : Group) : (s.setGroup g r).groups = writeAt s.groups g r := rfl
@[simp] theorem setGroup_mode (g : Nat) (r : Group) : (s.setGroup g r).mode = s.mode := rfl
@[simp] theorem setGroup_lock (g : Nat) (r : Group) : (s.setGroup g r).lock = s.lock := rfl
@[simp] theorem setGroup_params (g : Nat) (r : Group) : (s.setGroup g r).params = s.params := rfl
@[simp] theorem setGroup_silenceUsed (g : Nat) (r : Group) : (s.setGroup g r).silenceUsed = s.silenceUsed := rfl
@[simp] theorem setGroup_deviceKeyUsed (g : Nat) (r : Group) : (s.setGroup g r).deviceKeyUsed = s.deviceKeyUsed := rfl
@[simp] theorem setGroup_silence (g : Nat) (r : Group) : (s.setGroup g r).silence = s.silence := rfl
@[simp] theorem setGroup_lastToken (g : Nat) (r : Group) : (s.setGroup g r).lastToken = s.lastToken := rfl
@[simp] theorem setGroup_pending (g : Nat) (r : Group) : (s.setGroup g r).pending = s.pending := rfl

/-! ### setSlot -/

@[simp] theorem setSlot_resetHeld (j : Nat) (h : Option HeldRequest) : (s.setSlot j h).resetHeld = s.resetHeld := rfl
@[simp] theorem setSlot_strapCode (j : Nat) (h : Option HeldRequest) : (s.setSlot j h).strapCode = s.strapCode := rfl
@[simp] theorem setSlot_receiver (j : Nat) (h : Option HeldRequest) : (s.setSlot j h).receiver = s.receiver := rfl
@[simp] theorem setSlot_requestBuffer (j : Nat) (h : Option HeldRequest) : (s.setSlot j h).requestBuffer = writeAt s.requestBuffer j h := rfl
@[simp] theorem setSlot_replyQueue (j : Nat) (h : Option HeldRequest) : (s.setSlot j h).replyQueue = s.replyQueue := rfl
@[simp] theorem setSlot_reportQueue (j : Nat) (h : Option HeldRequest) : (s.setSlot j h).reportQueue = s.reportQueue := rfl
@[simp] theorem setSlot_lostFlag (j : Nat) (h : Option HeldRequest) : (s.setSlot j h).lostFlag = s.lostFlag := rfl
@[simp] theorem setSlot_reportMask (j : Nat) (h : Option HeldRequest) : (s.setSlot j h).reportMask = s.reportMask := rfl
@[simp] theorem setSlot_transmitting (j : Nat) (h : Option HeldRequest) : (s.setSlot j h).transmitting = s.transmitting := rfl
@[simp] theorem setSlot_frameReference (j : Nat) (h : Option HeldRequest) : (s.setSlot j h).frameReference = s.frameReference := rfl
@[simp] theorem setSlot_watchRunning (j : Nat) (h : Option HeldRequest) : (s.setSlot j h).watchRunning = s.watchRunning := rfl
@[simp] theorem setSlot_channelTable (j : Nat) (h : Option HeldRequest) : (s.setSlot j h).channelTable = s.channelTable := rfl
@[simp] theorem setSlot_routedAs (j : Nat) (h : Option HeldRequest) : (s.setSlot j h).routedAs = s.routedAs := rfl
@[simp] theorem setSlot_heldInbound (j : Nat) (h : Option HeldRequest) : (s.setSlot j h).heldInbound = s.heldInbound := rfl
@[simp] theorem setSlot_heldOutbound (j : Nat) (h : Option HeldRequest) : (s.setSlot j h).heldOutbound = s.heldOutbound := rfl
@[simp] theorem setSlot_portTransmit (j : Nat) (h : Option HeldRequest) : (s.setSlot j h).portTransmit = s.portTransmit := rfl
@[simp] theorem setSlot_matrixTransmit (j : Nat) (h : Option HeldRequest) : (s.setSlot j h).matrixTransmit = s.matrixTransmit := rfl
@[simp] theorem setSlot_afterFrame (j : Nat) (h : Option HeldRequest) : (s.setSlot j h).afterFrame = s.afterFrame := rfl
@[simp] theorem setSlot_jobs (j : Nat) (h : Option HeldRequest) : (s.setSlot j h).jobs = s.jobs := rfl
@[simp] theorem setSlot_deviceKey (j : Nat) (h : Option HeldRequest) : (s.setSlot j h).deviceKey = s.deviceKey := rfl
@[simp] theorem setSlot_challengeCounter (j : Nat) (h : Option HeldRequest) : (s.setSlot j h).challengeCounter = s.challengeCounter := rfl
@[simp] theorem setSlot_legs (j : Nat) (h : Option HeldRequest) : (s.setSlot j h).legs = s.legs := rfl
@[simp] theorem setSlot_directory (j : Nat) (h : Option HeldRequest) : (s.setSlot j h).directory = s.directory := rfl
@[simp] theorem setSlot_classes (j : Nat) (h : Option HeldRequest) : (s.setSlot j h).classes = s.classes := rfl
@[simp] theorem setSlot_routes (j : Nat) (h : Option HeldRequest) : (s.setSlot j h).routes = s.routes := rfl
@[simp] theorem setSlot_calls (j : Nat) (h : Option HeldRequest) : (s.setSlot j h).calls = s.calls := rfl
@[simp] theorem setSlot_referenceCounter (j : Nat) (h : Option HeldRequest) : (s.setSlot j h).referenceCounter = s.referenceCounter := rfl
@[simp] theorem setSlot_groups (j : Nat) (h : Option HeldRequest) : (s.setSlot j h).groups = s.groups := rfl
@[simp] theorem setSlot_mode (j : Nat) (h : Option HeldRequest) : (s.setSlot j h).mode = s.mode := rfl
@[simp] theorem setSlot_lock (j : Nat) (h : Option HeldRequest) : (s.setSlot j h).lock = s.lock := rfl
@[simp] theorem setSlot_params (j : Nat) (h : Option HeldRequest) : (s.setSlot j h).params = s.params := rfl
@[simp] theorem setSlot_silenceUsed (j : Nat) (h : Option HeldRequest) : (s.setSlot j h).silenceUsed = s.silenceUsed := rfl
@[simp] theorem setSlot_deviceKeyUsed (j : Nat) (h : Option HeldRequest) : (s.setSlot j h).deviceKeyUsed = s.deviceKeyUsed := rfl
@[simp] theorem setSlot_silence (j : Nat) (h : Option HeldRequest) : (s.setSlot j h).silence = s.silence := rfl
@[simp] theorem setSlot_lastToken (j : Nat) (h : Option HeldRequest) : (s.setSlot j h).lastToken = s.lastToken := rfl
@[simp] theorem setSlot_pending (j : Nat) (h : Option HeldRequest) : (s.setSlot j h).pending = s.pending := rfl

/-! ### updateCall -/

@[simp] theorem updateCall_resetHeld (r : Nat) (f : Call → Call) : (s.updateCall r f).resetHeld = s.resetHeld := rfl
@[simp] theorem updateCall_strapCode (r : Nat) (f : Call → Call) : (s.updateCall r f).strapCode = s.strapCode := rfl
@[simp] theorem updateCall_receiver (r : Nat) (f : Call → Call) : (s.updateCall r f).receiver = s.receiver := rfl
@[simp] theorem updateCall_requestBuffer (r : Nat) (f : Call → Call) : (s.updateCall r f).requestBuffer = s.requestBuffer := rfl
@[simp] theorem updateCall_replyQueue (r : Nat) (f : Call → Call) : (s.updateCall r f).replyQueue = s.replyQueue := rfl
@[simp] theorem updateCall_reportQueue (r : Nat) (f : Call → Call) : (s.updateCall r f).reportQueue = s.reportQueue := rfl
@[simp] theorem updateCall_lostFlag (r : Nat) (f : Call → Call) : (s.updateCall r f).lostFlag = s.lostFlag := rfl
@[simp] theorem updateCall_reportMask (r : Nat) (f : Call → Call) : (s.updateCall r f).reportMask = s.reportMask := rfl
@[simp] theorem updateCall_transmitting (r : Nat) (f : Call → Call) : (s.updateCall r f).transmitting = s.transmitting := rfl
@[simp] theorem updateCall_frameReference (r : Nat) (f : Call → Call) : (s.updateCall r f).frameReference = s.frameReference := rfl
@[simp] theorem updateCall_watchRunning (r : Nat) (f : Call → Call) : (s.updateCall r f).watchRunning = s.watchRunning := rfl
@[simp] theorem updateCall_channelTable (r : Nat) (f : Call → Call) : (s.updateCall r f).channelTable = s.channelTable := rfl
@[simp] theorem updateCall_routedAs (r : Nat) (f : Call → Call) : (s.updateCall r f).routedAs = s.routedAs := rfl
@[simp] theorem updateCall_heldInbound (r : Nat) (f : Call → Call) : (s.updateCall r f).heldInbound = s.heldInbound := rfl
@[simp] theorem updateCall_heldOutbound (r : Nat) (f : Call → Call) : (s.updateCall r f).heldOutbound = s.heldOutbound := rfl
@[simp] theorem updateCall_portTransmit (r : Nat) (f : Call → Call) : (s.updateCall r f).portTransmit = s.portTransmit := rfl
@[simp] theorem updateCall_matrixTransmit (r : Nat) (f : Call → Call) : (s.updateCall r f).matrixTransmit = s.matrixTransmit := rfl
@[simp] theorem updateCall_afterFrame (r : Nat) (f : Call → Call) : (s.updateCall r f).afterFrame = s.afterFrame := rfl
@[simp] theorem updateCall_jobs (r : Nat) (f : Call → Call) : (s.updateCall r f).jobs = s.jobs := rfl
@[simp] theorem updateCall_deviceKey (r : Nat) (f : Call → Call) : (s.updateCall r f).deviceKey = s.deviceKey := rfl
@[simp] theorem updateCall_challengeCounter (r : Nat) (f : Call → Call) : (s.updateCall r f).challengeCounter = s.challengeCounter := rfl
@[simp] theorem updateCall_legs (r : Nat) (f : Call → Call) : (s.updateCall r f).legs = s.legs := rfl
@[simp] theorem updateCall_directory (r : Nat) (f : Call → Call) : (s.updateCall r f).directory = s.directory := rfl
@[simp] theorem updateCall_classes (r : Nat) (f : Call → Call) : (s.updateCall r f).classes = s.classes := rfl
@[simp] theorem updateCall_routes (r : Nat) (f : Call → Call) : (s.updateCall r f).routes = s.routes := rfl
@[simp] theorem updateCall_calls (r : Nat) (f : Call → Call) : (s.updateCall r f).calls = s.calls.map (fun c => if c.ref = r then f c else c) := rfl
@[simp] theorem updateCall_referenceCounter (r : Nat) (f : Call → Call) : (s.updateCall r f).referenceCounter = s.referenceCounter := rfl
@[simp] theorem updateCall_groups (r : Nat) (f : Call → Call) : (s.updateCall r f).groups = s.groups := rfl
@[simp] theorem updateCall_mode (r : Nat) (f : Call → Call) : (s.updateCall r f).mode = s.mode := rfl
@[simp] theorem updateCall_lock (r : Nat) (f : Call → Call) : (s.updateCall r f).lock = s.lock := rfl
@[simp] theorem updateCall_params (r : Nat) (f : Call → Call) : (s.updateCall r f).params = s.params := rfl
@[simp] theorem updateCall_silenceUsed (r : Nat) (f : Call → Call) : (s.updateCall r f).silenceUsed = s.silenceUsed := rfl
@[simp] theorem updateCall_deviceKeyUsed (r : Nat) (f : Call → Call) : (s.updateCall r f).deviceKeyUsed = s.deviceKeyUsed := rfl
@[simp] theorem updateCall_silence (r : Nat) (f : Call → Call) : (s.updateCall r f).silence = s.silence := rfl
@[simp] theorem updateCall_lastToken (r : Nat) (f : Call → Call) : (s.updateCall r f).lastToken = s.lastToken := rfl
@[simp] theorem updateCall_pending (r : Nat) (f : Call → Call) : (s.updateCall r f).pending = s.pending := rfl

/-! ### pushJob -/

@[simp] theorem pushJob_resetHeld (j : Job) : (pushJob j s).resetHeld = s.resetHeld := rfl
@[simp] theorem pushJob_strapCode (j : Job) : (pushJob j s).strapCode = s.strapCode := rfl
@[simp] theorem pushJob_receiver (j : Job) : (pushJob j s).receiver = s.receiver := rfl
@[simp] theorem pushJob_requestBuffer (j : Job) : (pushJob j s).requestBuffer = s.requestBuffer := rfl
@[simp] theorem pushJob_replyQueue (j : Job) : (pushJob j s).replyQueue = s.replyQueue := rfl
@[simp] theorem pushJob_reportQueue (j : Job) : (pushJob j s).reportQueue = s.reportQueue := rfl
@[simp] theorem pushJob_lostFlag (j : Job) : (pushJob j s).lostFlag = s.lostFlag := rfl
@[simp] theorem pushJob_reportMask (j : Job) : (pushJob j s).reportMask = s.reportMask := rfl
@[simp] theorem pushJob_transmitting (j : Job) : (pushJob j s).transmitting = s.transmitting := rfl
@[simp] theorem pushJob_frameReference (j : Job) : (pushJob j s).frameReference = s.frameReference := rfl
@[simp] theorem pushJob_watchRunning (j : Job) : (pushJob j s).watchRunning = s.watchRunning := rfl
@[simp] theorem pushJob_channelTable (j : Job) : (pushJob j s).channelTable = s.channelTable := rfl
@[simp] theorem pushJob_routedAs (j : Job) : (pushJob j s).routedAs = s.routedAs := rfl
@[simp] theorem pushJob_heldInbound (j : Job) : (pushJob j s).heldInbound = s.heldInbound := rfl
@[simp] theorem pushJob_heldOutbound (j : Job) : (pushJob j s).heldOutbound = s.heldOutbound := rfl
@[simp] theorem pushJob_portTransmit (j : Job) : (pushJob j s).portTransmit = s.portTransmit := rfl
@[simp] theorem pushJob_matrixTransmit (j : Job) : (pushJob j s).matrixTransmit = s.matrixTransmit := rfl
@[simp] theorem pushJob_afterFrame (j : Job) : (pushJob j s).afterFrame = s.afterFrame := rfl
@[simp] theorem pushJob_jobs (j : Job) : (pushJob j s).jobs = s.jobs ++ [j] := rfl
@[simp] theorem pushJob_deviceKey (j : Job) : (pushJob j s).deviceKey = s.deviceKey := rfl
@[simp] theorem pushJob_challengeCounter (j : Job) : (pushJob j s).challengeCounter = s.challengeCounter := rfl
@[simp] theorem pushJob_legs (j : Job) : (pushJob j s).legs = s.legs := rfl
@[simp] theorem pushJob_directory (j : Job) : (pushJob j s).directory = s.directory := rfl
@[simp] theorem pushJob_classes (j : Job) : (pushJob j s).classes = s.classes := rfl
@[simp] theorem pushJob_routes (j : Job) : (pushJob j s).routes = s.routes := rfl
@[simp] theorem pushJob_calls (j : Job) : (pushJob j s).calls = s.calls := rfl
@[simp] theorem pushJob_referenceCounter (j : Job) : (pushJob j s).referenceCounter = s.referenceCounter := rfl
@[simp] theorem pushJob_groups (j : Job) : (pushJob j s).groups = s.groups := rfl
@[simp] theorem pushJob_mode (j : Job) : (pushJob j s).mode = s.mode := rfl
@[simp] theorem pushJob_lock (j : Job) : (pushJob j s).lock = s.lock := rfl
@[simp] theorem pushJob_params (j : Job) : (pushJob j s).params = s.params := rfl
@[simp] theorem pushJob_silenceUsed (j : Job) : (pushJob j s).silenceUsed = s.silenceUsed := rfl
@[simp] theorem pushJob_deviceKeyUsed (j : Job) : (pushJob j s).deviceKeyUsed = s.deviceKeyUsed := rfl
@[simp] theorem pushJob_silence (j : Job) : (pushJob j s).silence = s.silence := rfl
@[simp] theorem pushJob_lastToken (j : Job) : (pushJob j s).lastToken = s.lastToken := rfl
@[simp] theorem pushJob_pending (j : Job) : (pushJob j s).pending = s.pending := rfl

/-! ### dropJob -/

@[simp] theorem dropJob_resetHeld : (dropJob s).resetHeld = s.resetHeld := rfl
@[simp] theorem dropJob_strapCode : (dropJob s).strapCode = s.strapCode := rfl
@[simp] theorem dropJob_receiver : (dropJob s).receiver = s.receiver := rfl
@[simp] theorem dropJob_requestBuffer : (dropJob s).requestBuffer = s.requestBuffer := rfl
@[simp] theorem dropJob_replyQueue : (dropJob s).replyQueue = s.replyQueue := rfl
@[simp] theorem dropJob_reportQueue : (dropJob s).reportQueue = s.reportQueue := rfl
@[simp] theorem dropJob_lostFlag : (dropJob s).lostFlag = s.lostFlag := rfl
@[simp] theorem dropJob_reportMask : (dropJob s).reportMask = s.reportMask := rfl
@[simp] theorem dropJob_transmitting : (dropJob s).transmitting = s.transmitting := rfl
@[simp] theorem dropJob_frameReference : (dropJob s).frameReference = s.frameReference := rfl
@[simp] theorem dropJob_watchRunning : (dropJob s).watchRunning = s.watchRunning := rfl
@[simp] theorem dropJob_channelTable : (dropJob s).channelTable = s.channelTable := rfl
@[simp] theorem dropJob_routedAs : (dropJob s).routedAs = s.routedAs := rfl
@[simp] theorem dropJob_heldInbound : (dropJob s).heldInbound = s.heldInbound := rfl
@[simp] theorem dropJob_heldOutbound : (dropJob s).heldOutbound = s.heldOutbound := rfl
@[simp] theorem dropJob_portTransmit : (dropJob s).portTransmit = s.portTransmit := rfl
@[simp] theorem dropJob_matrixTransmit : (dropJob s).matrixTransmit = s.matrixTransmit := rfl
@[simp] theorem dropJob_afterFrame : (dropJob s).afterFrame = s.afterFrame := rfl
@[simp] theorem dropJob_jobs : (dropJob s).jobs = s.jobs.tail := rfl
@[simp] theorem dropJob_deviceKey : (dropJob s).deviceKey = s.deviceKey := rfl
@[simp] theorem dropJob_challengeCounter : (dropJob s).challengeCounter = s.challengeCounter := rfl
@[simp] theorem dropJob_legs : (dropJob s).legs = s.legs := rfl
@[simp] theorem dropJob_directory : (dropJob s).directory = s.directory := rfl
@[simp] theorem dropJob_classes : (dropJob s).classes = s.classes := rfl
@[simp] theorem dropJob_routes : (dropJob s).routes = s.routes := rfl
@[simp] theorem dropJob_calls : (dropJob s).calls = s.calls := rfl
@[simp] theorem dropJob_referenceCounter : (dropJob s).referenceCounter = s.referenceCounter := rfl
@[simp] theorem dropJob_groups : (dropJob s).groups = s.groups := rfl
@[simp] theorem dropJob_mode : (dropJob s).mode = s.mode := rfl
@[simp] theorem dropJob_lock : (dropJob s).lock = s.lock := rfl
@[simp] theorem dropJob_params : (dropJob s).params = s.params := rfl
@[simp] theorem dropJob_silenceUsed : (dropJob s).silenceUsed = s.silenceUsed := rfl
@[simp] theorem dropJob_deviceKeyUsed : (dropJob s).deviceKeyUsed = s.deviceKeyUsed := rfl
@[simp] theorem dropJob_silence : (dropJob s).silence = s.silence := rfl
@[simp] theorem dropJob_lastToken : (dropJob s).lastToken = s.lastToken := rfl
@[simp] theorem dropJob_pending : (dropJob s).pending = s.pending := rfl

/-! ### The named reads -/

@[simp] theorem setEntry_leg_read (i : Nat) (e : Entry) (q : Nat) : (s.setEntry i e).leg q = s.leg q := rfl
@[simp] theorem setEntry_routing_read (i : Nat) (e : Entry) (q : Nat) : (s.setEntry i e).routing q = s.routing q := rfl
@[simp] theorem setEntry_classRecord_read (i : Nat) (e : Entry) (q : Nat) : (s.setEntry i e).classRecord q = s.classRecord q := rfl
@[simp] theorem setEntry_route_read (i : Nat) (e : Entry) (q : Nat) : (s.setEntry i e).route q = s.route q := rfl
@[simp] theorem setEntry_group_read (i : Nat) (e : Entry) (q : Nat) : (s.setEntry i e).group q = s.group q := rfl
@[simp] theorem setEntry_slot_read (i : Nat) (e : Entry) (q : Nat) : (s.setEntry i e).slot q = s.slot q := rfl
@[simp] theorem setEntry_call_read (i : Nat) (e : Entry) (q : Nat) : (s.setEntry i e).call q = s.call q := rfl
@[simp] theorem setEntry_openLeg_read (i : Nat) (e : Entry) (q : Nat) : (s.setEntry i e).openLeg? q = s.openLeg? q := rfl
@[simp] theorem setEntry_freeLeg_read (i : Nat) (e : Entry) : (s.setEntry i e).freeLeg = s.freeLeg := rfl
@[simp] theorem setEntry_jobPlace_read (i : Nat) (e : Entry) : (s.setEntry i e).jobPlace = s.jobPlace := rfl
@[simp] theorem setEntry_idle_read (i : Nat) (e : Entry) : (s.setEntry i e).idle = s.idle := rfl
@[simp] theorem setEntry_lockRefuses_read (i : Nat) (e : Entry) : (s.setEntry i e).lockRefuses = s.lockRefuses := rfl
@[simp] theorem setLeg_entry_read (k : Nat) (l : Leg) (q : Nat) : (s.setLeg k l).entry q = s.entry q := rfl
@[simp] theorem setLeg_routing_read (k : Nat) (l : Leg) (q : Nat) : (s.setLeg k l).routing q = s.routing q := rfl
@[simp] theorem setLeg_classRecord_read (k : Nat) (l : Leg) (q : Nat) : (s.setLeg k l).classRecord q = s.classRecord q := rfl
@[simp] theorem setLeg_route_read (k : Nat) (l : Leg) (q : Nat) : (s.setLeg k l).route q = s.route q := rfl
@[simp] theorem setLeg_group_read (k : Nat) (l : Leg) (q : Nat) : (s.setLeg k l).group q = s.group q := rfl
@[simp] theorem setLeg_slot_read (k : Nat) (l : Leg) (q : Nat) : (s.setLeg k l).slot q = s.slot q := rfl
@[simp] theorem setLeg_call_read (k : Nat) (l : Leg) (q : Nat) : (s.setLeg k l).call q = s.call q := rfl
@[simp] theorem setLeg_jobPlace_read (k : Nat) (l : Leg) : (s.setLeg k l).jobPlace = s.jobPlace := rfl
@[simp] theorem setLeg_idle_read (k : Nat) (l : Leg) : (s.setLeg k l).idle = s.idle := rfl
@[simp] theorem setLeg_lockRefuses_read (k : Nat) (l : Leg) : (s.setLeg k l).lockRefuses = s.lockRefuses := rfl
@[simp] theorem setLeg_lookupNumber_read (k : Nat) (l : Leg) (q : List Nat) : (s.setLeg k l).lookupNumber q = s.lookupNumber q := rfl
@[simp] theorem setRouting_entry_read (c : Nat) (r : Routing) (q : Nat) : (s.setRouting c r).entry q = s.entry q := rfl
@[simp] theorem setRouting_leg_read (c : Nat) (r : Routing) (q : Nat) : (s.setRouting c r).leg q = s.leg q := rfl
@[simp] theorem setRouting_classRecord_read (c : Nat) (r : Routing) (q : Nat) : (s.setRouting c r).classRecord q = s.classRecord q := rfl
@[simp] theorem setRouting_route_read (c : Nat) (r : Routing) (q : Nat) : (s.setRouting c r).route q = s.route q := rfl
@[simp] theorem setRouting_group_read (c : Nat) (r : Routing) (q : Nat) : (s.setRouting c r).group q = s.group q := rfl
@[simp] theorem setRouting_slot_read (c : Nat) (r : Routing) (q : Nat) : (s.setRouting c r).slot q = s.slot q := rfl
@[simp] theorem setRouting_call_read (c : Nat) (r : Routing) (q : Nat) : (s.setRouting c r).call q = s.call q := rfl
@[simp] theorem setRouting_openLeg_read (c : Nat) (r : Routing) (q : Nat) : (s.setRouting c r).openLeg? q = s.openLeg? q := rfl
@[simp] theorem setRouting_freeLeg_read (c : Nat) (r : Routing) : (s.setRouting c r).freeLeg = s.freeLeg := rfl
@[simp] theorem setRouting_jobPlace_read (c : Nat) (r : Routing) : (s.setRouting c r).jobPlace = s.jobPlace := rfl
@[simp] theorem setRouting_idle_read (c : Nat) (r : Routing) : (s.setRouting c r).idle = s.idle := rfl
@[simp] theorem setRouting_lockRefuses_read (c : Nat) (r : Routing) : (s.setRouting c r).lockRefuses = s.lockRefuses := rfl
@[simp] theorem setRouting_lookupNumber_read (c : Nat) (r : Routing) (q : List Nat) : (s.setRouting c r).lookupNumber q = s.lookupNumber q := rfl
@[simp] theorem setClassRecord_entry_read (c : Nat) (r : ClassRecord) (q : Nat) : (s.setClassRecord c r).entry q = s.entry q := rfl
@[simp] theorem setClassRecord_leg_read (c : Nat) (r : ClassRecord) (q : Nat) : (s.setClassRecord c r).leg q = s.leg q := rfl
@[simp] theorem setClassRecord_routing_read (c : Nat) (r : ClassRecord) (q : Nat) : (s.setClassRecord c r).routing q = s.routing q := rfl
@[simp] theorem setClassRecord_route_read (c : Nat) (r : ClassRecord) (q : Nat) : (s.setClassRecord c r).route q = s.route q := rfl
@[simp] theorem setClassRecord_group_read (c : Nat) (r : ClassRecord) (q : Nat) : (s.setClassRecord c r).group q = s.group q := rfl
@[simp] theorem setClassRecord_slot_read (c : Nat) (r : ClassRecord) (q : Nat) : (s.setClassRecord c r).slot q = s.slot q := rfl
@[simp] theorem setClassRecord_call_read (c : Nat) (r : ClassRecord) (q : Nat) : (s.setClassRecord c r).call q = s.call q := rfl
@[simp] theorem setClassRecord_openLeg_read (c : Nat) (r : ClassRecord) (q : Nat) : (s.setClassRecord c r).openLeg? q = s.openLeg? q := rfl
@[simp] theorem setClassRecord_freeLeg_read (c : Nat) (r : ClassRecord) : (s.setClassRecord c r).freeLeg = s.freeLeg := rfl
@[simp] theorem setClassRecord_jobPlace_read (c : Nat) (r : ClassRecord) : (s.setClassRecord c r).jobPlace = s.jobPlace := rfl
@[simp] theorem setClassRecord_idle_read (c : Nat) (r : ClassRecord) : (s.setClassRecord c r).idle = s.idle := rfl
@[simp] theorem setClassRecord_lockRefuses_read (c : Nat) (r : ClassRecord) : (s.setClassRecord c r).lockRefuses = s.lockRefuses := rfl
@[simp] theorem setClassRecord_lookupNumber_read (c : Nat) (r : ClassRecord) (q : List Nat) : (s.setClassRecord c r).lookupNumber q = s.lookupNumber q := rfl
@[simp] theorem setRoute_entry_read (n : Nat) (r : Option Route) (q : Nat) : (s.setRoute n r).entry q = s.entry q := rfl
@[simp] theorem setRoute_leg_read (n : Nat) (r : Option Route) (q : Nat) : (s.setRoute n r).leg q = s.leg q := rfl
@[simp] theorem setRoute_routing_read (n : Nat) (r : Option Route) (q : Nat) : (s.setRoute n r).routing q = s.routing q := rfl
@[simp] theorem setRoute_classRecord_read (n : Nat) (r : Option Route) (q : Nat) : (s.setRoute n r).classRecord q = s.classRecord q := rfl
@[simp] theorem setRoute_group_read (n : Nat) (r : Option Route) (q : Nat) : (s.setRoute n r).group q = s.group q := rfl
@[simp] theorem setRoute_slot_read (n : Nat) (r : Option Route) (q : Nat) : (s.setRoute n r).slot q = s.slot q := rfl
@[simp] theorem setRoute_call_read (n : Nat) (r : Option Route) (q : Nat) : (s.setRoute n r).call q = s.call q := rfl
@[simp] theorem setRoute_openLeg_read (n : Nat) (r : Option Route) (q : Nat) : (s.setRoute n r).openLeg? q = s.openLeg? q := rfl
@[simp] theorem setRoute_freeLeg_read (n : Nat) (r : Option Route) : (s.setRoute n r).freeLeg = s.freeLeg := rfl
@[simp] theorem setRoute_jobPlace_read (n : Nat) (r : Option Route) : (s.setRoute n r).jobPlace = s.jobPlace := rfl
@[simp] theorem setRoute_idle_read (n : Nat) (r : Option Route) : (s.setRoute n r).idle = s.idle := rfl
@[simp] theorem setRoute_lockRefuses_read (n : Nat) (r : Option Route) : (s.setRoute n r).lockRefuses = s.lockRefuses := rfl
@[simp] theorem setRoute_lookupNumber_read (n : Nat) (r : Option Route) (q : List Nat) : (s.setRoute n r).lookupNumber q = s.lookupNumber q := rfl
@[simp] theorem setGroup_entry_read (g : Nat) (r : Group) (q : Nat) : (s.setGroup g r).entry q = s.entry q := rfl
@[simp] theorem setGroup_leg_read (g : Nat) (r : Group) (q : Nat) : (s.setGroup g r).leg q = s.leg q := rfl
@[simp] theorem setGroup_routing_read (g : Nat) (r : Group) (q : Nat) : (s.setGroup g r).routing q = s.routing q := rfl
@[simp] theorem setGroup_classRecord_read (g : Nat) (r : Group) (q : Nat) : (s.setGroup g r).classRecord q = s.classRecord q := rfl
@[simp] theorem setGroup_route_read (g : Nat) (r : Group) (q : Nat) : (s.setGroup g r).route q = s.route q := rfl
@[simp] theorem setGroup_slot_read (g : Nat) (r : Group) (q : Nat) : (s.setGroup g r).slot q = s.slot q := rfl
@[simp] theorem setGroup_call_read (g : Nat) (r : Group) (q : Nat) : (s.setGroup g r).call q = s.call q := rfl
@[simp] theorem setGroup_openLeg_read (g : Nat) (r : Group) (q : Nat) : (s.setGroup g r).openLeg? q = s.openLeg? q := rfl
@[simp] theorem setGroup_freeLeg_read (g : Nat) (r : Group) : (s.setGroup g r).freeLeg = s.freeLeg := rfl
@[simp] theorem setGroup_jobPlace_read (g : Nat) (r : Group) : (s.setGroup g r).jobPlace = s.jobPlace := rfl
@[simp] theorem setGroup_idle_read (g : Nat) (r : Group) : (s.setGroup g r).idle = s.idle := rfl
@[simp] theorem setGroup_lockRefuses_read (g : Nat) (r : Group) : (s.setGroup g r).lockRefuses = s.lockRefuses := rfl
@[simp] theorem setGroup_lookupNumber_read (g : Nat) (r : Group) (q : List Nat) : (s.setGroup g r).lookupNumber q = s.lookupNumber q := rfl
@[simp] theorem setSlot_entry_read (j : Nat) (h : Option HeldRequest) (q : Nat) : (s.setSlot j h).entry q = s.entry q := rfl
@[simp] theorem setSlot_leg_read (j : Nat) (h : Option HeldRequest) (q : Nat) : (s.setSlot j h).leg q = s.leg q := rfl
@[simp] theorem setSlot_routing_read (j : Nat) (h : Option HeldRequest) (q : Nat) : (s.setSlot j h).routing q = s.routing q := rfl
@[simp] theorem setSlot_classRecord_read (j : Nat) (h : Option HeldRequest) (q : Nat) : (s.setSlot j h).classRecord q = s.classRecord q := rfl
@[simp] theorem setSlot_route_read (j : Nat) (h : Option HeldRequest) (q : Nat) : (s.setSlot j h).route q = s.route q := rfl
@[simp] theorem setSlot_group_read (j : Nat) (h : Option HeldRequest) (q : Nat) : (s.setSlot j h).group q = s.group q := rfl
@[simp] theorem setSlot_call_read (j : Nat) (h : Option HeldRequest) (q : Nat) : (s.setSlot j h).call q = s.call q := rfl
@[simp] theorem setSlot_openLeg_read (j : Nat) (h : Option HeldRequest) (q : Nat) : (s.setSlot j h).openLeg? q = s.openLeg? q := rfl
@[simp] theorem setSlot_freeLeg_read (j : Nat) (h : Option HeldRequest) : (s.setSlot j h).freeLeg = s.freeLeg := rfl
@[simp] theorem setSlot_jobPlace_read (j : Nat) (h : Option HeldRequest) : (s.setSlot j h).jobPlace = s.jobPlace := rfl
@[simp] theorem setSlot_idle_read (j : Nat) (h : Option HeldRequest) : (s.setSlot j h).idle = s.idle := rfl
@[simp] theorem setSlot_lockRefuses_read (j : Nat) (h : Option HeldRequest) : (s.setSlot j h).lockRefuses = s.lockRefuses := rfl
@[simp] theorem setSlot_lookupNumber_read (j : Nat) (h : Option HeldRequest) (q : List Nat) : (s.setSlot j h).lookupNumber q = s.lookupNumber q := rfl
@[simp] theorem updateCall_entry_read (r : Nat) (f : Call → Call) (q : Nat) : (s.updateCall r f).entry q = s.entry q := rfl
@[simp] theorem updateCall_leg_read (r : Nat) (f : Call → Call) (q : Nat) : (s.updateCall r f).leg q = s.leg q := rfl
@[simp] theorem updateCall_routing_read (r : Nat) (f : Call → Call) (q : Nat) : (s.updateCall r f).routing q = s.routing q := rfl
@[simp] theorem updateCall_classRecord_read (r : Nat) (f : Call → Call) (q : Nat) : (s.updateCall r f).classRecord q = s.classRecord q := rfl
@[simp] theorem updateCall_route_read (r : Nat) (f : Call → Call) (q : Nat) : (s.updateCall r f).route q = s.route q := rfl
@[simp] theorem updateCall_group_read (r : Nat) (f : Call → Call) (q : Nat) : (s.updateCall r f).group q = s.group q := rfl
@[simp] theorem updateCall_slot_read (r : Nat) (f : Call → Call) (q : Nat) : (s.updateCall r f).slot q = s.slot q := rfl
@[simp] theorem updateCall_openLeg_read (r : Nat) (f : Call → Call) (q : Nat) : (s.updateCall r f).openLeg? q = s.openLeg? q := rfl
@[simp] theorem updateCall_freeLeg_read (r : Nat) (f : Call → Call) : (s.updateCall r f).freeLeg = s.freeLeg := rfl
@[simp] theorem updateCall_jobPlace_read (r : Nat) (f : Call → Call) : (s.updateCall r f).jobPlace = s.jobPlace := rfl
@[simp] theorem updateCall_idle_read (r : Nat) (f : Call → Call) : (s.updateCall r f).idle = s.idle := rfl
@[simp] theorem updateCall_lockRefuses_read (r : Nat) (f : Call → Call) : (s.updateCall r f).lockRefuses = s.lockRefuses := rfl
@[simp] theorem updateCall_lookupNumber_read (r : Nat) (f : Call → Call) (q : List Nat) : (s.updateCall r f).lookupNumber q = s.lookupNumber q := rfl
@[simp] theorem pushJob_entry_read (j : Job) (q : Nat) : (pushJob j s).entry q = s.entry q := rfl
@[simp] theorem pushJob_leg_read (j : Job) (q : Nat) : (pushJob j s).leg q = s.leg q := rfl
@[simp] theorem pushJob_routing_read (j : Job) (q : Nat) : (pushJob j s).routing q = s.routing q := rfl
@[simp] theorem pushJob_classRecord_read (j : Job) (q : Nat) : (pushJob j s).classRecord q = s.classRecord q := rfl
@[simp] theorem pushJob_route_read (j : Job) (q : Nat) : (pushJob j s).route q = s.route q := rfl
@[simp] theorem pushJob_group_read (j : Job) (q : Nat) : (pushJob j s).group q = s.group q := rfl
@[simp] theorem pushJob_slot_read (j : Job) (q : Nat) : (pushJob j s).slot q = s.slot q := rfl
@[simp] theorem pushJob_call_read (j : Job) (q : Nat) : (pushJob j s).call q = s.call q := rfl
@[simp] theorem pushJob_openLeg_read (j : Job) (q : Nat) : (pushJob j s).openLeg? q = s.openLeg? q := rfl
@[simp] theorem pushJob_freeLeg_read (j : Job) : (pushJob j s).freeLeg = s.freeLeg := rfl
@[simp] theorem pushJob_idle_read (j : Job) : (pushJob j s).idle = s.idle := rfl
@[simp] theorem pushJob_lockRefuses_read (j : Job) : (pushJob j s).lockRefuses = s.lockRefuses := rfl
@[simp] theorem pushJob_lookupNumber_read (j : Job) (q : List Nat) : (pushJob j s).lookupNumber q = s.lookupNumber q := rfl
@[simp] theorem dropJob_entry_read (q : Nat) : (dropJob s).entry q = s.entry q := rfl
@[simp] theorem dropJob_leg_read (q : Nat) : (dropJob s).leg q = s.leg q := rfl
@[simp] theorem dropJob_routing_read (q : Nat) : (dropJob s).routing q = s.routing q := rfl
@[simp] theorem dropJob_classRecord_read (q : Nat) : (dropJob s).classRecord q = s.classRecord q := rfl
@[simp] theorem dropJob_route_read (q : Nat) : (dropJob s).route q = s.route q := rfl
@[simp] theorem dropJob_group_read (q : Nat) : (dropJob s).group q = s.group q := rfl
@[simp] theorem dropJob_slot_read (q : Nat) : (dropJob s).slot q = s.slot q := rfl
@[simp] theorem dropJob_call_read (q : Nat) : (dropJob s).call q = s.call q := rfl
@[simp] theorem dropJob_openLeg_read (q : Nat) : (dropJob s).openLeg? q = s.openLeg? q := rfl
@[simp] theorem dropJob_freeLeg_read : (dropJob s).freeLeg = s.freeLeg := rfl
@[simp] theorem dropJob_idle_read : (dropJob s).idle = s.idle := rfl
@[simp] theorem dropJob_lockRefuses_read : (dropJob s).lockRefuses = s.lockRefuses := rfl
@[simp] theorem dropJob_lookupNumber_read (q : List Nat) : (dropJob s).lookupNumber q = s.lookupNumber q := rfl

end Sys2Proof.Machine
end

