-- ==== Sys2Proof/Laws/Tables.lean ====
section
/-! SUPPORT. What reading gives after writing, filling and mapping a table, and what `lowest` finds. -/

namespace Sys2Proof.Machine

variable {α β : Type} {n : Nat}

theorem readAt_writeAt_self (t : Table α n) (d a : α) (i : Nat) (h : i < n) : readAt (writeAt t i a) d i = a := by
  simp [readAt, writeAt, h]

@[simp] theorem readAt_writeAt_ne (t : Table α n) (d a : α) (i j : Nat) (h : i ≠ j) :
    readAt (writeAt t i a) d j = readAt t d j := by
  simp [readAt, writeAt, List.getD, List.getElem?_set_ne h]

/-- Reading after a write, at any place: the value written, where the place exists and is the one written. -/
theorem readAt_writeAt (t : Table α n) (d a : α) (i j : Nat) :
    readAt (writeAt t i a) d j = if i = j ∧ i < n then a else readAt t d j := by
  by_cases h : i = j
  · subst h
    by_cases hn : i < n
    · simp [hn, readAt_writeAt_self]
    · simp [readAt, writeAt, hn]
  · simp [h]

theorem writeAt_of_le (t : Table α n) (a : α) (i : Nat) (h : n ≤ i) : writeAt t i a = t := by
  apply Vector.toList_inj.mp
  simp [writeAt, List.set_eq_of_length_le, h]

@[simp] theorem writeAt_writeAt (t : Table α n) (i : Nat) (a b : α) : writeAt (writeAt t i a) i b = writeAt t i b := by
  apply Vector.toList_inj.mp
  simp [writeAt]

theorem writeAt_comm (t : Table α n) (i j : Nat) (a b : α) (h : i ≠ j) :
    writeAt (writeAt t i a) j b = writeAt (writeAt t j b) i a := by
  apply Vector.toList_inj.mp
  simp [writeAt, List.set_comm a b h]

@[simp] theorem readAt_fillTable (a d : α) (i : Nat) : readAt (fillTable n a) d i = if i < n then a else d := by
  by_cases h : i < n <;> simp [readAt, fillTable, List.getD, h]

theorem readAt_mapTable (f : α → β) (t : Table α n) (d : α) (e : β) (i : Nat) (h : i < n) :
    readAt (mapTable f t) e i = f (readAt t d i) := by
  simp [readAt, mapTable, h]

theorem readAt_of_le (t : Table α n) (d : α) (i : Nat) (h : n ≤ i) : readAt t d i = d := by
  simp [readAt, h]

/-- Two tables that read alike at every place are the same table. -/
theorem table_ext (t u : Table α n) (d : α) (h : ∀ i < n, readAt t d i = readAt u d i) : t = u := by
  apply Vector.ext
  intro i hi
  simpa [readAt, hi] using h i hi

theorem mem_placesFrom (p : α → Bool) (d : α) (l : List α) (k i : Nat) :
    i ∈ placesFrom p k l ↔ k ≤ i ∧ i < k + l.length ∧ p (l.getD (i - k) d) = true := by
  induction l generalizing k with
  | nil => simp only [placesFrom, List.not_mem_nil, List.length_nil, false_iff, not_and]; omega
  | cons a l ih =>
    have step : i ∈ placesFrom p (k + 1) l ↔ k + 1 ≤ i ∧ i < k + (l.length + 1) ∧
        p ((a :: l).getD (i - k) d) = true := by
      rw [ih]
      by_cases hk : k + 1 ≤ i
      · have e : i - k = (i - (k + 1)) + 1 := by omega
        rw [e, List.getD_cons_succ]
        constructor <;> rintro ⟨h1, h2, h3⟩ <;> exact ⟨h1, by omega, h3⟩
      · constructor <;> rintro ⟨h1, _⟩ <;> omega
    by_cases hk : i = k
    · subst hk
      have : ¬ i + 1 ≤ i := by omega
      simp only [placesFrom]
      by_cases hp : p a = true <;> simp [hp, step]
    · have e : i ∈ placesFrom p k (a :: l) ↔ i ∈ placesFrom p (k + 1) l := by
        simp only [placesFrom]; split <;> simp [hk]
      rw [e, step, List.length_cons]
      constructor <;> rintro ⟨h1, h2, h3⟩ <;> exact ⟨by omega, h2, h3⟩

/-- The places of a table that satisfy `p`. -/
theorem mem_places (p : α → Bool) (d : α) (t : Table α n) (i : Nat) :
    i ∈ places p t ↔ i < n ∧ p (readAt t d i) = true := by
  rw [places, mem_placesFrom p d]
  simp [readAt]

theorem lowest_eq_none (p : α → Bool) (d : α) (t : Table α n) :
    lowest p t = none ↔ ∀ i < n, p (readAt t d i) = false := by
  rw [lowest, List.head?_eq_none_iff, List.eq_nil_iff_forall_not_mem]
  simp [mem_places p d]

/-- What `lowest` finds is a place of the table whose record satisfies `p`. -/
theorem lowest_spec (p : α → Bool) (d : α) (t : Table α n) (i : Nat) (h : lowest p t = some i) :
    i < n ∧ p (readAt t d i) = true :=
  (mem_places p d t i).mp (List.mem_of_head? h)

theorem placesFrom_sorted (p : α → Bool) (l : List α) (k : Nat) : (placesFrom p k l).Pairwise (· < ·) := by
  induction l generalizing k with
  | nil => simp [placesFrom]
  | cons a l ih =>
    simp only [placesFrom]
    split
    · refine List.pairwise_cons.mpr ⟨fun i hi => ?_, ih (k + 1)⟩
      have := (mem_placesFrom p a l (k + 1) i).mp hi
      omega
    · exact ih (k + 1)

/-- No place below the one that `lowest` finds satisfies `p`. -/
theorem lowest_least (p : α → Bool) (d : α) (t : Table α n) (i j : Nat) (h : lowest p t = some i) (hj : j < i) :
    p (readAt t d j) = false := by
  by_contra hp
  have hi := lowest_spec p d t i h
  have hm : j ∈ places p t := (mem_places p d t j).mpr ⟨by omega, by simpa using hp⟩
  have hs := placesFrom_sorted p t.toList 0
  rw [lowest] at h
  unfold places at h hm
  cases hq : placesFrom p 0 t.toList with
  | nil => simp [hq] at h
  | cons a l =>
    rw [hq] at h hm hs
    have ha : a = i := by simpa using h
    rcases List.mem_cons.mp hm with rfl | hl
    · omega
    · have := (List.pairwise_cons.mp hs).1 j hl; omega

end Sys2Proof.Machine
end

