-- ==== Sys2Proof/Laws/Frames.lean ====
section
/-! SUPPORT. The frame of every shared operation: the fields of the state it never touches, each said once and used by
simp in every later proof. -/

namespace Sys2Proof.Machine

set_option linter.unusedSimpArgs false

/-- What transmitNext never touches. -/
@[simp] theorem transmitNext_keeps (s : State) :
    (transmitNext s).resetHeld = s.resetHeld ∧ (transmitNext s).strapCode = s.strapCode ∧ (transmitNext s).receiver = s.receiver ∧
    (transmitNext s).requestBuffer = s.requestBuffer ∧ (transmitNext s).lostFlag = s.lostFlag ∧ (transmitNext s).reportMask = s.reportMask ∧
    (transmitNext s).frameReference = s.frameReference ∧ (transmitNext s).watchRunning = s.watchRunning ∧ (transmitNext s).channelTable = s.channelTable ∧
    (transmitNext s).routedAs = s.routedAs ∧ (transmitNext s).heldInbound = s.heldInbound ∧ (transmitNext s).heldOutbound = s.heldOutbound ∧
    (transmitNext s).portTransmit = s.portTransmit ∧ (transmitNext s).matrixTransmit = s.matrixTransmit ∧ (transmitNext s).afterFrame = s.afterFrame ∧
    (transmitNext s).jobs = s.jobs ∧ (transmitNext s).deviceKey = s.deviceKey ∧ (transmitNext s).challengeCounter = s.challengeCounter ∧
    (transmitNext s).legs = s.legs ∧ (transmitNext s).directory = s.directory ∧ (transmitNext s).classes = s.classes ∧
    (transmitNext s).routes = s.routes ∧ (transmitNext s).calls = s.calls ∧ (transmitNext s).referenceCounter = s.referenceCounter ∧
    (transmitNext s).groups = s.groups ∧ (transmitNext s).mode = s.mode ∧ (transmitNext s).lock = s.lock ∧
    (transmitNext s).params = s.params ∧ (transmitNext s).silenceUsed = s.silenceUsed ∧ (transmitNext s).deviceKeyUsed = s.deviceKeyUsed ∧
    (transmitNext s).silence = s.silence ∧ (transmitNext s).lastToken = s.lastToken ∧ (transmitNext s).pending = s.pending := by
  unfold transmitNext
  (repeat' split) <;> simp

/-- What queueReport never touches. -/
@[simp] theorem queueReport_keeps (r : Report) (s : State) :
    (queueReport r s).resetHeld = s.resetHeld ∧ (queueReport r s).strapCode = s.strapCode ∧ (queueReport r s).receiver = s.receiver ∧
    (queueReport r s).requestBuffer = s.requestBuffer ∧ (queueReport r s).reportMask = s.reportMask ∧ (queueReport r s).frameReference = s.frameReference ∧
    (queueReport r s).watchRunning = s.watchRunning ∧ (queueReport r s).channelTable = s.channelTable ∧ (queueReport r s).routedAs = s.routedAs ∧
    (queueReport r s).heldInbound = s.heldInbound ∧ (queueReport r s).heldOutbound = s.heldOutbound ∧ (queueReport r s).portTransmit = s.portTransmit ∧
    (queueReport r s).matrixTransmit = s.matrixTransmit ∧ (queueReport r s).afterFrame = s.afterFrame ∧ (queueReport r s).jobs = s.jobs ∧
    (queueReport r s).deviceKey = s.deviceKey ∧ (queueReport r s).challengeCounter = s.challengeCounter ∧ (queueReport r s).legs = s.legs ∧
    (queueReport r s).directory = s.directory ∧ (queueReport r s).classes = s.classes ∧ (queueReport r s).routes = s.routes ∧
    (queueReport r s).calls = s.calls ∧ (queueReport r s).referenceCounter = s.referenceCounter ∧ (queueReport r s).groups = s.groups ∧
    (queueReport r s).mode = s.mode ∧ (queueReport r s).lock = s.lock ∧ (queueReport r s).params = s.params ∧
    (queueReport r s).silenceUsed = s.silenceUsed ∧ (queueReport r s).deviceKeyUsed = s.deviceKeyUsed ∧ (queueReport r s).silence = s.silence ∧
    (queueReport r s).lastToken = s.lastToken ∧ (queueReport r s).pending = s.pending := by
  unfold queueReport
  (repeat' split) <;> simp

/-- What formReply never touches. -/
@[simp] theorem formReply_keeps (r : Reply) (s : State) :
    (formReply r s).resetHeld = s.resetHeld ∧ (formReply r s).strapCode = s.strapCode ∧ (formReply r s).receiver = s.receiver ∧
    (formReply r s).requestBuffer = s.requestBuffer ∧ (formReply r s).lostFlag = s.lostFlag ∧ (formReply r s).reportMask = s.reportMask ∧
    (formReply r s).frameReference = s.frameReference ∧ (formReply r s).watchRunning = s.watchRunning ∧ (formReply r s).channelTable = s.channelTable ∧
    (formReply r s).routedAs = s.routedAs ∧ (formReply r s).heldInbound = s.heldInbound ∧ (formReply r s).heldOutbound = s.heldOutbound ∧
    (formReply r s).portTransmit = s.portTransmit ∧ (formReply r s).matrixTransmit = s.matrixTransmit ∧ (formReply r s).afterFrame = s.afterFrame ∧
    (formReply r s).jobs = s.jobs ∧ (formReply r s).deviceKey = s.deviceKey ∧ (formReply r s).challengeCounter = s.challengeCounter ∧
    (formReply r s).legs = s.legs ∧ (formReply r s).directory = s.directory ∧ (formReply r s).classes = s.classes ∧
    (formReply r s).routes = s.routes ∧ (formReply r s).calls = s.calls ∧ (formReply r s).referenceCounter = s.referenceCounter ∧
    (formReply r s).groups = s.groups ∧ (formReply r s).mode = s.mode ∧ (formReply r s).lock = s.lock ∧
    (formReply r s).params = s.params ∧ (formReply r s).silenceUsed = s.silenceUsed ∧ (formReply r s).deviceKeyUsed = s.deviceKeyUsed ∧
    (formReply r s).silence = s.silence ∧ (formReply r s).lastToken = s.lastToken ∧ (formReply r s).pending = s.pending := by
  simp [formReply]

/-- What queueReports never touches. -/
@[simp] theorem queueReports_keeps (rs : List Report) (s : State) :
    (queueReports rs s).resetHeld = s.resetHeld ∧ (queueReports rs s).strapCode = s.strapCode ∧ (queueReports rs s).receiver = s.receiver ∧
    (queueReports rs s).requestBuffer = s.requestBuffer ∧ (queueReports rs s).reportMask = s.reportMask ∧ (queueReports rs s).frameReference = s.frameReference ∧
    (queueReports rs s).watchRunning = s.watchRunning ∧ (queueReports rs s).channelTable = s.channelTable ∧ (queueReports rs s).routedAs = s.routedAs ∧
    (queueReports rs s).heldInbound = s.heldInbound ∧ (queueReports rs s).heldOutbound = s.heldOutbound ∧ (queueReports rs s).portTransmit = s.portTransmit ∧
    (queueReports rs s).matrixTransmit = s.matrixTransmit ∧ (queueReports rs s).afterFrame = s.afterFrame ∧ (queueReports rs s).jobs = s.jobs ∧
    (queueReports rs s).deviceKey = s.deviceKey ∧ (queueReports rs s).challengeCounter = s.challengeCounter ∧ (queueReports rs s).legs = s.legs ∧
    (queueReports rs s).directory = s.directory ∧ (queueReports rs s).classes = s.classes ∧ (queueReports rs s).routes = s.routes ∧
    (queueReports rs s).calls = s.calls ∧ (queueReports rs s).referenceCounter = s.referenceCounter ∧ (queueReports rs s).groups = s.groups ∧
    (queueReports rs s).mode = s.mode ∧ (queueReports rs s).lock = s.lock ∧ (queueReports rs s).params = s.params ∧
    (queueReports rs s).silenceUsed = s.silenceUsed ∧ (queueReports rs s).deviceKeyUsed = s.deviceKeyUsed ∧ (queueReports rs s).silence = s.silence ∧
    (queueReports rs s).lastToken = s.lastToken ∧ (queueReports rs s).pending = s.pending := by
  induction rs generalizing s with
  | nil => simp [queueReports]
  | cons r rs ih => simpa [queueReports] using ih (queueReport r s)

/-- What answerDeferred never touches. -/
@[simp] theorem answerDeferred_keeps (kind : Byte) (i : Nat) (st : Status) (body : List Byte) (s : State) :
    (answerDeferred kind i st body s).resetHeld = s.resetHeld ∧ (answerDeferred kind i st body s).strapCode = s.strapCode ∧ (answerDeferred kind i st body s).receiver = s.receiver ∧
    (answerDeferred kind i st body s).lostFlag = s.lostFlag ∧ (answerDeferred kind i st body s).reportMask = s.reportMask ∧ (answerDeferred kind i st body s).frameReference = s.frameReference ∧
    (answerDeferred kind i st body s).watchRunning = s.watchRunning ∧ (answerDeferred kind i st body s).channelTable = s.channelTable ∧ (answerDeferred kind i st body s).routedAs = s.routedAs ∧
    (answerDeferred kind i st body s).heldInbound = s.heldInbound ∧ (answerDeferred kind i st body s).heldOutbound = s.heldOutbound ∧ (answerDeferred kind i st body s).portTransmit = s.portTransmit ∧
    (answerDeferred kind i st body s).matrixTransmit = s.matrixTransmit ∧ (answerDeferred kind i st body s).afterFrame = s.afterFrame ∧ (answerDeferred kind i st body s).jobs = s.jobs ∧
    (answerDeferred kind i st body s).deviceKey = s.deviceKey ∧ (answerDeferred kind i st body s).challengeCounter = s.challengeCounter ∧ (answerDeferred kind i st body s).legs = s.legs ∧
    (answerDeferred kind i st body s).directory = s.directory ∧ (answerDeferred kind i st body s).classes = s.classes ∧ (answerDeferred kind i st body s).routes = s.routes ∧
    (answerDeferred kind i st body s).calls = s.calls ∧ (answerDeferred kind i st body s).referenceCounter = s.referenceCounter ∧ (answerDeferred kind i st body s).groups = s.groups ∧
    (answerDeferred kind i st body s).mode = s.mode ∧ (answerDeferred kind i st body s).lock = s.lock ∧ (answerDeferred kind i st body s).params = s.params ∧
    (answerDeferred kind i st body s).silenceUsed = s.silenceUsed ∧ (answerDeferred kind i st body s).deviceKeyUsed = s.deviceKeyUsed ∧ (answerDeferred kind i st body s).silence = s.silence ∧
    (answerDeferred kind i st body s).lastToken = s.lastToken ∧ (answerDeferred kind i st body s).pending = s.pending := by
  unfold answerDeferred
  (repeat' split) <;> simp

/-- What reserveLeg never touches. -/
@[simp] theorem reserveLeg_keeps (o : Owner) (s : State) :
    (reserveLeg o s).1.resetHeld = s.resetHeld ∧ (reserveLeg o s).1.strapCode = s.strapCode ∧ (reserveLeg o s).1.receiver = s.receiver ∧
    (reserveLeg o s).1.requestBuffer = s.requestBuffer ∧ (reserveLeg o s).1.replyQueue = s.replyQueue ∧ (reserveLeg o s).1.reportQueue = s.reportQueue ∧
    (reserveLeg o s).1.lostFlag = s.lostFlag ∧ (reserveLeg o s).1.reportMask = s.reportMask ∧ (reserveLeg o s).1.transmitting = s.transmitting ∧
    (reserveLeg o s).1.frameReference = s.frameReference ∧ (reserveLeg o s).1.watchRunning = s.watchRunning ∧ (reserveLeg o s).1.channelTable = s.channelTable ∧
    (reserveLeg o s).1.routedAs = s.routedAs ∧ (reserveLeg o s).1.heldInbound = s.heldInbound ∧ (reserveLeg o s).1.heldOutbound = s.heldOutbound ∧
    (reserveLeg o s).1.portTransmit = s.portTransmit ∧ (reserveLeg o s).1.matrixTransmit = s.matrixTransmit ∧ (reserveLeg o s).1.afterFrame = s.afterFrame ∧
    (reserveLeg o s).1.jobs = s.jobs ∧ (reserveLeg o s).1.deviceKey = s.deviceKey ∧ (reserveLeg o s).1.challengeCounter = s.challengeCounter ∧
    (reserveLeg o s).1.classes = s.classes ∧ (reserveLeg o s).1.routes = s.routes ∧ (reserveLeg o s).1.calls = s.calls ∧
    (reserveLeg o s).1.referenceCounter = s.referenceCounter ∧ (reserveLeg o s).1.groups = s.groups ∧ (reserveLeg o s).1.mode = s.mode ∧
    (reserveLeg o s).1.lock = s.lock ∧ (reserveLeg o s).1.params = s.params ∧ (reserveLeg o s).1.silenceUsed = s.silenceUsed ∧
    (reserveLeg o s).1.deviceKeyUsed = s.deviceKeyUsed ∧ (reserveLeg o s).1.silence = s.silence ∧ (reserveLeg o s).1.lastToken = s.lastToken ∧
    (reserveLeg o s).1.pending = s.pending := by
  unfold reserveLeg
  (repeat' split) <;> simp

/-- What reserveIf never touches. -/
@[simp] theorem reserveIf_keeps (b : Bool) (o : Owner) (s : State) :
    (reserveIf b o s).1.resetHeld = s.resetHeld ∧ (reserveIf b o s).1.strapCode = s.strapCode ∧ (reserveIf b o s).1.receiver = s.receiver ∧
    (reserveIf b o s).1.requestBuffer = s.requestBuffer ∧ (reserveIf b o s).1.replyQueue = s.replyQueue ∧ (reserveIf b o s).1.reportQueue = s.reportQueue ∧
    (reserveIf b o s).1.lostFlag = s.lostFlag ∧ (reserveIf b o s).1.reportMask = s.reportMask ∧ (reserveIf b o s).1.transmitting = s.transmitting ∧
    (reserveIf b o s).1.frameReference = s.frameReference ∧ (reserveIf b o s).1.watchRunning = s.watchRunning ∧ (reserveIf b o s).1.channelTable = s.channelTable ∧
    (reserveIf b o s).1.routedAs = s.routedAs ∧ (reserveIf b o s).1.heldInbound = s.heldInbound ∧ (reserveIf b o s).1.heldOutbound = s.heldOutbound ∧
    (reserveIf b o s).1.portTransmit = s.portTransmit ∧ (reserveIf b o s).1.matrixTransmit = s.matrixTransmit ∧ (reserveIf b o s).1.afterFrame = s.afterFrame ∧
    (reserveIf b o s).1.jobs = s.jobs ∧ (reserveIf b o s).1.deviceKey = s.deviceKey ∧ (reserveIf b o s).1.challengeCounter = s.challengeCounter ∧
    (reserveIf b o s).1.classes = s.classes ∧ (reserveIf b o s).1.routes = s.routes ∧ (reserveIf b o s).1.calls = s.calls ∧
    (reserveIf b o s).1.referenceCounter = s.referenceCounter ∧ (reserveIf b o s).1.groups = s.groups ∧ (reserveIf b o s).1.mode = s.mode ∧
    (reserveIf b o s).1.lock = s.lock ∧ (reserveIf b o s).1.params = s.params ∧ (reserveIf b o s).1.silenceUsed = s.silenceUsed ∧
    (reserveIf b o s).1.deviceKeyUsed = s.deviceKeyUsed ∧ (reserveIf b o s).1.silence = s.silence ∧ (reserveIf b o s).1.lastToken = s.lastToken ∧
    (reserveIf b o s).1.pending = s.pending := by
  unfold reserveIf
  (repeat' split) <;> simp

/-- What freeTheLeg never touches. -/
@[simp] theorem freeTheLeg_keeps (k : Nat) (s : State) :
    (freeTheLeg k s).resetHeld = s.resetHeld ∧ (freeTheLeg k s).strapCode = s.strapCode ∧ (freeTheLeg k s).receiver = s.receiver ∧
    (freeTheLeg k s).requestBuffer = s.requestBuffer ∧ (freeTheLeg k s).replyQueue = s.replyQueue ∧ (freeTheLeg k s).reportQueue = s.reportQueue ∧
    (freeTheLeg k s).lostFlag = s.lostFlag ∧ (freeTheLeg k s).reportMask = s.reportMask ∧ (freeTheLeg k s).transmitting = s.transmitting ∧
    (freeTheLeg k s).frameReference = s.frameReference ∧ (freeTheLeg k s).watchRunning = s.watchRunning ∧ (freeTheLeg k s).routedAs = s.routedAs ∧
    (freeTheLeg k s).heldInbound = s.heldInbound ∧ (freeTheLeg k s).heldOutbound = s.heldOutbound ∧ (freeTheLeg k s).portTransmit = s.portTransmit ∧
    (freeTheLeg k s).matrixTransmit = s.matrixTransmit ∧ (freeTheLeg k s).afterFrame = s.afterFrame ∧ (freeTheLeg k s).jobs = s.jobs ∧
    (freeTheLeg k s).deviceKey = s.deviceKey ∧ (freeTheLeg k s).challengeCounter = s.challengeCounter ∧ (freeTheLeg k s).classes = s.classes ∧
    (freeTheLeg k s).routes = s.routes ∧ (freeTheLeg k s).calls = s.calls ∧ (freeTheLeg k s).referenceCounter = s.referenceCounter ∧
    (freeTheLeg k s).groups = s.groups ∧ (freeTheLeg k s).mode = s.mode ∧ (freeTheLeg k s).lock = s.lock ∧
    (freeTheLeg k s).params = s.params ∧ (freeTheLeg k s).silenceUsed = s.silenceUsed ∧ (freeTheLeg k s).deviceKeyUsed = s.deviceKeyUsed ∧
    (freeTheLeg k s).silence = s.silence ∧ (freeTheLeg k s).lastToken = s.lastToken ∧ (freeTheLeg k s).pending = s.pending := by
  unfold freeTheLeg
  dsimp only
  (repeat' split) <;> simp

/-- What updateOpen never touches. -/
@[simp] theorem updateOpen_keeps (k : Nat) (f : OpenLeg → OpenLeg) (s : State) :
    (s.updateOpen k f).resetHeld = s.resetHeld ∧ (s.updateOpen k f).strapCode = s.strapCode ∧ (s.updateOpen k f).receiver = s.receiver ∧
    (s.updateOpen k f).requestBuffer = s.requestBuffer ∧ (s.updateOpen k f).replyQueue = s.replyQueue ∧ (s.updateOpen k f).reportQueue = s.reportQueue ∧
    (s.updateOpen k f).lostFlag = s.lostFlag ∧ (s.updateOpen k f).reportMask = s.reportMask ∧ (s.updateOpen k f).transmitting = s.transmitting ∧
    (s.updateOpen k f).frameReference = s.frameReference ∧ (s.updateOpen k f).watchRunning = s.watchRunning ∧ (s.updateOpen k f).channelTable = s.channelTable ∧
    (s.updateOpen k f).routedAs = s.routedAs ∧ (s.updateOpen k f).heldInbound = s.heldInbound ∧ (s.updateOpen k f).heldOutbound = s.heldOutbound ∧
    (s.updateOpen k f).portTransmit = s.portTransmit ∧ (s.updateOpen k f).matrixTransmit = s.matrixTransmit ∧ (s.updateOpen k f).afterFrame = s.afterFrame ∧
    (s.updateOpen k f).jobs = s.jobs ∧ (s.updateOpen k f).deviceKey = s.deviceKey ∧ (s.updateOpen k f).challengeCounter = s.challengeCounter ∧
    (s.updateOpen k f).directory = s.directory ∧ (s.updateOpen k f).classes = s.classes ∧ (s.updateOpen k f).routes = s.routes ∧
    (s.updateOpen k f).calls = s.calls ∧ (s.updateOpen k f).referenceCounter = s.referenceCounter ∧ (s.updateOpen k f).groups = s.groups ∧
    (s.updateOpen k f).mode = s.mode ∧ (s.updateOpen k f).lock = s.lock ∧ (s.updateOpen k f).params = s.params ∧
    (s.updateOpen k f).silenceUsed = s.silenceUsed ∧ (s.updateOpen k f).deviceKeyUsed = s.deviceKeyUsed ∧ (s.updateOpen k f).silence = s.silence ∧
    (s.updateOpen k f).lastToken = s.lastToken ∧ (s.updateOpen k f).pending = s.pending := by
  unfold State.updateOpen
  (repeat' split) <;> simp

/-- What placeEpochJob never touches. -/
@[simp] theorem placeEpochJob_keeps (k : Nat) (d : Direction) (sk : Key) (e : Long) (s : State) :
    (placeEpochJob k d sk e s).resetHeld = s.resetHeld ∧ (placeEpochJob k d sk e s).strapCode = s.strapCode ∧ (placeEpochJob k d sk e s).receiver = s.receiver ∧
    (placeEpochJob k d sk e s).requestBuffer = s.requestBuffer ∧ (placeEpochJob k d sk e s).replyQueue = s.replyQueue ∧ (placeEpochJob k d sk e s).reportQueue = s.reportQueue ∧
    (placeEpochJob k d sk e s).lostFlag = s.lostFlag ∧ (placeEpochJob k d sk e s).reportMask = s.reportMask ∧ (placeEpochJob k d sk e s).transmitting = s.transmitting ∧
    (placeEpochJob k d sk e s).frameReference = s.frameReference ∧ (placeEpochJob k d sk e s).watchRunning = s.watchRunning ∧ (placeEpochJob k d sk e s).channelTable = s.channelTable ∧
    (placeEpochJob k d sk e s).routedAs = s.routedAs ∧ (placeEpochJob k d sk e s).heldInbound = s.heldInbound ∧ (placeEpochJob k d sk e s).heldOutbound = s.heldOutbound ∧
    (placeEpochJob k d sk e s).portTransmit = s.portTransmit ∧ (placeEpochJob k d sk e s).matrixTransmit = s.matrixTransmit ∧ (placeEpochJob k d sk e s).afterFrame = s.afterFrame ∧
    (placeEpochJob k d sk e s).deviceKey = s.deviceKey ∧ (placeEpochJob k d sk e s).challengeCounter = s.challengeCounter ∧ (placeEpochJob k d sk e s).directory = s.directory ∧
    (placeEpochJob k d sk e s).classes = s.classes ∧ (placeEpochJob k d sk e s).routes = s.routes ∧ (placeEpochJob k d sk e s).calls = s.calls ∧
    (placeEpochJob k d sk e s).referenceCounter = s.referenceCounter ∧ (placeEpochJob k d sk e s).groups = s.groups ∧ (placeEpochJob k d sk e s).mode = s.mode ∧
    (placeEpochJob k d sk e s).lock = s.lock ∧ (placeEpochJob k d sk e s).params = s.params ∧ (placeEpochJob k d sk e s).silenceUsed = s.silenceUsed ∧
    (placeEpochJob k d sk e s).deviceKeyUsed = s.deviceKeyUsed ∧ (placeEpochJob k d sk e s).silence = s.silence ∧ (placeEpochJob k d sk e s).lastToken = s.lastToken ∧
    (placeEpochJob k d sk e s).pending = s.pending := by
  unfold placeEpochJob
  (repeat' split) <;> simp

/-- What offerEpoch never touches. -/
@[simp] theorem offerEpoch_keeps (k : Nat) (d : Direction) (s : State) :
    (offerEpoch k d s).resetHeld = s.resetHeld ∧ (offerEpoch k d s).strapCode = s.strapCode ∧ (offerEpoch k d s).receiver = s.receiver ∧
    (offerEpoch k d s).requestBuffer = s.requestBuffer ∧ (offerEpoch k d s).replyQueue = s.replyQueue ∧ (offerEpoch k d s).reportQueue = s.reportQueue ∧
    (offerEpoch k d s).lostFlag = s.lostFlag ∧ (offerEpoch k d s).reportMask = s.reportMask ∧ (offerEpoch k d s).transmitting = s.transmitting ∧
    (offerEpoch k d s).frameReference = s.frameReference ∧ (offerEpoch k d s).watchRunning = s.watchRunning ∧ (offerEpoch k d s).channelTable = s.channelTable ∧
    (offerEpoch k d s).routedAs = s.routedAs ∧ (offerEpoch k d s).heldInbound = s.heldInbound ∧ (offerEpoch k d s).heldOutbound = s.heldOutbound ∧
    (offerEpoch k d s).portTransmit = s.portTransmit ∧ (offerEpoch k d s).matrixTransmit = s.matrixTransmit ∧ (offerEpoch k d s).afterFrame = s.afterFrame ∧
    (offerEpoch k d s).deviceKey = s.deviceKey ∧ (offerEpoch k d s).challengeCounter = s.challengeCounter ∧ (offerEpoch k d s).directory = s.directory ∧
    (offerEpoch k d s).classes = s.classes ∧ (offerEpoch k d s).routes = s.routes ∧ (offerEpoch k d s).calls = s.calls ∧
    (offerEpoch k d s).referenceCounter = s.referenceCounter ∧ (offerEpoch k d s).groups = s.groups ∧ (offerEpoch k d s).mode = s.mode ∧
    (offerEpoch k d s).lock = s.lock ∧ (offerEpoch k d s).params = s.params ∧ (offerEpoch k d s).silenceUsed = s.silenceUsed ∧
    (offerEpoch k d s).deviceKeyUsed = s.deviceKeyUsed ∧ (offerEpoch k d s).silence = s.silence ∧ (offerEpoch k d s).lastToken = s.lastToken ∧
    (offerEpoch k d s).pending = s.pending := by
  unfold offerEpoch
  (repeat' split) <;> simp

/-- What retryEpoch never touches. -/
@[simp] theorem retryEpoch_keeps (k : Nat) (d : Direction) (s : State) :
    (retryEpoch k d s).resetHeld = s.resetHeld ∧ (retryEpoch k d s).strapCode = s.strapCode ∧ (retryEpoch k d s).receiver = s.receiver ∧
    (retryEpoch k d s).requestBuffer = s.requestBuffer ∧ (retryEpoch k d s).replyQueue = s.replyQueue ∧ (retryEpoch k d s).reportQueue = s.reportQueue ∧
    (retryEpoch k d s).lostFlag = s.lostFlag ∧ (retryEpoch k d s).reportMask = s.reportMask ∧ (retryEpoch k d s).transmitting = s.transmitting ∧
    (retryEpoch k d s).frameReference = s.frameReference ∧ (retryEpoch k d s).watchRunning = s.watchRunning ∧ (retryEpoch k d s).channelTable = s.channelTable ∧
    (retryEpoch k d s).routedAs = s.routedAs ∧ (retryEpoch k d s).heldInbound = s.heldInbound ∧ (retryEpoch k d s).heldOutbound = s.heldOutbound ∧
    (retryEpoch k d s).portTransmit = s.portTransmit ∧ (retryEpoch k d s).matrixTransmit = s.matrixTransmit ∧ (retryEpoch k d s).afterFrame = s.afterFrame ∧
    (retryEpoch k d s).deviceKey = s.deviceKey ∧ (retryEpoch k d s).challengeCounter = s.challengeCounter ∧ (retryEpoch k d s).directory = s.directory ∧
    (retryEpoch k d s).classes = s.classes ∧ (retryEpoch k d s).routes = s.routes ∧ (retryEpoch k d s).calls = s.calls ∧
    (retryEpoch k d s).referenceCounter = s.referenceCounter ∧ (retryEpoch k d s).groups = s.groups ∧ (retryEpoch k d s).mode = s.mode ∧
    (retryEpoch k d s).lock = s.lock ∧ (retryEpoch k d s).params = s.params ∧ (retryEpoch k d s).silenceUsed = s.silenceUsed ∧
    (retryEpoch k d s).deviceKeyUsed = s.deviceKeyUsed ∧ (retryEpoch k d s).silence = s.silence ∧ (retryEpoch k d s).lastToken = s.lastToken ∧
    (retryEpoch k d s).pending = s.pending := by
  unfold retryEpoch
  (repeat' split) <;> simp

/-- What offerSession never touches. -/
@[simp] theorem offerSession_keeps (k : Nat) (s : State) :
    (offerSession k s).resetHeld = s.resetHeld ∧ (offerSession k s).strapCode = s.strapCode ∧ (offerSession k s).receiver = s.receiver ∧
    (offerSession k s).requestBuffer = s.requestBuffer ∧ (offerSession k s).replyQueue = s.replyQueue ∧ (offerSession k s).reportQueue = s.reportQueue ∧
    (offerSession k s).lostFlag = s.lostFlag ∧ (offerSession k s).reportMask = s.reportMask ∧ (offerSession k s).transmitting = s.transmitting ∧
    (offerSession k s).frameReference = s.frameReference ∧ (offerSession k s).watchRunning = s.watchRunning ∧ (offerSession k s).channelTable = s.channelTable ∧
    (offerSession k s).routedAs = s.routedAs ∧ (offerSession k s).heldInbound = s.heldInbound ∧ (offerSession k s).heldOutbound = s.heldOutbound ∧
    (offerSession k s).portTransmit = s.portTransmit ∧ (offerSession k s).matrixTransmit = s.matrixTransmit ∧ (offerSession k s).afterFrame = s.afterFrame ∧
    (offerSession k s).deviceKey = s.deviceKey ∧ (offerSession k s).challengeCounter = s.challengeCounter ∧ (offerSession k s).directory = s.directory ∧
    (offerSession k s).classes = s.classes ∧ (offerSession k s).routes = s.routes ∧ (offerSession k s).calls = s.calls ∧
    (offerSession k s).referenceCounter = s.referenceCounter ∧ (offerSession k s).groups = s.groups ∧ (offerSession k s).mode = s.mode ∧
    (offerSession k s).lock = s.lock ∧ (offerSession k s).params = s.params ∧ (offerSession k s).silenceUsed = s.silenceUsed ∧
    (offerSession k s).deviceKeyUsed = s.deviceKeyUsed ∧ (offerSession k s).silence = s.silence ∧ (offerSession k s).lastToken = s.lastToken ∧
    (offerSession k s).pending = s.pending := by
  unfold offerSession
  (repeat' split) <;> simp

/-- What endScreening never touches. -/
@[simp] theorem endScreening_keeps (i : Nat) (s : State) :
    (endScreening i s).resetHeld = s.resetHeld ∧ (endScreening i s).strapCode = s.strapCode ∧ (endScreening i s).receiver = s.receiver ∧
    (endScreening i s).requestBuffer = s.requestBuffer ∧ (endScreening i s).replyQueue = s.replyQueue ∧ (endScreening i s).reportQueue = s.reportQueue ∧
    (endScreening i s).lostFlag = s.lostFlag ∧ (endScreening i s).reportMask = s.reportMask ∧ (endScreening i s).transmitting = s.transmitting ∧
    (endScreening i s).frameReference = s.frameReference ∧ (endScreening i s).watchRunning = s.watchRunning ∧ (endScreening i s).channelTable = s.channelTable ∧
    (endScreening i s).routedAs = s.routedAs ∧ (endScreening i s).heldInbound = s.heldInbound ∧ (endScreening i s).heldOutbound = s.heldOutbound ∧
    (endScreening i s).portTransmit = s.portTransmit ∧ (endScreening i s).matrixTransmit = s.matrixTransmit ∧ (endScreening i s).afterFrame = s.afterFrame ∧
    (endScreening i s).jobs = s.jobs ∧ (endScreening i s).deviceKey = s.deviceKey ∧ (endScreening i s).challengeCounter = s.challengeCounter ∧
    (endScreening i s).legs = s.legs ∧ (endScreening i s).classes = s.classes ∧ (endScreening i s).routes = s.routes ∧
    (endScreening i s).calls = s.calls ∧ (endScreening i s).referenceCounter = s.referenceCounter ∧ (endScreening i s).groups = s.groups ∧
    (endScreening i s).mode = s.mode ∧ (endScreening i s).lock = s.lock ∧ (endScreening i s).params = s.params ∧
    (endScreening i s).silenceUsed = s.silenceUsed ∧ (endScreening i s).deviceKeyUsed = s.deviceKeyUsed ∧ (endScreening i s).silence = s.silence ∧
    (endScreening i s).lastToken = s.lastToken ∧ (endScreening i s).pending = s.pending := by
  simp [endScreening]

/-- What evaluateCalls never touches. -/
@[simp] theorem evaluateCalls_keeps (s : State) :
    (evaluateCalls s).resetHeld = s.resetHeld ∧ (evaluateCalls s).strapCode = s.strapCode ∧ (evaluateCalls s).receiver = s.receiver ∧
    (evaluateCalls s).requestBuffer = s.requestBuffer ∧ (evaluateCalls s).reportMask = s.reportMask ∧ (evaluateCalls s).frameReference = s.frameReference ∧
    (evaluateCalls s).watchRunning = s.watchRunning ∧ (evaluateCalls s).channelTable = s.channelTable ∧ (evaluateCalls s).routedAs = s.routedAs ∧
    (evaluateCalls s).heldInbound = s.heldInbound ∧ (evaluateCalls s).heldOutbound = s.heldOutbound ∧ (evaluateCalls s).portTransmit = s.portTransmit ∧
    (evaluateCalls s).matrixTransmit = s.matrixTransmit ∧ (evaluateCalls s).afterFrame = s.afterFrame ∧ (evaluateCalls s).jobs = s.jobs ∧
    (evaluateCalls s).deviceKey = s.deviceKey ∧ (evaluateCalls s).challengeCounter = s.challengeCounter ∧ (evaluateCalls s).legs = s.legs ∧
    (evaluateCalls s).directory = s.directory ∧ (evaluateCalls s).classes = s.classes ∧ (evaluateCalls s).routes = s.routes ∧
    (evaluateCalls s).referenceCounter = s.referenceCounter ∧ (evaluateCalls s).groups = s.groups ∧ (evaluateCalls s).mode = s.mode ∧
    (evaluateCalls s).lock = s.lock ∧ (evaluateCalls s).params = s.params ∧ (evaluateCalls s).silenceUsed = s.silenceUsed ∧
    (evaluateCalls s).deviceKeyUsed = s.deviceKeyUsed ∧ (evaluateCalls s).silence = s.silence ∧ (evaluateCalls s).lastToken = s.lastToken ∧
    (evaluateCalls s).pending = s.pending := by
  simp [evaluateCalls]

/-- What noticeRunning never touches. -/
@[simp] theorem noticeRunning_keeps (k : Nat) (b : Bool) (s : State) :
    (noticeRunning k b s).resetHeld = s.resetHeld ∧ (noticeRunning k b s).strapCode = s.strapCode ∧ (noticeRunning k b s).receiver = s.receiver ∧
    (noticeRunning k b s).requestBuffer = s.requestBuffer ∧ (noticeRunning k b s).reportMask = s.reportMask ∧ (noticeRunning k b s).frameReference = s.frameReference ∧
    (noticeRunning k b s).watchRunning = s.watchRunning ∧ (noticeRunning k b s).channelTable = s.channelTable ∧ (noticeRunning k b s).routedAs = s.routedAs ∧
    (noticeRunning k b s).heldInbound = s.heldInbound ∧ (noticeRunning k b s).heldOutbound = s.heldOutbound ∧ (noticeRunning k b s).portTransmit = s.portTransmit ∧
    (noticeRunning k b s).matrixTransmit = s.matrixTransmit ∧ (noticeRunning k b s).afterFrame = s.afterFrame ∧ (noticeRunning k b s).jobs = s.jobs ∧
    (noticeRunning k b s).deviceKey = s.deviceKey ∧ (noticeRunning k b s).challengeCounter = s.challengeCounter ∧ (noticeRunning k b s).legs = s.legs ∧
    (noticeRunning k b s).directory = s.directory ∧ (noticeRunning k b s).classes = s.classes ∧ (noticeRunning k b s).routes = s.routes ∧
    (noticeRunning k b s).referenceCounter = s.referenceCounter ∧ (noticeRunning k b s).groups = s.groups ∧ (noticeRunning k b s).mode = s.mode ∧
    (noticeRunning k b s).lock = s.lock ∧ (noticeRunning k b s).params = s.params ∧ (noticeRunning k b s).silenceUsed = s.silenceUsed ∧
    (noticeRunning k b s).deviceKeyUsed = s.deviceKeyUsed ∧ (noticeRunning k b s).silence = s.silence ∧ (noticeRunning k b s).lastToken = s.lastToken ∧
    (noticeRunning k b s).pending = s.pending := by
  unfold noticeRunning
  (repeat' split) <;> simp

/-- What directionChanged never touches. -/
@[simp] theorem directionChanged_keeps (k : Nat) (d : Direction) (b o : OpenLeg) (s : State) :
    (directionChanged k d b o s).resetHeld = s.resetHeld ∧ (directionChanged k d b o s).strapCode = s.strapCode ∧ (directionChanged k d b o s).receiver = s.receiver ∧
    (directionChanged k d b o s).requestBuffer = s.requestBuffer ∧ (directionChanged k d b o s).reportMask = s.reportMask ∧ (directionChanged k d b o s).frameReference = s.frameReference ∧
    (directionChanged k d b o s).watchRunning = s.watchRunning ∧ (directionChanged k d b o s).channelTable = s.channelTable ∧ (directionChanged k d b o s).routedAs = s.routedAs ∧
    (directionChanged k d b o s).heldInbound = s.heldInbound ∧ (directionChanged k d b o s).heldOutbound = s.heldOutbound ∧ (directionChanged k d b o s).portTransmit = s.portTransmit ∧
    (directionChanged k d b o s).matrixTransmit = s.matrixTransmit ∧ (directionChanged k d b o s).afterFrame = s.afterFrame ∧ (directionChanged k d b o s).deviceKey = s.deviceKey ∧
    (directionChanged k d b o s).challengeCounter = s.challengeCounter ∧ (directionChanged k d b o s).directory = s.directory ∧ (directionChanged k d b o s).classes = s.classes ∧
    (directionChanged k d b o s).routes = s.routes ∧ (directionChanged k d b o s).referenceCounter = s.referenceCounter ∧ (directionChanged k d b o s).groups = s.groups ∧
    (directionChanged k d b o s).mode = s.mode ∧ (directionChanged k d b o s).lock = s.lock ∧ (directionChanged k d b o s).params = s.params ∧
    (directionChanged k d b o s).silenceUsed = s.silenceUsed ∧ (directionChanged k d b o s).deviceKeyUsed = s.deviceKeyUsed ∧ (directionChanged k d b o s).silence = s.silence ∧
    (directionChanged k d b o s).lastToken = s.lastToken ∧ (directionChanged k d b o s).pending = s.pending := by
  unfold directionChanged
  dsimp only
  (repeat' split) <;> simp

/-- What outboundEvent never touches. -/
@[simp] theorem outboundEvent_keeps (k : Nat) (x : Byte) (s : State) :
    (outboundEvent k x s).1.resetHeld = s.resetHeld ∧ (outboundEvent k x s).1.strapCode = s.strapCode ∧ (outboundEvent k x s).1.receiver = s.receiver ∧
    (outboundEvent k x s).1.requestBuffer = s.requestBuffer ∧ (outboundEvent k x s).1.reportMask = s.reportMask ∧ (outboundEvent k x s).1.frameReference = s.frameReference ∧
    (outboundEvent k x s).1.watchRunning = s.watchRunning ∧ (outboundEvent k x s).1.channelTable = s.channelTable ∧ (outboundEvent k x s).1.routedAs = s.routedAs ∧
    (outboundEvent k x s).1.heldInbound = s.heldInbound ∧ (outboundEvent k x s).1.heldOutbound = s.heldOutbound ∧ (outboundEvent k x s).1.portTransmit = s.portTransmit ∧
    (outboundEvent k x s).1.matrixTransmit = s.matrixTransmit ∧ (outboundEvent k x s).1.afterFrame = s.afterFrame ∧ (outboundEvent k x s).1.deviceKey = s.deviceKey ∧
    (outboundEvent k x s).1.challengeCounter = s.challengeCounter ∧ (outboundEvent k x s).1.directory = s.directory ∧ (outboundEvent k x s).1.classes = s.classes ∧
    (outboundEvent k x s).1.routes = s.routes ∧ (outboundEvent k x s).1.referenceCounter = s.referenceCounter ∧ (outboundEvent k x s).1.groups = s.groups ∧
    (outboundEvent k x s).1.mode = s.mode ∧ (outboundEvent k x s).1.lock = s.lock ∧ (outboundEvent k x s).1.params = s.params ∧
    (outboundEvent k x s).1.silenceUsed = s.silenceUsed ∧ (outboundEvent k x s).1.deviceKeyUsed = s.deviceKeyUsed ∧ (outboundEvent k x s).1.silence = s.silence ∧
    (outboundEvent k x s).1.lastToken = s.lastToken ∧ (outboundEvent k x s).1.pending = s.pending := by
  unfold outboundEvent
  (repeat' split) <;> simp

/-- What inboundEvent never touches. -/
@[simp] theorem inboundEvent_keeps (k : Nat) (x : Byte) (s : State) :
    (inboundEvent k x s).1.resetHeld = s.resetHeld ∧ (inboundEvent k x s).1.strapCode = s.strapCode ∧ (inboundEvent k x s).1.receiver = s.receiver ∧
    (inboundEvent k x s).1.requestBuffer = s.requestBuffer ∧ (inboundEvent k x s).1.reportMask = s.reportMask ∧ (inboundEvent k x s).1.frameReference = s.frameReference ∧
    (inboundEvent k x s).1.watchRunning = s.watchRunning ∧ (inboundEvent k x s).1.channelTable = s.channelTable ∧ (inboundEvent k x s).1.routedAs = s.routedAs ∧
    (inboundEvent k x s).1.heldInbound = s.heldInbound ∧ (inboundEvent k x s).1.heldOutbound = s.heldOutbound ∧ (inboundEvent k x s).1.portTransmit = s.portTransmit ∧
    (inboundEvent k x s).1.matrixTransmit = s.matrixTransmit ∧ (inboundEvent k x s).1.afterFrame = s.afterFrame ∧ (inboundEvent k x s).1.deviceKey = s.deviceKey ∧
    (inboundEvent k x s).1.challengeCounter = s.challengeCounter ∧ (inboundEvent k x s).1.directory = s.directory ∧ (inboundEvent k x s).1.classes = s.classes ∧
    (inboundEvent k x s).1.routes = s.routes ∧ (inboundEvent k x s).1.referenceCounter = s.referenceCounter ∧ (inboundEvent k x s).1.groups = s.groups ∧
    (inboundEvent k x s).1.mode = s.mode ∧ (inboundEvent k x s).1.lock = s.lock ∧ (inboundEvent k x s).1.params = s.params ∧
    (inboundEvent k x s).1.silenceUsed = s.silenceUsed ∧ (inboundEvent k x s).1.deviceKeyUsed = s.deviceKeyUsed ∧ (inboundEvent k x s).1.silence = s.silence ∧
    (inboundEvent k x s).1.lastToken = s.lastToken ∧ (inboundEvent k x s).1.pending = s.pending := by
  unfold inboundEvent
  (repeat' split) <;> simp

/-- What lossHunt never touches. -/
@[simp] theorem lossHunt_keeps (k : Nat) (s : State) :
    (lossHunt k s).resetHeld = s.resetHeld ∧ (lossHunt k s).strapCode = s.strapCode ∧ (lossHunt k s).receiver = s.receiver ∧
    (lossHunt k s).requestBuffer = s.requestBuffer ∧ (lossHunt k s).reportMask = s.reportMask ∧ (lossHunt k s).frameReference = s.frameReference ∧
    (lossHunt k s).watchRunning = s.watchRunning ∧ (lossHunt k s).channelTable = s.channelTable ∧ (lossHunt k s).routedAs = s.routedAs ∧
    (lossHunt k s).heldInbound = s.heldInbound ∧ (lossHunt k s).heldOutbound = s.heldOutbound ∧ (lossHunt k s).portTransmit = s.portTransmit ∧
    (lossHunt k s).matrixTransmit = s.matrixTransmit ∧ (lossHunt k s).afterFrame = s.afterFrame ∧ (lossHunt k s).deviceKey = s.deviceKey ∧
    (lossHunt k s).challengeCounter = s.challengeCounter ∧ (lossHunt k s).directory = s.directory ∧ (lossHunt k s).classes = s.classes ∧
    (lossHunt k s).routes = s.routes ∧ (lossHunt k s).referenceCounter = s.referenceCounter ∧ (lossHunt k s).groups = s.groups ∧
    (lossHunt k s).mode = s.mode ∧ (lossHunt k s).lock = s.lock ∧ (lossHunt k s).params = s.params ∧
    (lossHunt k s).silenceUsed = s.silenceUsed ∧ (lossHunt k s).deviceKeyUsed = s.deviceKeyUsed ∧ (lossHunt k s).silence = s.silence ∧
    (lossHunt k s).lastToken = s.lastToken ∧ (lossHunt k s).pending = s.pending := by
  unfold lossHunt
  (repeat' split) <;> simp

/-- What deliverEpoch never touches. -/
@[simp] theorem deliverEpoch_keeps (k : Nat) (d : Direction) (e : Long) (key : Key) (s : State) :
    (deliverEpoch k d e key s).resetHeld = s.resetHeld ∧ (deliverEpoch k d e key s).strapCode = s.strapCode ∧ (deliverEpoch k d e key s).receiver = s.receiver ∧
    (deliverEpoch k d e key s).requestBuffer = s.requestBuffer ∧ (deliverEpoch k d e key s).reportMask = s.reportMask ∧ (deliverEpoch k d e key s).frameReference = s.frameReference ∧
    (deliverEpoch k d e key s).watchRunning = s.watchRunning ∧ (deliverEpoch k d e key s).channelTable = s.channelTable ∧ (deliverEpoch k d e key s).routedAs = s.routedAs ∧
    (deliverEpoch k d e key s).heldInbound = s.heldInbound ∧ (deliverEpoch k d e key s).heldOutbound = s.heldOutbound ∧ (deliverEpoch k d e key s).portTransmit = s.portTransmit ∧
    (deliverEpoch k d e key s).matrixTransmit = s.matrixTransmit ∧ (deliverEpoch k d e key s).afterFrame = s.afterFrame ∧ (deliverEpoch k d e key s).deviceKey = s.deviceKey ∧
    (deliverEpoch k d e key s).challengeCounter = s.challengeCounter ∧ (deliverEpoch k d e key s).directory = s.directory ∧ (deliverEpoch k d e key s).classes = s.classes ∧
    (deliverEpoch k d e key s).routes = s.routes ∧ (deliverEpoch k d e key s).referenceCounter = s.referenceCounter ∧ (deliverEpoch k d e key s).groups = s.groups ∧
    (deliverEpoch k d e key s).mode = s.mode ∧ (deliverEpoch k d e key s).lock = s.lock ∧ (deliverEpoch k d e key s).params = s.params ∧
    (deliverEpoch k d e key s).silenceUsed = s.silenceUsed ∧ (deliverEpoch k d e key s).deviceKeyUsed = s.deviceKeyUsed ∧ (deliverEpoch k d e key s).silence = s.silence ∧
    (deliverEpoch k d e key s).lastToken = s.lastToken ∧ (deliverEpoch k d e key s).pending = s.pending := by
  unfold deliverEpoch
  dsimp only
  split <;> simp

/-- What openTheLeg never touches. -/
@[simp] theorem openTheLeg_keeps (k : Nat) (o : Owner) (c : Nat) (g : Option Key) (s : State) :
    (openTheLeg k o c g s).resetHeld = s.resetHeld ∧ (openTheLeg k o c g s).strapCode = s.strapCode ∧ (openTheLeg k o c g s).receiver = s.receiver ∧
    (openTheLeg k o c g s).requestBuffer = s.requestBuffer ∧ (openTheLeg k o c g s).replyQueue = s.replyQueue ∧ (openTheLeg k o c g s).reportQueue = s.reportQueue ∧
    (openTheLeg k o c g s).lostFlag = s.lostFlag ∧ (openTheLeg k o c g s).reportMask = s.reportMask ∧ (openTheLeg k o c g s).transmitting = s.transmitting ∧
    (openTheLeg k o c g s).frameReference = s.frameReference ∧ (openTheLeg k o c g s).watchRunning = s.watchRunning ∧ (openTheLeg k o c g s).routedAs = s.routedAs ∧
    (openTheLeg k o c g s).heldInbound = s.heldInbound ∧ (openTheLeg k o c g s).heldOutbound = s.heldOutbound ∧ (openTheLeg k o c g s).portTransmit = s.portTransmit ∧
    (openTheLeg k o c g s).matrixTransmit = s.matrixTransmit ∧ (openTheLeg k o c g s).afterFrame = s.afterFrame ∧ (openTheLeg k o c g s).deviceKey = s.deviceKey ∧
    (openTheLeg k o c g s).challengeCounter = s.challengeCounter ∧ (openTheLeg k o c g s).directory = s.directory ∧ (openTheLeg k o c g s).classes = s.classes ∧
    (openTheLeg k o c g s).routes = s.routes ∧ (openTheLeg k o c g s).calls = s.calls ∧ (openTheLeg k o c g s).referenceCounter = s.referenceCounter ∧
    (openTheLeg k o c g s).groups = s.groups ∧ (openTheLeg k o c g s).mode = s.mode ∧ (openTheLeg k o c g s).lock = s.lock ∧
    (openTheLeg k o c g s).params = s.params ∧ (openTheLeg k o c g s).silenceUsed = s.silenceUsed ∧ (openTheLeg k o c g s).deviceKeyUsed = s.deviceKeyUsed ∧
    (openTheLeg k o c g s).silence = s.silence ∧ (openTheLeg k o c g s).lastToken = s.lastToken ∧ (openTheLeg k o c g s).pending = s.pending := by
  unfold openTheLeg
  dsimp only
  (repeat' split) <;> simp

/-- What createCall never touches. -/
@[simp] theorem createCall_keeps (h : HandOver) (s : State) :
    (createCall h s).resetHeld = s.resetHeld ∧ (createCall h s).strapCode = s.strapCode ∧ (createCall h s).receiver = s.receiver ∧
    (createCall h s).requestBuffer = s.requestBuffer ∧ (createCall h s).reportMask = s.reportMask ∧ (createCall h s).frameReference = s.frameReference ∧
    (createCall h s).watchRunning = s.watchRunning ∧ (createCall h s).channelTable = s.channelTable ∧ (createCall h s).routedAs = s.routedAs ∧
    (createCall h s).heldInbound = s.heldInbound ∧ (createCall h s).heldOutbound = s.heldOutbound ∧ (createCall h s).portTransmit = s.portTransmit ∧
    (createCall h s).matrixTransmit = s.matrixTransmit ∧ (createCall h s).afterFrame = s.afterFrame ∧ (createCall h s).jobs = s.jobs ∧
    (createCall h s).deviceKey = s.deviceKey ∧ (createCall h s).challengeCounter = s.challengeCounter ∧ (createCall h s).classes = s.classes ∧
    (createCall h s).routes = s.routes ∧ (createCall h s).mode = s.mode ∧ (createCall h s).lock = s.lock ∧
    (createCall h s).params = s.params ∧ (createCall h s).silenceUsed = s.silenceUsed ∧ (createCall h s).deviceKeyUsed = s.deviceKeyUsed ∧
    (createCall h s).silence = s.silence ∧ (createCall h s).lastToken = s.lastToken ∧ (createCall h s).pending = s.pending := by
  unfold createCall
  dsimp only
  (repeat' split) <;> simp

/-- What leaveStack never touches. -/
@[simp] theorem leaveStack_keeps (r i : Nat) (s : State) :
    (leaveStack r i s).resetHeld = s.resetHeld ∧ (leaveStack r i s).strapCode = s.strapCode ∧ (leaveStack r i s).receiver = s.receiver ∧
    (leaveStack r i s).requestBuffer = s.requestBuffer ∧ (leaveStack r i s).replyQueue = s.replyQueue ∧ (leaveStack r i s).reportQueue = s.reportQueue ∧
    (leaveStack r i s).lostFlag = s.lostFlag ∧ (leaveStack r i s).reportMask = s.reportMask ∧ (leaveStack r i s).transmitting = s.transmitting ∧
    (leaveStack r i s).frameReference = s.frameReference ∧ (leaveStack r i s).watchRunning = s.watchRunning ∧ (leaveStack r i s).channelTable = s.channelTable ∧
    (leaveStack r i s).routedAs = s.routedAs ∧ (leaveStack r i s).heldInbound = s.heldInbound ∧ (leaveStack r i s).heldOutbound = s.heldOutbound ∧
    (leaveStack r i s).portTransmit = s.portTransmit ∧ (leaveStack r i s).matrixTransmit = s.matrixTransmit ∧ (leaveStack r i s).afterFrame = s.afterFrame ∧
    (leaveStack r i s).jobs = s.jobs ∧ (leaveStack r i s).deviceKey = s.deviceKey ∧ (leaveStack r i s).challengeCounter = s.challengeCounter ∧
    (leaveStack r i s).legs = s.legs ∧ (leaveStack r i s).classes = s.classes ∧ (leaveStack r i s).routes = s.routes ∧
    (leaveStack r i s).calls = s.calls ∧ (leaveStack r i s).referenceCounter = s.referenceCounter ∧ (leaveStack r i s).groups = s.groups ∧
    (leaveStack r i s).mode = s.mode ∧ (leaveStack r i s).lock = s.lock ∧ (leaveStack r i s).params = s.params ∧
    (leaveStack r i s).silenceUsed = s.silenceUsed ∧ (leaveStack r i s).deviceKeyUsed = s.deviceKeyUsed ∧ (leaveStack r i s).silence = s.silence ∧
    (leaveStack r i s).lastToken = s.lastToken ∧ (leaveStack r i s).pending = s.pending := by
  simp [leaveStack]

/-- What closeIfEmptied never touches. -/
@[simp] theorem closeIfEmptied_keeps (i : Nat) (b : List StackItem) (r : Nat) (s : State) :
    (closeIfEmptied i b r s).resetHeld = s.resetHeld ∧ (closeIfEmptied i b r s).strapCode = s.strapCode ∧ (closeIfEmptied i b r s).receiver = s.receiver ∧
    (closeIfEmptied i b r s).requestBuffer = s.requestBuffer ∧ (closeIfEmptied i b r s).replyQueue = s.replyQueue ∧ (closeIfEmptied i b r s).reportQueue = s.reportQueue ∧
    (closeIfEmptied i b r s).lostFlag = s.lostFlag ∧ (closeIfEmptied i b r s).reportMask = s.reportMask ∧ (closeIfEmptied i b r s).transmitting = s.transmitting ∧
    (closeIfEmptied i b r s).frameReference = s.frameReference ∧ (closeIfEmptied i b r s).watchRunning = s.watchRunning ∧ (closeIfEmptied i b r s).routedAs = s.routedAs ∧
    (closeIfEmptied i b r s).heldInbound = s.heldInbound ∧ (closeIfEmptied i b r s).heldOutbound = s.heldOutbound ∧ (closeIfEmptied i b r s).portTransmit = s.portTransmit ∧
    (closeIfEmptied i b r s).matrixTransmit = s.matrixTransmit ∧ (closeIfEmptied i b r s).afterFrame = s.afterFrame ∧ (closeIfEmptied i b r s).jobs = s.jobs ∧
    (closeIfEmptied i b r s).deviceKey = s.deviceKey ∧ (closeIfEmptied i b r s).challengeCounter = s.challengeCounter ∧ (closeIfEmptied i b r s).classes = s.classes ∧
    (closeIfEmptied i b r s).routes = s.routes ∧ (closeIfEmptied i b r s).calls = s.calls ∧ (closeIfEmptied i b r s).referenceCounter = s.referenceCounter ∧
    (closeIfEmptied i b r s).groups = s.groups ∧ (closeIfEmptied i b r s).mode = s.mode ∧ (closeIfEmptied i b r s).lock = s.lock ∧
    (closeIfEmptied i b r s).params = s.params ∧ (closeIfEmptied i b r s).silenceUsed = s.silenceUsed ∧ (closeIfEmptied i b r s).deviceKeyUsed = s.deviceKeyUsed ∧
    (closeIfEmptied i b r s).silence = s.silence ∧ (closeIfEmptied i b r s).lastToken = s.lastToken ∧ (closeIfEmptied i b r s).pending = s.pending := by
  unfold closeIfEmptied
  (repeat' split) <;> simp

/-- What releaseCallerLeg never touches. -/
@[simp] theorem releaseCallerLeg_keeps (a : Nat) (s : State) :
    (releaseCallerLeg a s).resetHeld = s.resetHeld ∧ (releaseCallerLeg a s).strapCode = s.strapCode ∧ (releaseCallerLeg a s).receiver = s.receiver ∧
    (releaseCallerLeg a s).requestBuffer = s.requestBuffer ∧ (releaseCallerLeg a s).replyQueue = s.replyQueue ∧ (releaseCallerLeg a s).reportQueue = s.reportQueue ∧
    (releaseCallerLeg a s).lostFlag = s.lostFlag ∧ (releaseCallerLeg a s).reportMask = s.reportMask ∧ (releaseCallerLeg a s).transmitting = s.transmitting ∧
    (releaseCallerLeg a s).frameReference = s.frameReference ∧ (releaseCallerLeg a s).watchRunning = s.watchRunning ∧ (releaseCallerLeg a s).routedAs = s.routedAs ∧
    (releaseCallerLeg a s).heldInbound = s.heldInbound ∧ (releaseCallerLeg a s).heldOutbound = s.heldOutbound ∧ (releaseCallerLeg a s).portTransmit = s.portTransmit ∧
    (releaseCallerLeg a s).matrixTransmit = s.matrixTransmit ∧ (releaseCallerLeg a s).afterFrame = s.afterFrame ∧ (releaseCallerLeg a s).jobs = s.jobs ∧
    (releaseCallerLeg a s).deviceKey = s.deviceKey ∧ (releaseCallerLeg a s).challengeCounter = s.challengeCounter ∧ (releaseCallerLeg a s).classes = s.classes ∧
    (releaseCallerLeg a s).routes = s.routes ∧ (releaseCallerLeg a s).calls = s.calls ∧ (releaseCallerLeg a s).referenceCounter = s.referenceCounter ∧
    (releaseCallerLeg a s).groups = s.groups ∧ (releaseCallerLeg a s).mode = s.mode ∧ (releaseCallerLeg a s).lock = s.lock ∧
    (releaseCallerLeg a s).params = s.params ∧ (releaseCallerLeg a s).silenceUsed = s.silenceUsed ∧ (releaseCallerLeg a s).deviceKeyUsed = s.deviceKeyUsed ∧
    (releaseCallerLeg a s).silence = s.silence ∧ (releaseCallerLeg a s).lastToken = s.lastToken ∧ (releaseCallerLeg a s).pending = s.pending := by
  unfold releaseCallerLeg
  (repeat' split) <;> simp

/-- What freeHeldLeg never touches. -/
@[simp] theorem freeHeldLeg_keeps (k : Option Nat) (s : State) :
    (freeHeldLeg k s).resetHeld = s.resetHeld ∧ (freeHeldLeg k s).strapCode = s.strapCode ∧ (freeHeldLeg k s).receiver = s.receiver ∧
    (freeHeldLeg k s).requestBuffer = s.requestBuffer ∧ (freeHeldLeg k s).replyQueue = s.replyQueue ∧ (freeHeldLeg k s).reportQueue = s.reportQueue ∧
    (freeHeldLeg k s).lostFlag = s.lostFlag ∧ (freeHeldLeg k s).reportMask = s.reportMask ∧ (freeHeldLeg k s).transmitting = s.transmitting ∧
    (freeHeldLeg k s).frameReference = s.frameReference ∧ (freeHeldLeg k s).watchRunning = s.watchRunning ∧ (freeHeldLeg k s).routedAs = s.routedAs ∧
    (freeHeldLeg k s).heldInbound = s.heldInbound ∧ (freeHeldLeg k s).heldOutbound = s.heldOutbound ∧ (freeHeldLeg k s).portTransmit = s.portTransmit ∧
    (freeHeldLeg k s).matrixTransmit = s.matrixTransmit ∧ (freeHeldLeg k s).afterFrame = s.afterFrame ∧ (freeHeldLeg k s).jobs = s.jobs ∧
    (freeHeldLeg k s).deviceKey = s.deviceKey ∧ (freeHeldLeg k s).challengeCounter = s.challengeCounter ∧ (freeHeldLeg k s).classes = s.classes ∧
    (freeHeldLeg k s).routes = s.routes ∧ (freeHeldLeg k s).calls = s.calls ∧ (freeHeldLeg k s).referenceCounter = s.referenceCounter ∧
    (freeHeldLeg k s).groups = s.groups ∧ (freeHeldLeg k s).mode = s.mode ∧ (freeHeldLeg k s).lock = s.lock ∧
    (freeHeldLeg k s).params = s.params ∧ (freeHeldLeg k s).silenceUsed = s.silenceUsed ∧ (freeHeldLeg k s).deviceKeyUsed = s.deviceKeyUsed ∧
    (freeHeldLeg k s).silence = s.silence ∧ (freeHeldLeg k s).lastToken = s.lastToken ∧ (freeHeldLeg k s).pending = s.pending := by
  unfold freeHeldLeg
  (repeat' split) <;> simp

/-- What takeOut never touches. -/
@[simp] theorem takeOut_keeps (c : Call) (s : State) :
    (takeOut c s).resetHeld = s.resetHeld ∧ (takeOut c s).strapCode = s.strapCode ∧ (takeOut c s).receiver = s.receiver ∧
    (takeOut c s).requestBuffer = s.requestBuffer ∧ (takeOut c s).reportMask = s.reportMask ∧ (takeOut c s).frameReference = s.frameReference ∧
    (takeOut c s).watchRunning = s.watchRunning ∧ (takeOut c s).routedAs = s.routedAs ∧ (takeOut c s).heldInbound = s.heldInbound ∧
    (takeOut c s).heldOutbound = s.heldOutbound ∧ (takeOut c s).portTransmit = s.portTransmit ∧ (takeOut c s).matrixTransmit = s.matrixTransmit ∧
    (takeOut c s).afterFrame = s.afterFrame ∧ (takeOut c s).jobs = s.jobs ∧ (takeOut c s).deviceKey = s.deviceKey ∧
    (takeOut c s).challengeCounter = s.challengeCounter ∧ (takeOut c s).classes = s.classes ∧ (takeOut c s).routes = s.routes ∧
    (takeOut c s).referenceCounter = s.referenceCounter ∧ (takeOut c s).mode = s.mode ∧ (takeOut c s).lock = s.lock ∧
    (takeOut c s).params = s.params ∧ (takeOut c s).silenceUsed = s.silenceUsed ∧ (takeOut c s).deviceKeyUsed = s.deviceKeyUsed ∧
    (takeOut c s).silence = s.silence ∧ (takeOut c s).lastToken = s.lastToken ∧ (takeOut c s).pending = s.pending := by
  unfold takeOut
  dsimp only
  (repeat' split) <;> simp

/-- What removeCall never touches. -/
@[simp] theorem removeCall_keeps (r : Nat) (why : Option Reason) (s : State) :
    (removeCall r why s).resetHeld = s.resetHeld ∧ (removeCall r why s).strapCode = s.strapCode ∧ (removeCall r why s).receiver = s.receiver ∧
    (removeCall r why s).requestBuffer = s.requestBuffer ∧ (removeCall r why s).reportMask = s.reportMask ∧ (removeCall r why s).frameReference = s.frameReference ∧
    (removeCall r why s).watchRunning = s.watchRunning ∧ (removeCall r why s).routedAs = s.routedAs ∧ (removeCall r why s).heldInbound = s.heldInbound ∧
    (removeCall r why s).heldOutbound = s.heldOutbound ∧ (removeCall r why s).portTransmit = s.portTransmit ∧ (removeCall r why s).matrixTransmit = s.matrixTransmit ∧
    (removeCall r why s).afterFrame = s.afterFrame ∧ (removeCall r why s).jobs = s.jobs ∧ (removeCall r why s).deviceKey = s.deviceKey ∧
    (removeCall r why s).challengeCounter = s.challengeCounter ∧ (removeCall r why s).classes = s.classes ∧ (removeCall r why s).routes = s.routes ∧
    (removeCall r why s).referenceCounter = s.referenceCounter ∧ (removeCall r why s).mode = s.mode ∧ (removeCall r why s).lock = s.lock ∧
    (removeCall r why s).params = s.params ∧ (removeCall r why s).silenceUsed = s.silenceUsed ∧ (removeCall r why s).deviceKeyUsed = s.deviceKeyUsed ∧
    (removeCall r why s).silence = s.silence ∧ (removeCall r why s).lastToken = s.lastToken ∧ (removeCall r why s).pending = s.pending := by
  unfold removeCall
  (repeat' split) <;> simp

/-- What transferLeg never touches. -/
@[simp] theorem transferLeg_keeps (k i : Nat) (s : State) :
    (transferLeg k i s).resetHeld = s.resetHeld ∧ (transferLeg k i s).strapCode = s.strapCode ∧ (transferLeg k i s).receiver = s.receiver ∧
    (transferLeg k i s).requestBuffer = s.requestBuffer ∧ (transferLeg k i s).replyQueue = s.replyQueue ∧ (transferLeg k i s).reportQueue = s.reportQueue ∧
    (transferLeg k i s).lostFlag = s.lostFlag ∧ (transferLeg k i s).reportMask = s.reportMask ∧ (transferLeg k i s).transmitting = s.transmitting ∧
    (transferLeg k i s).frameReference = s.frameReference ∧ (transferLeg k i s).watchRunning = s.watchRunning ∧ (transferLeg k i s).channelTable = s.channelTable ∧
    (transferLeg k i s).routedAs = s.routedAs ∧ (transferLeg k i s).heldInbound = s.heldInbound ∧ (transferLeg k i s).heldOutbound = s.heldOutbound ∧
    (transferLeg k i s).portTransmit = s.portTransmit ∧ (transferLeg k i s).matrixTransmit = s.matrixTransmit ∧ (transferLeg k i s).afterFrame = s.afterFrame ∧
    (transferLeg k i s).jobs = s.jobs ∧ (transferLeg k i s).deviceKey = s.deviceKey ∧ (transferLeg k i s).challengeCounter = s.challengeCounter ∧
    (transferLeg k i s).classes = s.classes ∧ (transferLeg k i s).routes = s.routes ∧ (transferLeg k i s).calls = s.calls ∧
    (transferLeg k i s).referenceCounter = s.referenceCounter ∧ (transferLeg k i s).groups = s.groups ∧ (transferLeg k i s).mode = s.mode ∧
    (transferLeg k i s).lock = s.lock ∧ (transferLeg k i s).params = s.params ∧ (transferLeg k i s).silenceUsed = s.silenceUsed ∧
    (transferLeg k i s).deviceKeyUsed = s.deviceKeyUsed ∧ (transferLeg k i s).silence = s.silence ∧ (transferLeg k i s).lastToken = s.lastToken ∧
    (transferLeg k i s).pending = s.pending := by
  simp [transferLeg]

/-- What settleCallee never touches. -/
@[simp] theorem settleCallee_keeps (c : Call) (i : Nat) (p : LegPlan) (s : State) :
    (settleCallee c i p s).resetHeld = s.resetHeld ∧ (settleCallee c i p s).strapCode = s.strapCode ∧ (settleCallee c i p s).receiver = s.receiver ∧
    (settleCallee c i p s).requestBuffer = s.requestBuffer ∧ (settleCallee c i p s).replyQueue = s.replyQueue ∧ (settleCallee c i p s).reportQueue = s.reportQueue ∧
    (settleCallee c i p s).lostFlag = s.lostFlag ∧ (settleCallee c i p s).reportMask = s.reportMask ∧ (settleCallee c i p s).transmitting = s.transmitting ∧
    (settleCallee c i p s).frameReference = s.frameReference ∧ (settleCallee c i p s).watchRunning = s.watchRunning ∧ (settleCallee c i p s).routedAs = s.routedAs ∧
    (settleCallee c i p s).heldInbound = s.heldInbound ∧ (settleCallee c i p s).heldOutbound = s.heldOutbound ∧ (settleCallee c i p s).portTransmit = s.portTransmit ∧
    (settleCallee c i p s).matrixTransmit = s.matrixTransmit ∧ (settleCallee c i p s).afterFrame = s.afterFrame ∧ (settleCallee c i p s).jobs = s.jobs ∧
    (settleCallee c i p s).deviceKey = s.deviceKey ∧ (settleCallee c i p s).challengeCounter = s.challengeCounter ∧ (settleCallee c i p s).classes = s.classes ∧
    (settleCallee c i p s).routes = s.routes ∧ (settleCallee c i p s).referenceCounter = s.referenceCounter ∧ (settleCallee c i p s).groups = s.groups ∧
    (settleCallee c i p s).mode = s.mode ∧ (settleCallee c i p s).lock = s.lock ∧ (settleCallee c i p s).params = s.params ∧
    (settleCallee c i p s).silenceUsed = s.silenceUsed ∧ (settleCallee c i p s).deviceKeyUsed = s.deviceKeyUsed ∧ (settleCallee c i p s).silence = s.silence ∧
    (settleCallee c i p s).lastToken = s.lastToken ∧ (settleCallee c i p s).pending = s.pending := by
  unfold settleCallee
  (repeat' split) <;> simp

/-- What settleBSide never touches. -/
@[simp] theorem settleBSide_keeps (c : Call) (p : LegPlan) (s : State) :
    (settleBSide c p s).resetHeld = s.resetHeld ∧ (settleBSide c p s).strapCode = s.strapCode ∧ (settleBSide c p s).receiver = s.receiver ∧
    (settleBSide c p s).requestBuffer = s.requestBuffer ∧ (settleBSide c p s).replyQueue = s.replyQueue ∧ (settleBSide c p s).reportQueue = s.reportQueue ∧
    (settleBSide c p s).lostFlag = s.lostFlag ∧ (settleBSide c p s).reportMask = s.reportMask ∧ (settleBSide c p s).transmitting = s.transmitting ∧
    (settleBSide c p s).frameReference = s.frameReference ∧ (settleBSide c p s).watchRunning = s.watchRunning ∧ (settleBSide c p s).routedAs = s.routedAs ∧
    (settleBSide c p s).heldInbound = s.heldInbound ∧ (settleBSide c p s).heldOutbound = s.heldOutbound ∧ (settleBSide c p s).portTransmit = s.portTransmit ∧
    (settleBSide c p s).matrixTransmit = s.matrixTransmit ∧ (settleBSide c p s).afterFrame = s.afterFrame ∧ (settleBSide c p s).jobs = s.jobs ∧
    (settleBSide c p s).deviceKey = s.deviceKey ∧ (settleBSide c p s).challengeCounter = s.challengeCounter ∧ (settleBSide c p s).classes = s.classes ∧
    (settleBSide c p s).routes = s.routes ∧ (settleBSide c p s).referenceCounter = s.referenceCounter ∧ (settleBSide c p s).groups = s.groups ∧
    (settleBSide c p s).mode = s.mode ∧ (settleBSide c p s).lock = s.lock ∧ (settleBSide c p s).params = s.params ∧
    (settleBSide c p s).silenceUsed = s.silenceUsed ∧ (settleBSide c p s).deviceKeyUsed = s.deviceKeyUsed ∧ (settleBSide c p s).silence = s.silence ∧
    (settleBSide c p s).lastToken = s.lastToken ∧ (settleBSide c p s).pending = s.pending := by
  unfold settleBSide
  (repeat' split) <;> simp

/-- What openPlanned never touches. -/
@[simp] theorem openPlanned_keeps (p : LegPlan) (o : Owner) (c : Option Nat) (s : State) :
    (openPlanned p o c s).resetHeld = s.resetHeld ∧ (openPlanned p o c s).strapCode = s.strapCode ∧ (openPlanned p o c s).receiver = s.receiver ∧
    (openPlanned p o c s).requestBuffer = s.requestBuffer ∧ (openPlanned p o c s).replyQueue = s.replyQueue ∧ (openPlanned p o c s).reportQueue = s.reportQueue ∧
    (openPlanned p o c s).lostFlag = s.lostFlag ∧ (openPlanned p o c s).reportMask = s.reportMask ∧ (openPlanned p o c s).transmitting = s.transmitting ∧
    (openPlanned p o c s).frameReference = s.frameReference ∧ (openPlanned p o c s).watchRunning = s.watchRunning ∧ (openPlanned p o c s).routedAs = s.routedAs ∧
    (openPlanned p o c s).heldInbound = s.heldInbound ∧ (openPlanned p o c s).heldOutbound = s.heldOutbound ∧ (openPlanned p o c s).portTransmit = s.portTransmit ∧
    (openPlanned p o c s).matrixTransmit = s.matrixTransmit ∧ (openPlanned p o c s).afterFrame = s.afterFrame ∧ (openPlanned p o c s).deviceKey = s.deviceKey ∧
    (openPlanned p o c s).challengeCounter = s.challengeCounter ∧ (openPlanned p o c s).directory = s.directory ∧ (openPlanned p o c s).classes = s.classes ∧
    (openPlanned p o c s).routes = s.routes ∧ (openPlanned p o c s).calls = s.calls ∧ (openPlanned p o c s).referenceCounter = s.referenceCounter ∧
    (openPlanned p o c s).groups = s.groups ∧ (openPlanned p o c s).mode = s.mode ∧ (openPlanned p o c s).lock = s.lock ∧
    (openPlanned p o c s).params = s.params ∧ (openPlanned p o c s).silenceUsed = s.silenceUsed ∧ (openPlanned p o c s).deviceKeyUsed = s.deviceKeyUsed ∧
    (openPlanned p o c s).silence = s.silence ∧ (openPlanned p o c s).lastToken = s.lastToken ∧ (openPlanned p o c s).pending = s.pending := by
  unfold openPlanned
  (repeat' split) <;> simp

/-- What pushCallee never touches. -/
@[simp] theorem pushCallee_keeps (c : Call) (s : State) :
    (pushCallee c s).resetHeld = s.resetHeld ∧ (pushCallee c s).strapCode = s.strapCode ∧ (pushCallee c s).receiver = s.receiver ∧
    (pushCallee c s).requestBuffer = s.requestBuffer ∧ (pushCallee c s).replyQueue = s.replyQueue ∧ (pushCallee c s).reportQueue = s.reportQueue ∧
    (pushCallee c s).lostFlag = s.lostFlag ∧ (pushCallee c s).reportMask = s.reportMask ∧ (pushCallee c s).transmitting = s.transmitting ∧
    (pushCallee c s).frameReference = s.frameReference ∧ (pushCallee c s).watchRunning = s.watchRunning ∧ (pushCallee c s).channelTable = s.channelTable ∧
    (pushCallee c s).routedAs = s.routedAs ∧ (pushCallee c s).heldInbound = s.heldInbound ∧ (pushCallee c s).heldOutbound = s.heldOutbound ∧
    (pushCallee c s).portTransmit = s.portTransmit ∧ (pushCallee c s).matrixTransmit = s.matrixTransmit ∧ (pushCallee c s).afterFrame = s.afterFrame ∧
    (pushCallee c s).jobs = s.jobs ∧ (pushCallee c s).deviceKey = s.deviceKey ∧ (pushCallee c s).challengeCounter = s.challengeCounter ∧
    (pushCallee c s).legs = s.legs ∧ (pushCallee c s).classes = s.classes ∧ (pushCallee c s).routes = s.routes ∧
    (pushCallee c s).calls = s.calls ∧ (pushCallee c s).referenceCounter = s.referenceCounter ∧ (pushCallee c s).groups = s.groups ∧
    (pushCallee c s).mode = s.mode ∧ (pushCallee c s).lock = s.lock ∧ (pushCallee c s).params = s.params ∧
    (pushCallee c s).silenceUsed = s.silenceUsed ∧ (pushCallee c s).deviceKeyUsed = s.deviceKeyUsed ∧ (pushCallee c s).silence = s.silence ∧
    (pushCallee c s).lastToken = s.lastToken ∧ (pushCallee c s).pending = s.pending := by
  unfold pushCallee
  (repeat' split) <;> simp

/-- What answerCall never touches. -/
@[simp] theorem answerCall_keeps (c : Call) (pa pb : LegPlan) (ca cb : Option Nat) (t : Long) (s : State) :
    (answerCall c pa pb ca cb t s).resetHeld = s.resetHeld ∧ (answerCall c pa pb ca cb t s).strapCode = s.strapCode ∧ (answerCall c pa pb ca cb t s).receiver = s.receiver ∧
    (answerCall c pa pb ca cb t s).requestBuffer = s.requestBuffer ∧ (answerCall c pa pb ca cb t s).reportMask = s.reportMask ∧ (answerCall c pa pb ca cb t s).frameReference = s.frameReference ∧
    (answerCall c pa pb ca cb t s).watchRunning = s.watchRunning ∧ (answerCall c pa pb ca cb t s).routedAs = s.routedAs ∧ (answerCall c pa pb ca cb t s).heldInbound = s.heldInbound ∧
    (answerCall c pa pb ca cb t s).heldOutbound = s.heldOutbound ∧ (answerCall c pa pb ca cb t s).portTransmit = s.portTransmit ∧ (answerCall c pa pb ca cb t s).matrixTransmit = s.matrixTransmit ∧
    (answerCall c pa pb ca cb t s).afterFrame = s.afterFrame ∧ (answerCall c pa pb ca cb t s).deviceKey = s.deviceKey ∧ (answerCall c pa pb ca cb t s).challengeCounter = s.challengeCounter ∧
    (answerCall c pa pb ca cb t s).classes = s.classes ∧ (answerCall c pa pb ca cb t s).routes = s.routes ∧ (answerCall c pa pb ca cb t s).referenceCounter = s.referenceCounter ∧
    (answerCall c pa pb ca cb t s).groups = s.groups ∧ (answerCall c pa pb ca cb t s).mode = s.mode ∧ (answerCall c pa pb ca cb t s).lock = s.lock ∧
    (answerCall c pa pb ca cb t s).params = s.params ∧ (answerCall c pa pb ca cb t s).silenceUsed = s.silenceUsed ∧ (answerCall c pa pb ca cb t s).deviceKeyUsed = s.deviceKeyUsed ∧
    (answerCall c pa pb ca cb t s).silence = s.silence ∧ (answerCall c pa pb ca cb t s).lastToken = s.lastToken ∧ (answerCall c pa pb ca cb t s).pending = s.pending := by
  simp [answerCall]

/-- What reportLockout never touches. -/
@[simp] theorem reportLockout_keeps (i : Nat) (e : Entry) (s : State) :
    (reportLockout i e s).resetHeld = s.resetHeld ∧ (reportLockout i e s).strapCode = s.strapCode ∧ (reportLockout i e s).receiver = s.receiver ∧
    (reportLockout i e s).requestBuffer = s.requestBuffer ∧ (reportLockout i e s).reportMask = s.reportMask ∧ (reportLockout i e s).frameReference = s.frameReference ∧
    (reportLockout i e s).watchRunning = s.watchRunning ∧ (reportLockout i e s).channelTable = s.channelTable ∧ (reportLockout i e s).routedAs = s.routedAs ∧
    (reportLockout i e s).heldInbound = s.heldInbound ∧ (reportLockout i e s).heldOutbound = s.heldOutbound ∧ (reportLockout i e s).portTransmit = s.portTransmit ∧
    (reportLockout i e s).matrixTransmit = s.matrixTransmit ∧ (reportLockout i e s).afterFrame = s.afterFrame ∧ (reportLockout i e s).jobs = s.jobs ∧
    (reportLockout i e s).deviceKey = s.deviceKey ∧ (reportLockout i e s).challengeCounter = s.challengeCounter ∧ (reportLockout i e s).legs = s.legs ∧
    (reportLockout i e s).directory = s.directory ∧ (reportLockout i e s).classes = s.classes ∧ (reportLockout i e s).routes = s.routes ∧
    (reportLockout i e s).calls = s.calls ∧ (reportLockout i e s).referenceCounter = s.referenceCounter ∧ (reportLockout i e s).groups = s.groups ∧
    (reportLockout i e s).mode = s.mode ∧ (reportLockout i e s).lock = s.lock ∧ (reportLockout i e s).params = s.params ∧
    (reportLockout i e s).silenceUsed = s.silenceUsed ∧ (reportLockout i e s).deviceKeyUsed = s.deviceKeyUsed ∧ (reportLockout i e s).silence = s.silence ∧
    (reportLockout i e s).lastToken = s.lastToken ∧ (reportLockout i e s).pending = s.pending := by
  unfold reportLockout
  (repeat' split) <;> simp

/-- What endLockout never touches. -/
@[simp] theorem endLockout_keeps (i : Nat) (c : Reason) (s : State) :
    (endLockout i c s).resetHeld = s.resetHeld ∧ (endLockout i c s).strapCode = s.strapCode ∧ (endLockout i c s).receiver = s.receiver ∧
    (endLockout i c s).requestBuffer = s.requestBuffer ∧ (endLockout i c s).reportMask = s.reportMask ∧ (endLockout i c s).frameReference = s.frameReference ∧
    (endLockout i c s).watchRunning = s.watchRunning ∧ (endLockout i c s).channelTable = s.channelTable ∧ (endLockout i c s).routedAs = s.routedAs ∧
    (endLockout i c s).heldInbound = s.heldInbound ∧ (endLockout i c s).heldOutbound = s.heldOutbound ∧ (endLockout i c s).portTransmit = s.portTransmit ∧
    (endLockout i c s).matrixTransmit = s.matrixTransmit ∧ (endLockout i c s).afterFrame = s.afterFrame ∧ (endLockout i c s).jobs = s.jobs ∧
    (endLockout i c s).deviceKey = s.deviceKey ∧ (endLockout i c s).challengeCounter = s.challengeCounter ∧ (endLockout i c s).legs = s.legs ∧
    (endLockout i c s).classes = s.classes ∧ (endLockout i c s).routes = s.routes ∧ (endLockout i c s).calls = s.calls ∧
    (endLockout i c s).referenceCounter = s.referenceCounter ∧ (endLockout i c s).groups = s.groups ∧ (endLockout i c s).mode = s.mode ∧
    (endLockout i c s).lock = s.lock ∧ (endLockout i c s).params = s.params ∧ (endLockout i c s).silenceUsed = s.silenceUsed ∧
    (endLockout i c s).deviceKeyUsed = s.deviceKeyUsed ∧ (endLockout i c s).silence = s.silence ∧ (endLockout i c s).lastToken = s.lastToken ∧
    (endLockout i c s).pending = s.pending := by
  simp [endLockout]

/-- What deliverChallenge never touches. -/
@[simp] theorem deliverChallenge_keeps (i : Nat) (key : Key) (n : Long) (s : State) :
    (deliverChallenge i key n s).resetHeld = s.resetHeld ∧ (deliverChallenge i key n s).strapCode = s.strapCode ∧ (deliverChallenge i key n s).receiver = s.receiver ∧
    (deliverChallenge i key n s).lostFlag = s.lostFlag ∧ (deliverChallenge i key n s).reportMask = s.reportMask ∧ (deliverChallenge i key n s).frameReference = s.frameReference ∧
    (deliverChallenge i key n s).watchRunning = s.watchRunning ∧ (deliverChallenge i key n s).channelTable = s.channelTable ∧ (deliverChallenge i key n s).routedAs = s.routedAs ∧
    (deliverChallenge i key n s).heldInbound = s.heldInbound ∧ (deliverChallenge i key n s).heldOutbound = s.heldOutbound ∧ (deliverChallenge i key n s).portTransmit = s.portTransmit ∧
    (deliverChallenge i key n s).matrixTransmit = s.matrixTransmit ∧ (deliverChallenge i key n s).afterFrame = s.afterFrame ∧ (deliverChallenge i key n s).jobs = s.jobs ∧
    (deliverChallenge i key n s).deviceKey = s.deviceKey ∧ (deliverChallenge i key n s).challengeCounter = s.challengeCounter ∧ (deliverChallenge i key n s).legs = s.legs ∧
    (deliverChallenge i key n s).classes = s.classes ∧ (deliverChallenge i key n s).routes = s.routes ∧ (deliverChallenge i key n s).calls = s.calls ∧
    (deliverChallenge i key n s).referenceCounter = s.referenceCounter ∧ (deliverChallenge i key n s).groups = s.groups ∧ (deliverChallenge i key n s).mode = s.mode ∧
    (deliverChallenge i key n s).lock = s.lock ∧ (deliverChallenge i key n s).params = s.params ∧ (deliverChallenge i key n s).silenceUsed = s.silenceUsed ∧
    (deliverChallenge i key n s).deviceKeyUsed = s.deviceKeyUsed ∧ (deliverChallenge i key n s).silence = s.silence ∧ (deliverChallenge i key n s).lastToken = s.lastToken ∧
    (deliverChallenge i key n s).pending = s.pending := by
  simp [deliverChallenge]

/-- What deliverMatch never touches. -/
@[simp] theorem deliverMatch_keeps (i : Nat) (sk : Key) (s : State) :
    (deliverMatch i sk s).resetHeld = s.resetHeld ∧ (deliverMatch i sk s).strapCode = s.strapCode ∧ (deliverMatch i sk s).receiver = s.receiver ∧
    (deliverMatch i sk s).lostFlag = s.lostFlag ∧ (deliverMatch i sk s).reportMask = s.reportMask ∧ (deliverMatch i sk s).frameReference = s.frameReference ∧
    (deliverMatch i sk s).watchRunning = s.watchRunning ∧ (deliverMatch i sk s).channelTable = s.channelTable ∧ (deliverMatch i sk s).routedAs = s.routedAs ∧
    (deliverMatch i sk s).heldInbound = s.heldInbound ∧ (deliverMatch i sk s).heldOutbound = s.heldOutbound ∧ (deliverMatch i sk s).portTransmit = s.portTransmit ∧
    (deliverMatch i sk s).matrixTransmit = s.matrixTransmit ∧ (deliverMatch i sk s).afterFrame = s.afterFrame ∧ (deliverMatch i sk s).jobs = s.jobs ∧
    (deliverMatch i sk s).deviceKey = s.deviceKey ∧ (deliverMatch i sk s).challengeCounter = s.challengeCounter ∧ (deliverMatch i sk s).legs = s.legs ∧
    (deliverMatch i sk s).classes = s.classes ∧ (deliverMatch i sk s).routes = s.routes ∧ (deliverMatch i sk s).calls = s.calls ∧
    (deliverMatch i sk s).referenceCounter = s.referenceCounter ∧ (deliverMatch i sk s).groups = s.groups ∧ (deliverMatch i sk s).mode = s.mode ∧
    (deliverMatch i sk s).lock = s.lock ∧ (deliverMatch i sk s).params = s.params ∧ (deliverMatch i sk s).silenceUsed = s.silenceUsed ∧
    (deliverMatch i sk s).deviceKeyUsed = s.deviceKeyUsed ∧ (deliverMatch i sk s).silence = s.silence ∧ (deliverMatch i sk s).lastToken = s.lastToken ∧
    (deliverMatch i sk s).pending = s.pending := by
  simp [deliverMatch]

/-- What deliverMismatch never touches. -/
@[simp] theorem deliverMismatch_keeps (i : Nat) (s : State) :
    (deliverMismatch i s).resetHeld = s.resetHeld ∧ (deliverMismatch i s).strapCode = s.strapCode ∧ (deliverMismatch i s).receiver = s.receiver ∧
    (deliverMismatch i s).reportMask = s.reportMask ∧ (deliverMismatch i s).frameReference = s.frameReference ∧ (deliverMismatch i s).watchRunning = s.watchRunning ∧
    (deliverMismatch i s).channelTable = s.channelTable ∧ (deliverMismatch i s).routedAs = s.routedAs ∧ (deliverMismatch i s).heldInbound = s.heldInbound ∧
    (deliverMismatch i s).heldOutbound = s.heldOutbound ∧ (deliverMismatch i s).portTransmit = s.portTransmit ∧ (deliverMismatch i s).matrixTransmit = s.matrixTransmit ∧
    (deliverMismatch i s).afterFrame = s.afterFrame ∧ (deliverMismatch i s).jobs = s.jobs ∧ (deliverMismatch i s).deviceKey = s.deviceKey ∧
    (deliverMismatch i s).challengeCounter = s.challengeCounter ∧ (deliverMismatch i s).legs = s.legs ∧ (deliverMismatch i s).classes = s.classes ∧
    (deliverMismatch i s).routes = s.routes ∧ (deliverMismatch i s).calls = s.calls ∧ (deliverMismatch i s).referenceCounter = s.referenceCounter ∧
    (deliverMismatch i s).groups = s.groups ∧ (deliverMismatch i s).mode = s.mode ∧ (deliverMismatch i s).lock = s.lock ∧
    (deliverMismatch i s).params = s.params ∧ (deliverMismatch i s).silenceUsed = s.silenceUsed ∧ (deliverMismatch i s).deviceKeyUsed = s.deviceKeyUsed ∧
    (deliverMismatch i s).silence = s.silence ∧ (deliverMismatch i s).lastToken = s.lastToken ∧ (deliverMismatch i s).pending = s.pending := by
  simp [deliverMismatch]

/-- What a whole list of these steps never touches. -/
@[simp] theorem removeCalls_keeps (l : List StackItem) (why : Option Reason) (s : State) :
    (l.foldl (fun s x => removeCall x.call why s) s).resetHeld = s.resetHeld ∧ (l.foldl (fun s x => removeCall x.call why s) s).strapCode = s.strapCode ∧ (l.foldl (fun s x => removeCall x.call why s) s).receiver = s.receiver ∧
    (l.foldl (fun s x => removeCall x.call why s) s).requestBuffer = s.requestBuffer ∧ (l.foldl (fun s x => removeCall x.call why s) s).reportMask = s.reportMask ∧ (l.foldl (fun s x => removeCall x.call why s) s).frameReference = s.frameReference ∧
    (l.foldl (fun s x => removeCall x.call why s) s).watchRunning = s.watchRunning ∧ (l.foldl (fun s x => removeCall x.call why s) s).routedAs = s.routedAs ∧ (l.foldl (fun s x => removeCall x.call why s) s).heldInbound = s.heldInbound ∧
    (l.foldl (fun s x => removeCall x.call why s) s).heldOutbound = s.heldOutbound ∧ (l.foldl (fun s x => removeCall x.call why s) s).portTransmit = s.portTransmit ∧ (l.foldl (fun s x => removeCall x.call why s) s).matrixTransmit = s.matrixTransmit ∧
    (l.foldl (fun s x => removeCall x.call why s) s).afterFrame = s.afterFrame ∧ (l.foldl (fun s x => removeCall x.call why s) s).jobs = s.jobs ∧ (l.foldl (fun s x => removeCall x.call why s) s).deviceKey = s.deviceKey ∧
    (l.foldl (fun s x => removeCall x.call why s) s).challengeCounter = s.challengeCounter ∧ (l.foldl (fun s x => removeCall x.call why s) s).classes = s.classes ∧ (l.foldl (fun s x => removeCall x.call why s) s).routes = s.routes ∧
    (l.foldl (fun s x => removeCall x.call why s) s).referenceCounter = s.referenceCounter ∧ (l.foldl (fun s x => removeCall x.call why s) s).mode = s.mode ∧ (l.foldl (fun s x => removeCall x.call why s) s).lock = s.lock ∧
    (l.foldl (fun s x => removeCall x.call why s) s).params = s.params ∧ (l.foldl (fun s x => removeCall x.call why s) s).silenceUsed = s.silenceUsed ∧ (l.foldl (fun s x => removeCall x.call why s) s).deviceKeyUsed = s.deviceKeyUsed ∧
    (l.foldl (fun s x => removeCall x.call why s) s).silence = s.silence ∧ (l.foldl (fun s x => removeCall x.call why s) s).lastToken = s.lastToken ∧ (l.foldl (fun s x => removeCall x.call why s) s).pending = s.pending := by
  induction l generalizing s with
  | nil => simp
  | cons x l ih => simpa using ih (removeCall x.call why s)

/-- What withdrawEntry never touches. -/
@[simp] theorem withdrawEntry_keeps (i : Nat) (why : Reason) (next : EntryState) (s : State) :
    (withdrawEntry i why next s).resetHeld = s.resetHeld ∧ (withdrawEntry i why next s).strapCode = s.strapCode ∧ (withdrawEntry i why next s).receiver = s.receiver ∧
    (withdrawEntry i why next s).requestBuffer = s.requestBuffer ∧ (withdrawEntry i why next s).reportMask = s.reportMask ∧ (withdrawEntry i why next s).frameReference = s.frameReference ∧
    (withdrawEntry i why next s).watchRunning = s.watchRunning ∧ (withdrawEntry i why next s).routedAs = s.routedAs ∧ (withdrawEntry i why next s).heldInbound = s.heldInbound ∧
    (withdrawEntry i why next s).heldOutbound = s.heldOutbound ∧ (withdrawEntry i why next s).portTransmit = s.portTransmit ∧ (withdrawEntry i why next s).matrixTransmit = s.matrixTransmit ∧
    (withdrawEntry i why next s).afterFrame = s.afterFrame ∧ (withdrawEntry i why next s).jobs = s.jobs ∧ (withdrawEntry i why next s).deviceKey = s.deviceKey ∧
    (withdrawEntry i why next s).challengeCounter = s.challengeCounter ∧ (withdrawEntry i why next s).classes = s.classes ∧ (withdrawEntry i why next s).routes = s.routes ∧
    (withdrawEntry i why next s).referenceCounter = s.referenceCounter ∧ (withdrawEntry i why next s).mode = s.mode ∧ (withdrawEntry i why next s).lock = s.lock ∧
    (withdrawEntry i why next s).params = s.params ∧ (withdrawEntry i why next s).silenceUsed = s.silenceUsed ∧ (withdrawEntry i why next s).deviceKeyUsed = s.deviceKeyUsed ∧
    (withdrawEntry i why next s).silence = s.silence ∧ (withdrawEntry i why next s).lastToken = s.lastToken ∧ (withdrawEntry i why next s).pending = s.pending := by
  simp [withdrawEntry]

/-- What cancelReply never touches. -/
@[simp] theorem cancelReply_keeps (i : Nat) (s : State) :
    (cancelReply i s).resetHeld = s.resetHeld ∧ (cancelReply i s).strapCode = s.strapCode ∧ (cancelReply i s).receiver = s.receiver ∧
    (cancelReply i s).lostFlag = s.lostFlag ∧ (cancelReply i s).reportMask = s.reportMask ∧ (cancelReply i s).frameReference = s.frameReference ∧
    (cancelReply i s).watchRunning = s.watchRunning ∧ (cancelReply i s).channelTable = s.channelTable ∧ (cancelReply i s).routedAs = s.routedAs ∧
    (cancelReply i s).heldInbound = s.heldInbound ∧ (cancelReply i s).heldOutbound = s.heldOutbound ∧ (cancelReply i s).portTransmit = s.portTransmit ∧
    (cancelReply i s).matrixTransmit = s.matrixTransmit ∧ (cancelReply i s).afterFrame = s.afterFrame ∧ (cancelReply i s).jobs = s.jobs ∧
    (cancelReply i s).deviceKey = s.deviceKey ∧ (cancelReply i s).challengeCounter = s.challengeCounter ∧ (cancelReply i s).legs = s.legs ∧
    (cancelReply i s).directory = s.directory ∧ (cancelReply i s).classes = s.classes ∧ (cancelReply i s).routes = s.routes ∧
    (cancelReply i s).calls = s.calls ∧ (cancelReply i s).referenceCounter = s.referenceCounter ∧ (cancelReply i s).groups = s.groups ∧
    (cancelReply i s).mode = s.mode ∧ (cancelReply i s).lock = s.lock ∧ (cancelReply i s).params = s.params ∧
    (cancelReply i s).silenceUsed = s.silenceUsed ∧ (cancelReply i s).deviceKeyUsed = s.deviceKeyUsed ∧ (cancelReply i s).silence = s.silence ∧
    (cancelReply i s).lastToken = s.lastToken ∧ (cancelReply i s).pending = s.pending := by
  unfold cancelReply
  (repeat' split) <;> simp

/-- What cancelAdmission never touches. -/
@[simp] theorem cancelAdmission_keeps (next : EntryState) (i : Nat) (s : State) :
    (cancelAdmission next i s).resetHeld = s.resetHeld ∧ (cancelAdmission next i s).strapCode = s.strapCode ∧ (cancelAdmission next i s).receiver = s.receiver ∧
    (cancelAdmission next i s).lostFlag = s.lostFlag ∧ (cancelAdmission next i s).reportMask = s.reportMask ∧ (cancelAdmission next i s).frameReference = s.frameReference ∧
    (cancelAdmission next i s).watchRunning = s.watchRunning ∧ (cancelAdmission next i s).channelTable = s.channelTable ∧ (cancelAdmission next i s).routedAs = s.routedAs ∧
    (cancelAdmission next i s).heldInbound = s.heldInbound ∧ (cancelAdmission next i s).heldOutbound = s.heldOutbound ∧ (cancelAdmission next i s).portTransmit = s.portTransmit ∧
    (cancelAdmission next i s).matrixTransmit = s.matrixTransmit ∧ (cancelAdmission next i s).afterFrame = s.afterFrame ∧ (cancelAdmission next i s).jobs = s.jobs ∧
    (cancelAdmission next i s).deviceKey = s.deviceKey ∧ (cancelAdmission next i s).challengeCounter = s.challengeCounter ∧ (cancelAdmission next i s).legs = s.legs ∧
    (cancelAdmission next i s).classes = s.classes ∧ (cancelAdmission next i s).routes = s.routes ∧ (cancelAdmission next i s).calls = s.calls ∧
    (cancelAdmission next i s).referenceCounter = s.referenceCounter ∧ (cancelAdmission next i s).groups = s.groups ∧ (cancelAdmission next i s).mode = s.mode ∧
    (cancelAdmission next i s).lock = s.lock ∧ (cancelAdmission next i s).params = s.params ∧ (cancelAdmission next i s).silenceUsed = s.silenceUsed ∧
    (cancelAdmission next i s).deviceKeyUsed = s.deviceKeyUsed ∧ (cancelAdmission next i s).silence = s.silence ∧ (cancelAdmission next i s).lastToken = s.lastToken ∧
    (cancelAdmission next i s).pending = s.pending := by
  simp [cancelAdmission]

/-- What a whole list of these steps never touches. -/
@[simp] theorem cancelList_keeps (l : List Nat) (s : State) :
    (l.foldl (fun s i => cancelAdmission .enrolled i s) s).resetHeld = s.resetHeld ∧ (l.foldl (fun s i => cancelAdmission .enrolled i s) s).strapCode = s.strapCode ∧ (l.foldl (fun s i => cancelAdmission .enrolled i s) s).receiver = s.receiver ∧
    (l.foldl (fun s i => cancelAdmission .enrolled i s) s).lostFlag = s.lostFlag ∧ (l.foldl (fun s i => cancelAdmission .enrolled i s) s).reportMask = s.reportMask ∧ (l.foldl (fun s i => cancelAdmission .enrolled i s) s).frameReference = s.frameReference ∧
    (l.foldl (fun s i => cancelAdmission .enrolled i s) s).watchRunning = s.watchRunning ∧ (l.foldl (fun s i => cancelAdmission .enrolled i s) s).channelTable = s.channelTable ∧ (l.foldl (fun s i => cancelAdmission .enrolled i s) s).routedAs = s.routedAs ∧
    (l.foldl (fun s i => cancelAdmission .enrolled i s) s).heldInbound = s.heldInbound ∧ (l.foldl (fun s i => cancelAdmission .enrolled i s) s).heldOutbound = s.heldOutbound ∧ (l.foldl (fun s i => cancelAdmission .enrolled i s) s).portTransmit = s.portTransmit ∧
    (l.foldl (fun s i => cancelAdmission .enrolled i s) s).matrixTransmit = s.matrixTransmit ∧ (l.foldl (fun s i => cancelAdmission .enrolled i s) s).afterFrame = s.afterFrame ∧ (l.foldl (fun s i => cancelAdmission .enrolled i s) s).jobs = s.jobs ∧
    (l.foldl (fun s i => cancelAdmission .enrolled i s) s).deviceKey = s.deviceKey ∧ (l.foldl (fun s i => cancelAdmission .enrolled i s) s).challengeCounter = s.challengeCounter ∧ (l.foldl (fun s i => cancelAdmission .enrolled i s) s).legs = s.legs ∧
    (l.foldl (fun s i => cancelAdmission .enrolled i s) s).classes = s.classes ∧ (l.foldl (fun s i => cancelAdmission .enrolled i s) s).routes = s.routes ∧ (l.foldl (fun s i => cancelAdmission .enrolled i s) s).calls = s.calls ∧
    (l.foldl (fun s i => cancelAdmission .enrolled i s) s).referenceCounter = s.referenceCounter ∧ (l.foldl (fun s i => cancelAdmission .enrolled i s) s).groups = s.groups ∧ (l.foldl (fun s i => cancelAdmission .enrolled i s) s).mode = s.mode ∧
    (l.foldl (fun s i => cancelAdmission .enrolled i s) s).lock = s.lock ∧ (l.foldl (fun s i => cancelAdmission .enrolled i s) s).params = s.params ∧ (l.foldl (fun s i => cancelAdmission .enrolled i s) s).silenceUsed = s.silenceUsed ∧
    (l.foldl (fun s i => cancelAdmission .enrolled i s) s).deviceKeyUsed = s.deviceKeyUsed ∧ (l.foldl (fun s i => cancelAdmission .enrolled i s) s).silence = s.silence ∧ (l.foldl (fun s i => cancelAdmission .enrolled i s) s).lastToken = s.lastToken ∧
    (l.foldl (fun s i => cancelAdmission .enrolled i s) s).pending = s.pending := by
  induction l generalizing s with
  | nil => simp
  | cons x l ih => simpa using ih (cancelAdmission .enrolled x s)

/-- What cancelAdmissions never touches. -/
@[simp] theorem cancelAdmissions_keeps (s : State) :
    (cancelAdmissions s).resetHeld = s.resetHeld ∧ (cancelAdmissions s).strapCode = s.strapCode ∧ (cancelAdmissions s).receiver = s.receiver ∧
    (cancelAdmissions s).lostFlag = s.lostFlag ∧ (cancelAdmissions s).reportMask = s.reportMask ∧ (cancelAdmissions s).frameReference = s.frameReference ∧
    (cancelAdmissions s).watchRunning = s.watchRunning ∧ (cancelAdmissions s).channelTable = s.channelTable ∧ (cancelAdmissions s).routedAs = s.routedAs ∧
    (cancelAdmissions s).heldInbound = s.heldInbound ∧ (cancelAdmissions s).heldOutbound = s.heldOutbound ∧ (cancelAdmissions s).portTransmit = s.portTransmit ∧
    (cancelAdmissions s).matrixTransmit = s.matrixTransmit ∧ (cancelAdmissions s).afterFrame = s.afterFrame ∧ (cancelAdmissions s).jobs = s.jobs ∧
    (cancelAdmissions s).deviceKey = s.deviceKey ∧ (cancelAdmissions s).challengeCounter = s.challengeCounter ∧ (cancelAdmissions s).legs = s.legs ∧
    (cancelAdmissions s).classes = s.classes ∧ (cancelAdmissions s).routes = s.routes ∧ (cancelAdmissions s).calls = s.calls ∧
    (cancelAdmissions s).referenceCounter = s.referenceCounter ∧ (cancelAdmissions s).groups = s.groups ∧ (cancelAdmissions s).mode = s.mode ∧
    (cancelAdmissions s).lock = s.lock ∧ (cancelAdmissions s).params = s.params ∧ (cancelAdmissions s).silenceUsed = s.silenceUsed ∧
    (cancelAdmissions s).deviceKeyUsed = s.deviceKeyUsed ∧ (cancelAdmissions s).silence = s.silence ∧ (cancelAdmissions s).lastToken = s.lastToken ∧
    (cancelAdmissions s).pending = s.pending := by
  simp [cancelAdmissions]

/-- What a whole list of these steps never touches. -/
@[simp] theorem freeLegList_keeps (l : List Nat) (s : State) :
    (l.foldl (fun s k => freeTheLeg k s) s).resetHeld = s.resetHeld ∧ (l.foldl (fun s k => freeTheLeg k s) s).strapCode = s.strapCode ∧ (l.foldl (fun s k => freeTheLeg k s) s).receiver = s.receiver ∧
    (l.foldl (fun s k => freeTheLeg k s) s).requestBuffer = s.requestBuffer ∧ (l.foldl (fun s k => freeTheLeg k s) s).replyQueue = s.replyQueue ∧ (l.foldl (fun s k => freeTheLeg k s) s).reportQueue = s.reportQueue ∧
    (l.foldl (fun s k => freeTheLeg k s) s).lostFlag = s.lostFlag ∧ (l.foldl (fun s k => freeTheLeg k s) s).reportMask = s.reportMask ∧ (l.foldl (fun s k => freeTheLeg k s) s).transmitting = s.transmitting ∧
    (l.foldl (fun s k => freeTheLeg k s) s).frameReference = s.frameReference ∧ (l.foldl (fun s k => freeTheLeg k s) s).watchRunning = s.watchRunning ∧ (l.foldl (fun s k => freeTheLeg k s) s).routedAs = s.routedAs ∧
    (l.foldl (fun s k => freeTheLeg k s) s).heldInbound = s.heldInbound ∧ (l.foldl (fun s k => freeTheLeg k s) s).heldOutbound = s.heldOutbound ∧ (l.foldl (fun s k => freeTheLeg k s) s).portTransmit = s.portTransmit ∧
    (l.foldl (fun s k => freeTheLeg k s) s).matrixTransmit = s.matrixTransmit ∧ (l.foldl (fun s k => freeTheLeg k s) s).afterFrame = s.afterFrame ∧ (l.foldl (fun s k => freeTheLeg k s) s).jobs = s.jobs ∧
    (l.foldl (fun s k => freeTheLeg k s) s).deviceKey = s.deviceKey ∧ (l.foldl (fun s k => freeTheLeg k s) s).challengeCounter = s.challengeCounter ∧ (l.foldl (fun s k => freeTheLeg k s) s).classes = s.classes ∧
    (l.foldl (fun s k => freeTheLeg k s) s).routes = s.routes ∧ (l.foldl (fun s k => freeTheLeg k s) s).calls = s.calls ∧ (l.foldl (fun s k => freeTheLeg k s) s).referenceCounter = s.referenceCounter ∧
    (l.foldl (fun s k => freeTheLeg k s) s).groups = s.groups ∧ (l.foldl (fun s k => freeTheLeg k s) s).mode = s.mode ∧ (l.foldl (fun s k => freeTheLeg k s) s).lock = s.lock ∧
    (l.foldl (fun s k => freeTheLeg k s) s).params = s.params ∧ (l.foldl (fun s k => freeTheLeg k s) s).silenceUsed = s.silenceUsed ∧ (l.foldl (fun s k => freeTheLeg k s) s).deviceKeyUsed = s.deviceKeyUsed ∧
    (l.foldl (fun s k => freeTheLeg k s) s).silence = s.silence ∧ (l.foldl (fun s k => freeTheLeg k s) s).lastToken = s.lastToken ∧ (l.foldl (fun s k => freeTheLeg k s) s).pending = s.pending := by
  induction l generalizing s with
  | nil => simp
  | cons x l ih => simpa using ih (freeTheLeg x s)

/-- What a whole list of these steps never touches. -/
@[simp] theorem lossHuntList_keeps (l : List Nat) (s : State) :
    (l.foldl (fun s k => lossHunt k s) s).resetHeld = s.resetHeld ∧ (l.foldl (fun s k => lossHunt k s) s).strapCode = s.strapCode ∧ (l.foldl (fun s k => lossHunt k s) s).receiver = s.receiver ∧
    (l.foldl (fun s k => lossHunt k s) s).requestBuffer = s.requestBuffer ∧ (l.foldl (fun s k => lossHunt k s) s).reportMask = s.reportMask ∧ (l.foldl (fun s k => lossHunt k s) s).frameReference = s.frameReference ∧
    (l.foldl (fun s k => lossHunt k s) s).watchRunning = s.watchRunning ∧ (l.foldl (fun s k => lossHunt k s) s).channelTable = s.channelTable ∧ (l.foldl (fun s k => lossHunt k s) s).routedAs = s.routedAs ∧
    (l.foldl (fun s k => lossHunt k s) s).heldInbound = s.heldInbound ∧ (l.foldl (fun s k => lossHunt k s) s).heldOutbound = s.heldOutbound ∧ (l.foldl (fun s k => lossHunt k s) s).portTransmit = s.portTransmit ∧
    (l.foldl (fun s k => lossHunt k s) s).matrixTransmit = s.matrixTransmit ∧ (l.foldl (fun s k => lossHunt k s) s).afterFrame = s.afterFrame ∧ (l.foldl (fun s k => lossHunt k s) s).deviceKey = s.deviceKey ∧
    (l.foldl (fun s k => lossHunt k s) s).challengeCounter = s.challengeCounter ∧ (l.foldl (fun s k => lossHunt k s) s).directory = s.directory ∧ (l.foldl (fun s k => lossHunt k s) s).classes = s.classes ∧
    (l.foldl (fun s k => lossHunt k s) s).routes = s.routes ∧ (l.foldl (fun s k => lossHunt k s) s).referenceCounter = s.referenceCounter ∧ (l.foldl (fun s k => lossHunt k s) s).groups = s.groups ∧
    (l.foldl (fun s k => lossHunt k s) s).mode = s.mode ∧ (l.foldl (fun s k => lossHunt k s) s).lock = s.lock ∧ (l.foldl (fun s k => lossHunt k s) s).params = s.params ∧
    (l.foldl (fun s k => lossHunt k s) s).silenceUsed = s.silenceUsed ∧ (l.foldl (fun s k => lossHunt k s) s).deviceKeyUsed = s.deviceKeyUsed ∧ (l.foldl (fun s k => lossHunt k s) s).silence = s.silence ∧
    (l.foldl (fun s k => lossHunt k s) s).lastToken = s.lastToken ∧ (l.foldl (fun s k => lossHunt k s) s).pending = s.pending := by
  induction l generalizing s with
  | nil => simp
  | cons x l ih => simpa using ih (lossHunt x s)

/-- What retryLeg never touches. -/
@[simp] theorem retryLeg_keeps (k : Nat) (s : State) :
    (retryLeg k s).resetHeld = s.resetHeld ∧ (retryLeg k s).strapCode = s.strapCode ∧ (retryLeg k s).receiver = s.receiver ∧
    (retryLeg k s).requestBuffer = s.requestBuffer ∧ (retryLeg k s).replyQueue = s.replyQueue ∧ (retryLeg k s).reportQueue = s.reportQueue ∧
    (retryLeg k s).lostFlag = s.lostFlag ∧ (retryLeg k s).reportMask = s.reportMask ∧ (retryLeg k s).transmitting = s.transmitting ∧
    (retryLeg k s).frameReference = s.frameReference ∧ (retryLeg k s).watchRunning = s.watchRunning ∧ (retryLeg k s).channelTable = s.channelTable ∧
    (retryLeg k s).routedAs = s.routedAs ∧ (retryLeg k s).heldInbound = s.heldInbound ∧ (retryLeg k s).heldOutbound = s.heldOutbound ∧
    (retryLeg k s).portTransmit = s.portTransmit ∧ (retryLeg k s).matrixTransmit = s.matrixTransmit ∧ (retryLeg k s).afterFrame = s.afterFrame ∧
    (retryLeg k s).deviceKey = s.deviceKey ∧ (retryLeg k s).challengeCounter = s.challengeCounter ∧ (retryLeg k s).directory = s.directory ∧
    (retryLeg k s).classes = s.classes ∧ (retryLeg k s).routes = s.routes ∧ (retryLeg k s).calls = s.calls ∧
    (retryLeg k s).referenceCounter = s.referenceCounter ∧ (retryLeg k s).groups = s.groups ∧ (retryLeg k s).mode = s.mode ∧
    (retryLeg k s).lock = s.lock ∧ (retryLeg k s).params = s.params ∧ (retryLeg k s).silenceUsed = s.silenceUsed ∧
    (retryLeg k s).deviceKeyUsed = s.deviceKeyUsed ∧ (retryLeg k s).silence = s.silence ∧ (retryLeg k s).lastToken = s.lastToken ∧
    (retryLeg k s).pending = s.pending := by
  unfold retryLeg
  dsimp only
  (repeat' split) <;> simp

/-- What a whole list of these steps never touches. -/
@[simp] theorem retryLegList_keeps (l : List Nat) (s : State) :
    (l.foldl (fun s k => retryLeg k s) s).resetHeld = s.resetHeld ∧ (l.foldl (fun s k => retryLeg k s) s).strapCode = s.strapCode ∧ (l.foldl (fun s k => retryLeg k s) s).receiver = s.receiver ∧
    (l.foldl (fun s k => retryLeg k s) s).requestBuffer = s.requestBuffer ∧ (l.foldl (fun s k => retryLeg k s) s).replyQueue = s.replyQueue ∧ (l.foldl (fun s k => retryLeg k s) s).reportQueue = s.reportQueue ∧
    (l.foldl (fun s k => retryLeg k s) s).lostFlag = s.lostFlag ∧ (l.foldl (fun s k => retryLeg k s) s).reportMask = s.reportMask ∧ (l.foldl (fun s k => retryLeg k s) s).transmitting = s.transmitting ∧
    (l.foldl (fun s k => retryLeg k s) s).frameReference = s.frameReference ∧ (l.foldl (fun s k => retryLeg k s) s).watchRunning = s.watchRunning ∧ (l.foldl (fun s k => retryLeg k s) s).channelTable = s.channelTable ∧
    (l.foldl (fun s k => retryLeg k s) s).routedAs = s.routedAs ∧ (l.foldl (fun s k => retryLeg k s) s).heldInbound = s.heldInbound ∧ (l.foldl (fun s k => retryLeg k s) s).heldOutbound = s.heldOutbound ∧
    (l.foldl (fun s k => retryLeg k s) s).portTransmit = s.portTransmit ∧ (l.foldl (fun s k => retryLeg k s) s).matrixTransmit = s.matrixTransmit ∧ (l.foldl (fun s k => retryLeg k s) s).afterFrame = s.afterFrame ∧
    (l.foldl (fun s k => retryLeg k s) s).deviceKey = s.deviceKey ∧ (l.foldl (fun s k => retryLeg k s) s).challengeCounter = s.challengeCounter ∧ (l.foldl (fun s k => retryLeg k s) s).directory = s.directory ∧
    (l.foldl (fun s k => retryLeg k s) s).classes = s.classes ∧ (l.foldl (fun s k => retryLeg k s) s).routes = s.routes ∧ (l.foldl (fun s k => retryLeg k s) s).calls = s.calls ∧
    (l.foldl (fun s k => retryLeg k s) s).referenceCounter = s.referenceCounter ∧ (l.foldl (fun s k => retryLeg k s) s).groups = s.groups ∧ (l.foldl (fun s k => retryLeg k s) s).mode = s.mode ∧
    (l.foldl (fun s k => retryLeg k s) s).lock = s.lock ∧ (l.foldl (fun s k => retryLeg k s) s).params = s.params ∧ (l.foldl (fun s k => retryLeg k s) s).silenceUsed = s.silenceUsed ∧
    (l.foldl (fun s k => retryLeg k s) s).deviceKeyUsed = s.deviceKeyUsed ∧ (l.foldl (fun s k => retryLeg k s) s).silence = s.silence ∧ (l.foldl (fun s k => retryLeg k s) s).lastToken = s.lastToken ∧
    (l.foldl (fun s k => retryLeg k s) s).pending = s.pending := by
  induction l generalizing s with
  | nil => simp
  | cons x l ih => simpa using ih (retryLeg x s)

/-- What retryJobs never touches. -/
@[simp] theorem retryJobs_keeps (s : State) :
    (retryJobs s).resetHeld = s.resetHeld ∧ (retryJobs s).strapCode = s.strapCode ∧ (retryJobs s).receiver = s.receiver ∧
    (retryJobs s).requestBuffer = s.requestBuffer ∧ (retryJobs s).replyQueue = s.replyQueue ∧ (retryJobs s).reportQueue = s.reportQueue ∧
    (retryJobs s).lostFlag = s.lostFlag ∧ (retryJobs s).reportMask = s.reportMask ∧ (retryJobs s).transmitting = s.transmitting ∧
    (retryJobs s).frameReference = s.frameReference ∧ (retryJobs s).watchRunning = s.watchRunning ∧ (retryJobs s).channelTable = s.channelTable ∧
    (retryJobs s).routedAs = s.routedAs ∧ (retryJobs s).heldInbound = s.heldInbound ∧ (retryJobs s).heldOutbound = s.heldOutbound ∧
    (retryJobs s).portTransmit = s.portTransmit ∧ (retryJobs s).matrixTransmit = s.matrixTransmit ∧ (retryJobs s).afterFrame = s.afterFrame ∧
    (retryJobs s).deviceKey = s.deviceKey ∧ (retryJobs s).challengeCounter = s.challengeCounter ∧ (retryJobs s).directory = s.directory ∧
    (retryJobs s).classes = s.classes ∧ (retryJobs s).routes = s.routes ∧ (retryJobs s).calls = s.calls ∧
    (retryJobs s).referenceCounter = s.referenceCounter ∧ (retryJobs s).groups = s.groups ∧ (retryJobs s).mode = s.mode ∧
    (retryJobs s).lock = s.lock ∧ (retryJobs s).params = s.params ∧ (retryJobs s).silenceUsed = s.silenceUsed ∧
    (retryJobs s).deviceKeyUsed = s.deviceKeyUsed ∧ (retryJobs s).silence = s.silence ∧ (retryJobs s).lastToken = s.lastToken ∧
    (retryJobs s).pending = s.pending := by
  simp [retryJobs]

/-- What deliverSession never touches. -/
@[simp] theorem deliverSession_keeps (k : Nat) (sk : Key) (s : State) :
    (deliverSession k sk s).resetHeld = s.resetHeld ∧ (deliverSession k sk s).strapCode = s.strapCode ∧ (deliverSession k sk s).receiver = s.receiver ∧
    (deliverSession k sk s).requestBuffer = s.requestBuffer ∧ (deliverSession k sk s).replyQueue = s.replyQueue ∧ (deliverSession k sk s).reportQueue = s.reportQueue ∧
    (deliverSession k sk s).lostFlag = s.lostFlag ∧ (deliverSession k sk s).reportMask = s.reportMask ∧ (deliverSession k sk s).transmitting = s.transmitting ∧
    (deliverSession k sk s).frameReference = s.frameReference ∧ (deliverSession k sk s).watchRunning = s.watchRunning ∧ (deliverSession k sk s).channelTable = s.channelTable ∧
    (deliverSession k sk s).routedAs = s.routedAs ∧ (deliverSession k sk s).heldInbound = s.heldInbound ∧ (deliverSession k sk s).heldOutbound = s.heldOutbound ∧
    (deliverSession k sk s).portTransmit = s.portTransmit ∧ (deliverSession k sk s).matrixTransmit = s.matrixTransmit ∧ (deliverSession k sk s).afterFrame = s.afterFrame ∧
    (deliverSession k sk s).deviceKey = s.deviceKey ∧ (deliverSession k sk s).challengeCounter = s.challengeCounter ∧ (deliverSession k sk s).directory = s.directory ∧
    (deliverSession k sk s).classes = s.classes ∧ (deliverSession k sk s).routes = s.routes ∧ (deliverSession k sk s).calls = s.calls ∧
    (deliverSession k sk s).referenceCounter = s.referenceCounter ∧ (deliverSession k sk s).groups = s.groups ∧ (deliverSession k sk s).mode = s.mode ∧
    (deliverSession k sk s).lock = s.lock ∧ (deliverSession k sk s).params = s.params ∧ (deliverSession k sk s).silenceUsed = s.silenceUsed ∧
    (deliverSession k sk s).deviceKeyUsed = s.deviceKeyUsed ∧ (deliverSession k sk s).silence = s.silence ∧ (deliverSession k sk s).lastToken = s.lastToken ∧
    (deliverSession k sk s).pending = s.pending := by
  simp [deliverSession]

/-- What settleEpoch never touches. -/
@[simp] theorem settleEpoch_keeps (sk : Key) (e : Long) (k : Nat) (d : Direction) (o : OpenLeg) (s : State) :
    (settleEpoch sk e k d o s).resetHeld = s.resetHeld ∧ (settleEpoch sk e k d o s).strapCode = s.strapCode ∧ (settleEpoch sk e k d o s).receiver = s.receiver ∧
    (settleEpoch sk e k d o s).requestBuffer = s.requestBuffer ∧ (settleEpoch sk e k d o s).reportMask = s.reportMask ∧ (settleEpoch sk e k d o s).frameReference = s.frameReference ∧
    (settleEpoch sk e k d o s).watchRunning = s.watchRunning ∧ (settleEpoch sk e k d o s).channelTable = s.channelTable ∧ (settleEpoch sk e k d o s).routedAs = s.routedAs ∧
    (settleEpoch sk e k d o s).heldInbound = s.heldInbound ∧ (settleEpoch sk e k d o s).heldOutbound = s.heldOutbound ∧ (settleEpoch sk e k d o s).portTransmit = s.portTransmit ∧
    (settleEpoch sk e k d o s).matrixTransmit = s.matrixTransmit ∧ (settleEpoch sk e k d o s).afterFrame = s.afterFrame ∧ (settleEpoch sk e k d o s).deviceKey = s.deviceKey ∧
    (settleEpoch sk e k d o s).challengeCounter = s.challengeCounter ∧ (settleEpoch sk e k d o s).directory = s.directory ∧ (settleEpoch sk e k d o s).classes = s.classes ∧
    (settleEpoch sk e k d o s).routes = s.routes ∧ (settleEpoch sk e k d o s).referenceCounter = s.referenceCounter ∧ (settleEpoch sk e k d o s).groups = s.groups ∧
    (settleEpoch sk e k d o s).mode = s.mode ∧ (settleEpoch sk e k d o s).lock = s.lock ∧ (settleEpoch sk e k d o s).params = s.params ∧
    (settleEpoch sk e k d o s).silenceUsed = s.silenceUsed ∧ (settleEpoch sk e k d o s).deviceKeyUsed = s.deviceKeyUsed ∧ (settleEpoch sk e k d o s).silence = s.silence ∧
    (settleEpoch sk e k d o s).lastToken = s.lastToken ∧ (settleEpoch sk e k d o s).pending = s.pending := by
  unfold settleEpoch
  (repeat' split) <;> simp

/-- What completeChallenge never touches. -/
@[simp] theorem completeChallenge_keeps (s : State) :
    (completeChallenge s).resetHeld = s.resetHeld ∧ (completeChallenge s).strapCode = s.strapCode ∧ (completeChallenge s).receiver = s.receiver ∧
    (completeChallenge s).lostFlag = s.lostFlag ∧ (completeChallenge s).reportMask = s.reportMask ∧ (completeChallenge s).frameReference = s.frameReference ∧
    (completeChallenge s).watchRunning = s.watchRunning ∧ (completeChallenge s).channelTable = s.channelTable ∧ (completeChallenge s).routedAs = s.routedAs ∧
    (completeChallenge s).heldInbound = s.heldInbound ∧ (completeChallenge s).heldOutbound = s.heldOutbound ∧ (completeChallenge s).portTransmit = s.portTransmit ∧
    (completeChallenge s).matrixTransmit = s.matrixTransmit ∧ (completeChallenge s).afterFrame = s.afterFrame ∧ (completeChallenge s).deviceKey = s.deviceKey ∧
    (completeChallenge s).challengeCounter = s.challengeCounter ∧ (completeChallenge s).legs = s.legs ∧ (completeChallenge s).classes = s.classes ∧
    (completeChallenge s).routes = s.routes ∧ (completeChallenge s).calls = s.calls ∧ (completeChallenge s).referenceCounter = s.referenceCounter ∧
    (completeChallenge s).groups = s.groups ∧ (completeChallenge s).mode = s.mode ∧ (completeChallenge s).lock = s.lock ∧
    (completeChallenge s).params = s.params ∧ (completeChallenge s).silenceUsed = s.silenceUsed ∧ (completeChallenge s).deviceKeyUsed = s.deviceKeyUsed ∧
    (completeChallenge s).silence = s.silence ∧ (completeChallenge s).lastToken = s.lastToken ∧ (completeChallenge s).pending = s.pending := by
  unfold completeChallenge
  dsimp only
  (repeat' split) <;> simp

/-- What completeCheck never touches. -/
@[simp] theorem completeCheck_keeps (s : State) :
    (completeCheck s).resetHeld = s.resetHeld ∧ (completeCheck s).strapCode = s.strapCode ∧ (completeCheck s).receiver = s.receiver ∧
    (completeCheck s).reportMask = s.reportMask ∧ (completeCheck s).frameReference = s.frameReference ∧ (completeCheck s).watchRunning = s.watchRunning ∧
    (completeCheck s).channelTable = s.channelTable ∧ (completeCheck s).routedAs = s.routedAs ∧ (completeCheck s).heldInbound = s.heldInbound ∧
    (completeCheck s).heldOutbound = s.heldOutbound ∧ (completeCheck s).portTransmit = s.portTransmit ∧ (completeCheck s).matrixTransmit = s.matrixTransmit ∧
    (completeCheck s).afterFrame = s.afterFrame ∧ (completeCheck s).deviceKey = s.deviceKey ∧ (completeCheck s).challengeCounter = s.challengeCounter ∧
    (completeCheck s).legs = s.legs ∧ (completeCheck s).classes = s.classes ∧ (completeCheck s).routes = s.routes ∧
    (completeCheck s).calls = s.calls ∧ (completeCheck s).referenceCounter = s.referenceCounter ∧ (completeCheck s).groups = s.groups ∧
    (completeCheck s).mode = s.mode ∧ (completeCheck s).lock = s.lock ∧ (completeCheck s).params = s.params ∧
    (completeCheck s).silenceUsed = s.silenceUsed ∧ (completeCheck s).deviceKeyUsed = s.deviceKeyUsed ∧ (completeCheck s).silence = s.silence ∧
    (completeCheck s).lastToken = s.lastToken ∧ (completeCheck s).pending = s.pending := by
  unfold completeCheck
  dsimp only
  (repeat' split) <;> simp

/-- What completeSession never touches. -/
@[simp] theorem completeSession_keeps (s : State) :
    (completeSession s).resetHeld = s.resetHeld ∧ (completeSession s).strapCode = s.strapCode ∧ (completeSession s).receiver = s.receiver ∧
    (completeSession s).requestBuffer = s.requestBuffer ∧ (completeSession s).replyQueue = s.replyQueue ∧ (completeSession s).reportQueue = s.reportQueue ∧
    (completeSession s).lostFlag = s.lostFlag ∧ (completeSession s).reportMask = s.reportMask ∧ (completeSession s).transmitting = s.transmitting ∧
    (completeSession s).frameReference = s.frameReference ∧ (completeSession s).watchRunning = s.watchRunning ∧ (completeSession s).channelTable = s.channelTable ∧
    (completeSession s).routedAs = s.routedAs ∧ (completeSession s).heldInbound = s.heldInbound ∧ (completeSession s).heldOutbound = s.heldOutbound ∧
    (completeSession s).portTransmit = s.portTransmit ∧ (completeSession s).matrixTransmit = s.matrixTransmit ∧ (completeSession s).afterFrame = s.afterFrame ∧
    (completeSession s).deviceKey = s.deviceKey ∧ (completeSession s).challengeCounter = s.challengeCounter ∧ (completeSession s).directory = s.directory ∧
    (completeSession s).classes = s.classes ∧ (completeSession s).routes = s.routes ∧ (completeSession s).calls = s.calls ∧
    (completeSession s).referenceCounter = s.referenceCounter ∧ (completeSession s).groups = s.groups ∧ (completeSession s).mode = s.mode ∧
    (completeSession s).lock = s.lock ∧ (completeSession s).params = s.params ∧ (completeSession s).silenceUsed = s.silenceUsed ∧
    (completeSession s).deviceKeyUsed = s.deviceKeyUsed ∧ (completeSession s).silence = s.silence ∧ (completeSession s).lastToken = s.lastToken ∧
    (completeSession s).pending = s.pending := by
  unfold completeSession
  dsimp only
  (repeat' split) <;> simp

/-- What completeEpoch never touches. -/
@[simp] theorem completeEpoch_keeps (s : State) :
    (completeEpoch s).resetHeld = s.resetHeld ∧ (completeEpoch s).strapCode = s.strapCode ∧ (completeEpoch s).receiver = s.receiver ∧
    (completeEpoch s).requestBuffer = s.requestBuffer ∧ (completeEpoch s).reportMask = s.reportMask ∧ (completeEpoch s).frameReference = s.frameReference ∧
    (completeEpoch s).watchRunning = s.watchRunning ∧ (completeEpoch s).channelTable = s.channelTable ∧ (completeEpoch s).routedAs = s.routedAs ∧
    (completeEpoch s).heldInbound = s.heldInbound ∧ (completeEpoch s).heldOutbound = s.heldOutbound ∧ (completeEpoch s).portTransmit = s.portTransmit ∧
    (completeEpoch s).matrixTransmit = s.matrixTransmit ∧ (completeEpoch s).afterFrame = s.afterFrame ∧ (completeEpoch s).deviceKey = s.deviceKey ∧
    (completeEpoch s).challengeCounter = s.challengeCounter ∧ (completeEpoch s).directory = s.directory ∧ (completeEpoch s).classes = s.classes ∧
    (completeEpoch s).routes = s.routes ∧ (completeEpoch s).referenceCounter = s.referenceCounter ∧ (completeEpoch s).groups = s.groups ∧
    (completeEpoch s).mode = s.mode ∧ (completeEpoch s).lock = s.lock ∧ (completeEpoch s).params = s.params ∧
    (completeEpoch s).silenceUsed = s.silenceUsed ∧ (completeEpoch s).deviceKeyUsed = s.deviceKeyUsed ∧ (completeEpoch s).silence = s.silence ∧
    (completeEpoch s).lastToken = s.lastToken ∧ (completeEpoch s).pending = s.pending := by
  unfold completeEpoch
  dsimp only
  (repeat' split) <;> simp

/-- What failureCascade never touches. -/
@[simp] theorem failureCascade_keeps (o : Owner) (s : State) :
    (failureCascade o s).resetHeld = s.resetHeld ∧ (failureCascade o s).strapCode = s.strapCode ∧ (failureCascade o s).receiver = s.receiver ∧
    (failureCascade o s).requestBuffer = s.requestBuffer ∧ (failureCascade o s).reportMask = s.reportMask ∧ (failureCascade o s).frameReference = s.frameReference ∧
    (failureCascade o s).watchRunning = s.watchRunning ∧ (failureCascade o s).routedAs = s.routedAs ∧ (failureCascade o s).heldInbound = s.heldInbound ∧
    (failureCascade o s).heldOutbound = s.heldOutbound ∧ (failureCascade o s).portTransmit = s.portTransmit ∧ (failureCascade o s).matrixTransmit = s.matrixTransmit ∧
    (failureCascade o s).afterFrame = s.afterFrame ∧ (failureCascade o s).jobs = s.jobs ∧ (failureCascade o s).deviceKey = s.deviceKey ∧
    (failureCascade o s).challengeCounter = s.challengeCounter ∧ (failureCascade o s).classes = s.classes ∧ (failureCascade o s).routes = s.routes ∧
    (failureCascade o s).referenceCounter = s.referenceCounter ∧ (failureCascade o s).mode = s.mode ∧ (failureCascade o s).lock = s.lock ∧
    (failureCascade o s).params = s.params ∧ (failureCascade o s).silenceUsed = s.silenceUsed ∧ (failureCascade o s).deviceKeyUsed = s.deviceKeyUsed ∧
    (failureCascade o s).silence = s.silence ∧ (failureCascade o s).lastToken = s.lastToken ∧ (failureCascade o s).pending = s.pending := by
  unfold failureCascade
  (repeat' split) <;> simp

/-- What failLeg never touches. -/
@[simp] theorem failLeg_keeps (k : Nat) (s : State) :
    (failLeg k s).resetHeld = s.resetHeld ∧ (failLeg k s).strapCode = s.strapCode ∧ (failLeg k s).receiver = s.receiver ∧
    (failLeg k s).requestBuffer = s.requestBuffer ∧ (failLeg k s).reportMask = s.reportMask ∧ (failLeg k s).frameReference = s.frameReference ∧
    (failLeg k s).watchRunning = s.watchRunning ∧ (failLeg k s).routedAs = s.routedAs ∧ (failLeg k s).heldInbound = s.heldInbound ∧
    (failLeg k s).heldOutbound = s.heldOutbound ∧ (failLeg k s).portTransmit = s.portTransmit ∧ (failLeg k s).matrixTransmit = s.matrixTransmit ∧
    (failLeg k s).afterFrame = s.afterFrame ∧ (failLeg k s).jobs = s.jobs ∧ (failLeg k s).deviceKey = s.deviceKey ∧
    (failLeg k s).challengeCounter = s.challengeCounter ∧ (failLeg k s).classes = s.classes ∧ (failLeg k s).routes = s.routes ∧
    (failLeg k s).referenceCounter = s.referenceCounter ∧ (failLeg k s).mode = s.mode ∧ (failLeg k s).lock = s.lock ∧
    (failLeg k s).params = s.params ∧ (failLeg k s).silenceUsed = s.silenceUsed ∧ (failLeg k s).deviceKeyUsed = s.deviceKeyUsed ∧
    (failLeg k s).silence = s.silence ∧ (failLeg k s).lastToken = s.lastToken ∧ (failLeg k s).pending = s.pending := by
  unfold failLeg
  (repeat' split) <;> simp

/-- What expireWindow never touches. -/
@[simp] theorem expireWindow_keeps (i : Nat) (s : State) :
    (expireWindow i s).resetHeld = s.resetHeld ∧ (expireWindow i s).strapCode = s.strapCode ∧ (expireWindow i s).receiver = s.receiver ∧
    (expireWindow i s).requestBuffer = s.requestBuffer ∧ (expireWindow i s).reportMask = s.reportMask ∧ (expireWindow i s).frameReference = s.frameReference ∧
    (expireWindow i s).watchRunning = s.watchRunning ∧ (expireWindow i s).channelTable = s.channelTable ∧ (expireWindow i s).routedAs = s.routedAs ∧
    (expireWindow i s).heldInbound = s.heldInbound ∧ (expireWindow i s).heldOutbound = s.heldOutbound ∧ (expireWindow i s).portTransmit = s.portTransmit ∧
    (expireWindow i s).matrixTransmit = s.matrixTransmit ∧ (expireWindow i s).afterFrame = s.afterFrame ∧ (expireWindow i s).jobs = s.jobs ∧
    (expireWindow i s).deviceKey = s.deviceKey ∧ (expireWindow i s).challengeCounter = s.challengeCounter ∧ (expireWindow i s).legs = s.legs ∧
    (expireWindow i s).classes = s.classes ∧ (expireWindow i s).routes = s.routes ∧ (expireWindow i s).calls = s.calls ∧
    (expireWindow i s).referenceCounter = s.referenceCounter ∧ (expireWindow i s).groups = s.groups ∧ (expireWindow i s).mode = s.mode ∧
    (expireWindow i s).lock = s.lock ∧ (expireWindow i s).params = s.params ∧ (expireWindow i s).silenceUsed = s.silenceUsed ∧
    (expireWindow i s).deviceKeyUsed = s.deviceKeyUsed ∧ (expireWindow i s).silence = s.silence ∧ (expireWindow i s).lastToken = s.lastToken ∧
    (expireWindow i s).pending = s.pending := by
  unfold expireWindow
  dsimp only
  split <;> simp

/-- What expireLockout never touches. -/
@[simp] theorem expireLockout_keeps (i : Nat) (s : State) :
    (expireLockout i s).resetHeld = s.resetHeld ∧ (expireLockout i s).strapCode = s.strapCode ∧ (expireLockout i s).receiver = s.receiver ∧
    (expireLockout i s).requestBuffer = s.requestBuffer ∧ (expireLockout i s).reportMask = s.reportMask ∧ (expireLockout i s).frameReference = s.frameReference ∧
    (expireLockout i s).watchRunning = s.watchRunning ∧ (expireLockout i s).channelTable = s.channelTable ∧ (expireLockout i s).routedAs = s.routedAs ∧
    (expireLockout i s).heldInbound = s.heldInbound ∧ (expireLockout i s).heldOutbound = s.heldOutbound ∧ (expireLockout i s).portTransmit = s.portTransmit ∧
    (expireLockout i s).matrixTransmit = s.matrixTransmit ∧ (expireLockout i s).afterFrame = s.afterFrame ∧ (expireLockout i s).jobs = s.jobs ∧
    (expireLockout i s).deviceKey = s.deviceKey ∧ (expireLockout i s).challengeCounter = s.challengeCounter ∧ (expireLockout i s).legs = s.legs ∧
    (expireLockout i s).classes = s.classes ∧ (expireLockout i s).routes = s.routes ∧ (expireLockout i s).calls = s.calls ∧
    (expireLockout i s).referenceCounter = s.referenceCounter ∧ (expireLockout i s).groups = s.groups ∧ (expireLockout i s).mode = s.mode ∧
    (expireLockout i s).lock = s.lock ∧ (expireLockout i s).params = s.params ∧ (expireLockout i s).silenceUsed = s.silenceUsed ∧
    (expireLockout i s).deviceKeyUsed = s.deviceKeyUsed ∧ (expireLockout i s).silence = s.silence ∧ (expireLockout i s).lastToken = s.lastToken ∧
    (expireLockout i s).pending = s.pending := by
  unfold expireLockout
  (repeat' split) <;> simp

/-- What expireInterdigit never touches. -/
@[simp] theorem expireInterdigit_keeps (i : Nat) (s : State) :
    (expireInterdigit i s).resetHeld = s.resetHeld ∧ (expireInterdigit i s).strapCode = s.strapCode ∧ (expireInterdigit i s).receiver = s.receiver ∧
    (expireInterdigit i s).requestBuffer = s.requestBuffer ∧ (expireInterdigit i s).reportMask = s.reportMask ∧ (expireInterdigit i s).frameReference = s.frameReference ∧
    (expireInterdigit i s).watchRunning = s.watchRunning ∧ (expireInterdigit i s).channelTable = s.channelTable ∧ (expireInterdigit i s).routedAs = s.routedAs ∧
    (expireInterdigit i s).heldInbound = s.heldInbound ∧ (expireInterdigit i s).heldOutbound = s.heldOutbound ∧ (expireInterdigit i s).portTransmit = s.portTransmit ∧
    (expireInterdigit i s).matrixTransmit = s.matrixTransmit ∧ (expireInterdigit i s).afterFrame = s.afterFrame ∧ (expireInterdigit i s).jobs = s.jobs ∧
    (expireInterdigit i s).deviceKey = s.deviceKey ∧ (expireInterdigit i s).challengeCounter = s.challengeCounter ∧ (expireInterdigit i s).legs = s.legs ∧
    (expireInterdigit i s).classes = s.classes ∧ (expireInterdigit i s).routes = s.routes ∧ (expireInterdigit i s).calls = s.calls ∧
    (expireInterdigit i s).referenceCounter = s.referenceCounter ∧ (expireInterdigit i s).groups = s.groups ∧ (expireInterdigit i s).mode = s.mode ∧
    (expireInterdigit i s).lock = s.lock ∧ (expireInterdigit i s).params = s.params ∧ (expireInterdigit i s).silenceUsed = s.silenceUsed ∧
    (expireInterdigit i s).deviceKeyUsed = s.deviceKeyUsed ∧ (expireInterdigit i s).silence = s.silence ∧ (expireInterdigit i s).lastToken = s.lastToken ∧
    (expireInterdigit i s).pending = s.pending := by
  unfold expireInterdigit
  (repeat' split) <;> simp

/-- What expireGrace never touches. -/
@[simp] theorem expireGrace_keeps (r : Nat) (s : State) :
    (expireGrace r s).resetHeld = s.resetHeld ∧ (expireGrace r s).strapCode = s.strapCode ∧ (expireGrace r s).receiver = s.receiver ∧
    (expireGrace r s).requestBuffer = s.requestBuffer ∧ (expireGrace r s).reportMask = s.reportMask ∧ (expireGrace r s).frameReference = s.frameReference ∧
    (expireGrace r s).watchRunning = s.watchRunning ∧ (expireGrace r s).routedAs = s.routedAs ∧ (expireGrace r s).heldInbound = s.heldInbound ∧
    (expireGrace r s).heldOutbound = s.heldOutbound ∧ (expireGrace r s).portTransmit = s.portTransmit ∧ (expireGrace r s).matrixTransmit = s.matrixTransmit ∧
    (expireGrace r s).afterFrame = s.afterFrame ∧ (expireGrace r s).jobs = s.jobs ∧ (expireGrace r s).deviceKey = s.deviceKey ∧
    (expireGrace r s).challengeCounter = s.challengeCounter ∧ (expireGrace r s).classes = s.classes ∧ (expireGrace r s).routes = s.routes ∧
    (expireGrace r s).referenceCounter = s.referenceCounter ∧ (expireGrace r s).mode = s.mode ∧ (expireGrace r s).lock = s.lock ∧
    (expireGrace r s).params = s.params ∧ (expireGrace r s).silenceUsed = s.silenceUsed ∧ (expireGrace r s).deviceKeyUsed = s.deviceKeyUsed ∧
    (expireGrace r s).silence = s.silence ∧ (expireGrace r s).lastToken = s.lastToken ∧ (expireGrace r s).pending = s.pending := by
  unfold expireGrace
  (repeat' split) <;> simp

/-- What enterStandalone never touches. -/
@[simp] theorem enterStandalone_keeps (s : State) :
    (enterStandalone s).resetHeld = s.resetHeld ∧ (enterStandalone s).strapCode = s.strapCode ∧ (enterStandalone s).receiver = s.receiver ∧
    (enterStandalone s).reportMask = s.reportMask ∧ (enterStandalone s).frameReference = s.frameReference ∧ (enterStandalone s).watchRunning = s.watchRunning ∧
    (enterStandalone s).channelTable = s.channelTable ∧ (enterStandalone s).routedAs = s.routedAs ∧ (enterStandalone s).heldInbound = s.heldInbound ∧
    (enterStandalone s).heldOutbound = s.heldOutbound ∧ (enterStandalone s).portTransmit = s.portTransmit ∧ (enterStandalone s).matrixTransmit = s.matrixTransmit ∧
    (enterStandalone s).afterFrame = s.afterFrame ∧ (enterStandalone s).jobs = s.jobs ∧ (enterStandalone s).deviceKey = s.deviceKey ∧
    (enterStandalone s).challengeCounter = s.challengeCounter ∧ (enterStandalone s).legs = s.legs ∧ (enterStandalone s).classes = s.classes ∧
    (enterStandalone s).routes = s.routes ∧ (enterStandalone s).calls = s.calls ∧ (enterStandalone s).referenceCounter = s.referenceCounter ∧
    (enterStandalone s).groups = s.groups ∧ (enterStandalone s).lock = s.lock ∧ (enterStandalone s).params = s.params ∧
    (enterStandalone s).silenceUsed = s.silenceUsed ∧ (enterStandalone s).deviceKeyUsed = s.deviceKeyUsed ∧ (enterStandalone s).lastToken = s.lastToken ∧
    (enterStandalone s).pending = s.pending := by
  unfold enterStandalone
  (repeat' split) <;> simp

/-- What clearFrame never touches. -/
@[simp] theorem clearFrame_keeps (c : Nat) (x y : Byte) (s : State) :
    (clearFrame c x y s).1.resetHeld = s.resetHeld ∧ (clearFrame c x y s).1.strapCode = s.strapCode ∧ (clearFrame c x y s).1.receiver = s.receiver ∧
    (clearFrame c x y s).1.requestBuffer = s.requestBuffer ∧ (clearFrame c x y s).1.replyQueue = s.replyQueue ∧ (clearFrame c x y s).1.reportQueue = s.reportQueue ∧
    (clearFrame c x y s).1.lostFlag = s.lostFlag ∧ (clearFrame c x y s).1.reportMask = s.reportMask ∧ (clearFrame c x y s).1.transmitting = s.transmitting ∧
    (clearFrame c x y s).1.frameReference = s.frameReference ∧ (clearFrame c x y s).1.watchRunning = s.watchRunning ∧ (clearFrame c x y s).1.channelTable = s.channelTable ∧
    (clearFrame c x y s).1.routedAs = s.routedAs ∧ (clearFrame c x y s).1.portTransmit = s.portTransmit ∧ (clearFrame c x y s).1.matrixTransmit = s.matrixTransmit ∧
    (clearFrame c x y s).1.afterFrame = s.afterFrame ∧ (clearFrame c x y s).1.jobs = s.jobs ∧ (clearFrame c x y s).1.deviceKey = s.deviceKey ∧
    (clearFrame c x y s).1.challengeCounter = s.challengeCounter ∧ (clearFrame c x y s).1.legs = s.legs ∧ (clearFrame c x y s).1.directory = s.directory ∧
    (clearFrame c x y s).1.classes = s.classes ∧ (clearFrame c x y s).1.routes = s.routes ∧ (clearFrame c x y s).1.calls = s.calls ∧
    (clearFrame c x y s).1.referenceCounter = s.referenceCounter ∧ (clearFrame c x y s).1.groups = s.groups ∧ (clearFrame c x y s).1.mode = s.mode ∧
    (clearFrame c x y s).1.lock = s.lock ∧ (clearFrame c x y s).1.params = s.params ∧ (clearFrame c x y s).1.silenceUsed = s.silenceUsed ∧
    (clearFrame c x y s).1.deviceKeyUsed = s.deviceKeyUsed ∧ (clearFrame c x y s).1.silence = s.silence ∧ (clearFrame c x y s).1.lastToken = s.lastToken ∧
    (clearFrame c x y s).1.pending = s.pending := by
  simp [clearFrame]

/-- What legFrame never touches. -/
@[simp] theorem legFrame_keeps (k c : Nat) (x y : Byte) (s : State) :
    (legFrame k c x y s).1.resetHeld = s.resetHeld ∧ (legFrame k c x y s).1.strapCode = s.strapCode ∧ (legFrame k c x y s).1.receiver = s.receiver ∧
    (legFrame k c x y s).1.requestBuffer = s.requestBuffer ∧ (legFrame k c x y s).1.reportMask = s.reportMask ∧ (legFrame k c x y s).1.frameReference = s.frameReference ∧
    (legFrame k c x y s).1.watchRunning = s.watchRunning ∧ (legFrame k c x y s).1.channelTable = s.channelTable ∧ (legFrame k c x y s).1.routedAs = s.routedAs ∧
    (legFrame k c x y s).1.portTransmit = s.portTransmit ∧ (legFrame k c x y s).1.matrixTransmit = s.matrixTransmit ∧ (legFrame k c x y s).1.afterFrame = s.afterFrame ∧
    (legFrame k c x y s).1.deviceKey = s.deviceKey ∧ (legFrame k c x y s).1.challengeCounter = s.challengeCounter ∧ (legFrame k c x y s).1.directory = s.directory ∧
    (legFrame k c x y s).1.classes = s.classes ∧ (legFrame k c x y s).1.routes = s.routes ∧ (legFrame k c x y s).1.referenceCounter = s.referenceCounter ∧
    (legFrame k c x y s).1.groups = s.groups ∧ (legFrame k c x y s).1.mode = s.mode ∧ (legFrame k c x y s).1.lock = s.lock ∧
    (legFrame k c x y s).1.params = s.params ∧ (legFrame k c x y s).1.silenceUsed = s.silenceUsed ∧ (legFrame k c x y s).1.deviceKeyUsed = s.deviceKeyUsed ∧
    (legFrame k c x y s).1.silence = s.silence ∧ (legFrame k c x y s).1.lastToken = s.lastToken ∧ (legFrame k c x y s).1.pending = s.pending := by
  unfold legFrame
  dsimp only
  split <;> simp

/-- What driveChannel never touches. -/
@[simp] theorem driveChannel_keeps (c : Nat) (p q : Bool) (y : ChannelOutput) (s : State) :
    (driveChannel c p q y s).resetHeld = s.resetHeld ∧ (driveChannel c p q y s).strapCode = s.strapCode ∧ (driveChannel c p q y s).receiver = s.receiver ∧
    (driveChannel c p q y s).requestBuffer = s.requestBuffer ∧ (driveChannel c p q y s).replyQueue = s.replyQueue ∧ (driveChannel c p q y s).reportQueue = s.reportQueue ∧
    (driveChannel c p q y s).lostFlag = s.lostFlag ∧ (driveChannel c p q y s).reportMask = s.reportMask ∧ (driveChannel c p q y s).transmitting = s.transmitting ∧
    (driveChannel c p q y s).frameReference = s.frameReference ∧ (driveChannel c p q y s).watchRunning = s.watchRunning ∧ (driveChannel c p q y s).channelTable = s.channelTable ∧
    (driveChannel c p q y s).routedAs = s.routedAs ∧ (driveChannel c p q y s).heldInbound = s.heldInbound ∧ (driveChannel c p q y s).heldOutbound = s.heldOutbound ∧
    (driveChannel c p q y s).afterFrame = s.afterFrame ∧ (driveChannel c p q y s).jobs = s.jobs ∧ (driveChannel c p q y s).deviceKey = s.deviceKey ∧
    (driveChannel c p q y s).challengeCounter = s.challengeCounter ∧ (driveChannel c p q y s).legs = s.legs ∧ (driveChannel c p q y s).directory = s.directory ∧
    (driveChannel c p q y s).classes = s.classes ∧ (driveChannel c p q y s).routes = s.routes ∧ (driveChannel c p q y s).calls = s.calls ∧
    (driveChannel c p q y s).referenceCounter = s.referenceCounter ∧ (driveChannel c p q y s).groups = s.groups ∧ (driveChannel c p q y s).mode = s.mode ∧
    (driveChannel c p q y s).lock = s.lock ∧ (driveChannel c p q y s).params = s.params ∧ (driveChannel c p q y s).silenceUsed = s.silenceUsed ∧
    (driveChannel c p q y s).deviceKeyUsed = s.deviceKeyUsed ∧ (driveChannel c p q y s).silence = s.silence ∧ (driveChannel c p q y s).lastToken = s.lastToken ∧
    (driveChannel c p q y s).pending = s.pending := by
  simp [driveChannel]

/-- What channelFrame never touches. -/
@[simp] theorem channelFrame_keeps (b : Bool) (f : FrameSamples) (c : Nat) (s : State) :
    (channelFrame b f s c).resetHeld = s.resetHeld ∧ (channelFrame b f s c).strapCode = s.strapCode ∧ (channelFrame b f s c).receiver = s.receiver ∧
    (channelFrame b f s c).requestBuffer = s.requestBuffer ∧ (channelFrame b f s c).reportMask = s.reportMask ∧ (channelFrame b f s c).frameReference = s.frameReference ∧
    (channelFrame b f s c).watchRunning = s.watchRunning ∧ (channelFrame b f s c).channelTable = s.channelTable ∧ (channelFrame b f s c).routedAs = s.routedAs ∧
    (channelFrame b f s c).afterFrame = s.afterFrame ∧ (channelFrame b f s c).deviceKey = s.deviceKey ∧ (channelFrame b f s c).challengeCounter = s.challengeCounter ∧
    (channelFrame b f s c).directory = s.directory ∧ (channelFrame b f s c).classes = s.classes ∧ (channelFrame b f s c).routes = s.routes ∧
    (channelFrame b f s c).referenceCounter = s.referenceCounter ∧ (channelFrame b f s c).groups = s.groups ∧ (channelFrame b f s c).mode = s.mode ∧
    (channelFrame b f s c).lock = s.lock ∧ (channelFrame b f s c).params = s.params ∧ (channelFrame b f s c).silenceUsed = s.silenceUsed ∧
    (channelFrame b f s c).deviceKeyUsed = s.deviceKeyUsed ∧ (channelFrame b f s c).silence = s.silence ∧ (channelFrame b f s c).lastToken = s.lastToken ∧
    (channelFrame b f s c).pending = s.pending := by
  unfold channelFrame
  dsimp only
  split <;> simp

/-- What a whole list of these steps never touches. -/
@[simp] theorem channelFrames_keeps (b : Bool) (f : FrameSamples) (l : List Nat) (s : State) :
    (l.foldl (channelFrame b f) s).resetHeld = s.resetHeld ∧ (l.foldl (channelFrame b f) s).strapCode = s.strapCode ∧ (l.foldl (channelFrame b f) s).receiver = s.receiver ∧
    (l.foldl (channelFrame b f) s).requestBuffer = s.requestBuffer ∧ (l.foldl (channelFrame b f) s).reportMask = s.reportMask ∧ (l.foldl (channelFrame b f) s).frameReference = s.frameReference ∧
    (l.foldl (channelFrame b f) s).watchRunning = s.watchRunning ∧ (l.foldl (channelFrame b f) s).channelTable = s.channelTable ∧ (l.foldl (channelFrame b f) s).routedAs = s.routedAs ∧
    (l.foldl (channelFrame b f) s).afterFrame = s.afterFrame ∧ (l.foldl (channelFrame b f) s).deviceKey = s.deviceKey ∧ (l.foldl (channelFrame b f) s).challengeCounter = s.challengeCounter ∧
    (l.foldl (channelFrame b f) s).directory = s.directory ∧ (l.foldl (channelFrame b f) s).classes = s.classes ∧ (l.foldl (channelFrame b f) s).routes = s.routes ∧
    (l.foldl (channelFrame b f) s).referenceCounter = s.referenceCounter ∧ (l.foldl (channelFrame b f) s).groups = s.groups ∧ (l.foldl (channelFrame b f) s).mode = s.mode ∧
    (l.foldl (channelFrame b f) s).lock = s.lock ∧ (l.foldl (channelFrame b f) s).params = s.params ∧ (l.foldl (channelFrame b f) s).silenceUsed = s.silenceUsed ∧
    (l.foldl (channelFrame b f) s).deviceKeyUsed = s.deviceKeyUsed ∧ (l.foldl (channelFrame b f) s).silence = s.silence ∧ (l.foldl (channelFrame b f) s).lastToken = s.lastToken ∧
    (l.foldl (channelFrame b f) s).pending = s.pending := by
  induction l generalizing s with
  | nil => simp
  | cons c l ih => simpa using ih (channelFrame b f s c)

/-- What runFrame never touches. -/
@[simp] theorem runFrame_keeps (b : Bool) (f : FrameSamples) (s : State) :
    (runFrame b f s).resetHeld = s.resetHeld ∧ (runFrame b f s).strapCode = s.strapCode ∧ (runFrame b f s).receiver = s.receiver ∧
    (runFrame b f s).requestBuffer = s.requestBuffer ∧ (runFrame b f s).reportMask = s.reportMask ∧ (runFrame b f s).frameReference = s.frameReference ∧
    (runFrame b f s).watchRunning = s.watchRunning ∧ (runFrame b f s).channelTable = s.channelTable ∧ (runFrame b f s).deviceKey = s.deviceKey ∧
    (runFrame b f s).challengeCounter = s.challengeCounter ∧ (runFrame b f s).directory = s.directory ∧ (runFrame b f s).classes = s.classes ∧
    (runFrame b f s).routes = s.routes ∧ (runFrame b f s).referenceCounter = s.referenceCounter ∧ (runFrame b f s).groups = s.groups ∧
    (runFrame b f s).mode = s.mode ∧ (runFrame b f s).lock = s.lock ∧ (runFrame b f s).params = s.params ∧
    (runFrame b f s).silenceUsed = s.silenceUsed ∧ (runFrame b f s).deviceKeyUsed = s.deviceKeyUsed ∧ (runFrame b f s).silence = s.silence ∧
    (runFrame b f s).lastToken = s.lastToken ∧ (runFrame b f s).pending = s.pending := by
  simp [runFrame]

/-- What acceptPulse never touches. -/
@[simp] theorem acceptPulse_keeps (f : FrameSamples) (s : State) :
    (acceptPulse f s).resetHeld = s.resetHeld ∧ (acceptPulse f s).strapCode = s.strapCode ∧ (acceptPulse f s).receiver = s.receiver ∧
    (acceptPulse f s).requestBuffer = s.requestBuffer ∧ (acceptPulse f s).reportMask = s.reportMask ∧ (acceptPulse f s).channelTable = s.channelTable ∧
    (acceptPulse f s).deviceKey = s.deviceKey ∧ (acceptPulse f s).challengeCounter = s.challengeCounter ∧ (acceptPulse f s).directory = s.directory ∧
    (acceptPulse f s).classes = s.classes ∧ (acceptPulse f s).routes = s.routes ∧ (acceptPulse f s).referenceCounter = s.referenceCounter ∧
    (acceptPulse f s).groups = s.groups ∧ (acceptPulse f s).mode = s.mode ∧ (acceptPulse f s).lock = s.lock ∧
    (acceptPulse f s).params = s.params ∧ (acceptPulse f s).silenceUsed = s.silenceUsed ∧ (acceptPulse f s).deviceKeyUsed = s.deviceKeyUsed ∧
    (acceptPulse f s).silence = s.silence ∧ (acceptPulse f s).lastToken = s.lastToken ∧ (acceptPulse f s).pending = s.pending := by
  unfold acceptPulse
  (repeat' split) <;> simp

/-- What loseReference never touches. -/
@[simp] theorem loseReference_keeps (s : State) :
    (loseReference s).resetHeld = s.resetHeld ∧ (loseReference s).strapCode = s.strapCode ∧ (loseReference s).receiver = s.receiver ∧
    (loseReference s).requestBuffer = s.requestBuffer ∧ (loseReference s).reportMask = s.reportMask ∧ (loseReference s).watchRunning = s.watchRunning ∧
    (loseReference s).channelTable = s.channelTable ∧ (loseReference s).routedAs = s.routedAs ∧ (loseReference s).heldInbound = s.heldInbound ∧
    (loseReference s).heldOutbound = s.heldOutbound ∧ (loseReference s).portTransmit = s.portTransmit ∧ (loseReference s).matrixTransmit = s.matrixTransmit ∧
    (loseReference s).afterFrame = s.afterFrame ∧ (loseReference s).deviceKey = s.deviceKey ∧ (loseReference s).challengeCounter = s.challengeCounter ∧
    (loseReference s).directory = s.directory ∧ (loseReference s).classes = s.classes ∧ (loseReference s).routes = s.routes ∧
    (loseReference s).referenceCounter = s.referenceCounter ∧ (loseReference s).groups = s.groups ∧ (loseReference s).mode = s.mode ∧
    (loseReference s).lock = s.lock ∧ (loseReference s).params = s.params ∧ (loseReference s).silenceUsed = s.silenceUsed ∧
    (loseReference s).deviceKeyUsed = s.deviceKeyUsed ∧ (loseReference s).silence = s.silence ∧ (loseReference s).lastToken = s.lastToken ∧
    (loseReference s).pending = s.pending := by
  unfold loseReference
  dsimp only
  split <;> simp

/-- What completeTransmission never touches. -/
@[simp] theorem completeTransmission_keeps (s : State) :
    (completeTransmission s).resetHeld = s.resetHeld ∧ (completeTransmission s).strapCode = s.strapCode ∧ (completeTransmission s).receiver = s.receiver ∧
    (completeTransmission s).lostFlag = s.lostFlag ∧ (completeTransmission s).reportMask = s.reportMask ∧ (completeTransmission s).frameReference = s.frameReference ∧
    (completeTransmission s).watchRunning = s.watchRunning ∧ (completeTransmission s).channelTable = s.channelTable ∧ (completeTransmission s).routedAs = s.routedAs ∧
    (completeTransmission s).heldInbound = s.heldInbound ∧ (completeTransmission s).heldOutbound = s.heldOutbound ∧ (completeTransmission s).portTransmit = s.portTransmit ∧
    (completeTransmission s).matrixTransmit = s.matrixTransmit ∧ (completeTransmission s).afterFrame = s.afterFrame ∧ (completeTransmission s).jobs = s.jobs ∧
    (completeTransmission s).deviceKey = s.deviceKey ∧ (completeTransmission s).challengeCounter = s.challengeCounter ∧ (completeTransmission s).legs = s.legs ∧
    (completeTransmission s).directory = s.directory ∧ (completeTransmission s).classes = s.classes ∧ (completeTransmission s).routes = s.routes ∧
    (completeTransmission s).calls = s.calls ∧ (completeTransmission s).referenceCounter = s.referenceCounter ∧ (completeTransmission s).groups = s.groups ∧
    (completeTransmission s).mode = s.mode ∧ (completeTransmission s).lock = s.lock ∧ (completeTransmission s).params = s.params ∧
    (completeTransmission s).silenceUsed = s.silenceUsed ∧ (completeTransmission s).deviceKeyUsed = s.deviceKeyUsed ∧ (completeTransmission s).silence = s.silence ∧
    (completeTransmission s).lastToken = s.lastToken ∧ (completeTransmission s).pending = s.pending := by
  unfold completeTransmission
  dsimp only
  (repeat' split) <;> simp

end Sys2Proof.Machine
end

