-- ==== Sys2Proof/Laws/Ops.lean ====
section
/-! SUPPORT. For each shared operation, what it can do to the fields it may touch. -/

namespace Sys2Proof.Machine

/-! ### Records read back -/

theorem entry_setEntry (s : State) (i j : Nat) (e : Entry) :
    (s.setEntry i e).entry j = if i = j ∧ i < 512 then e else s.entry j := readAt_writeAt _ _ _ _ _

@[simp] theorem entry_setEntry_ne (s : State) (i j : Nat) (e : Entry) (h : i ≠ j) :
    (s.setEntry i e).entry j = s.entry j := readAt_writeAt_ne _ _ _ _ _ h

theorem leg_setLeg (s : State) (k j : Nat) (l : Leg) :
    (s.setLeg k l).leg j = if k = j ∧ k < 48 then l else s.leg j := readAt_writeAt _ _ _ _ _

theorem routing_setRouting (s : State) (c d : Nat) (r : Routing) :
    (s.setRouting c r).routing d = if c = d ∧ c < 128 then r else s.routing d := readAt_writeAt _ _ _ _ _

theorem classRecord_setClassRecord (s : State) (c d : Nat) (r : ClassRecord) :
    (s.setClassRecord c r).classRecord d = if c = d ∧ c < 16 then r else s.classRecord d := readAt_writeAt _ _ _ _ _

theorem route_setRoute (s : State) (m n : Nat) (r : Option Route) :
    (s.setRoute m r).route n = if m = n ∧ m < 64 then r else s.route n := readAt_writeAt _ _ _ _ _

theorem group_setGroup (s : State) (g h : Nat) (r : Group) :
    (s.setGroup g r).group h = if g = h ∧ g < 16 then r else s.group h := readAt_writeAt _ _ _ _ _

theorem slot_setSlot (s : State) (i j : Nat) (h : Option HeldRequest) :
    (s.setSlot i h).slot j = if i = j ∧ i < 4 then h else s.slot j := readAt_writeAt _ _ _ _ _

@[simp] theorem setEntry_setEntry (s : State) (i : Nat) (e f : Entry) :
    (s.setEntry i e).setEntry i f = s.setEntry i f := by simp [State.setEntry]

@[simp] theorem setSlot_setSlot (s : State) (j : Nat) (h g : Option HeldRequest) :
    (s.setSlot j h).setSlot j g = s.setSlot j g := by simp [State.setSlot]

/-- The slot a frame takes is an empty slot of the four (R166), and RESET_N is not held (R185). -/
theorem freeSlot_spec (s : State) (j : Nat) (h : s.freeSlot = some j) :
    j < 4 ∧ s.slot j = none ∧ s.resetHeld = false := by
  unfold State.freeSlot at h
  split at h
  · simp at h
  · obtain ⟨hj, he⟩ := lowest_spec _ none s.requestBuffer j h
    exact ⟨hj, by simpa [State.slot] using he, by simpa using ‹¬s.resetHeld = true›⟩

theorem freeLeg_spec (s : State) (k : Nat) (h : s.freeLeg = some k) : k < 48 ∧ (s.leg k).use.isFree = true :=
  lowest_spec _ Leg.atReset s.legs k h

theorem lookupNumber_eq_none (s : State) (d : List Nat) :
    s.lookupNumber d = none ↔ ∀ i < 512, (s.entry i).state = .vacant ∨ (s.entry i).number ≠ d := by
  rw [State.lookupNumber, lowest_eq_none _ Entry.vacant]
  simp only [State.entry, Bool.and_eq_false_iff, beq_eq_false_iff_ne, bne_eq_false_iff_eq]

theorem lookupNumber_spec (s : State) (d : List Nat) (i : Nat) (h : s.lookupNumber d = some i) :
    i < 512 ∧ (s.entry i).state ≠ .vacant ∧ (s.entry i).number = d := by
  have := lowest_spec _ Entry.vacant s.directory i h
  simpa [State.entry] using this

theorem deferredSlot_spec (s : State) (kind : Byte) (i j : Nat) (h : s.deferredSlot kind i = some j) :
    j < 4 ∧ ∃ r, s.slot j = some r ∧ r.kind = kind ∧ r.awaiting = some i := by
  obtain ⟨hj, hp⟩ := lowest_spec _ none s.requestBuffer j h
  refine ⟨hj, ?_⟩
  change (match s.slot j with | some h => h.kind == kind && h.awaiting == some i | none => false) = true at hp
  cases hs : s.slot j with
  | none => simp [hs] at hp
  | some r => exact ⟨r, rfl, by simpa [hs] using hp⟩

/-! ### Reports and the transmitter -/

/-- The transmitter is busy, takes the oldest reply, takes the oldest report, or has nothing to take (R171). -/
theorem transmitNext_spec (s : State) :
    ((∃ x, s.transmitting = some x) ∧ transmitNext s = s) ∨
    (∃ r rest, s.transmitting = none ∧ s.replyQueue = r :: rest ∧
      transmitNext s = { s with transmitting := some (.reply r), replyQueue := rest }) ∨
    (∃ q rest, s.transmitting = none ∧ s.replyQueue = [] ∧ s.reportQueue = q :: rest ∧
      transmitNext s = { s with transmitting := some (.report q), reportQueue := rest }) ∨
    (s.transmitting = none ∧ s.replyQueue = [] ∧ s.reportQueue = [] ∧ transmitNext s = s) := by
  unfold transmitNext
  cases ht : s.transmitting with
  | some x => exact .inl ⟨⟨x, rfl⟩, rfl⟩
  | none =>
    cases hr : s.replyQueue with
    | cons r rest => exact .inr (.inl ⟨r, rest, rfl, rfl, rfl⟩)
    | nil =>
      cases hq : s.reportQueue with
      | cons q rest => exact .inr (.inr (.inl ⟨q, rest, rfl, rfl, rfl, rfl⟩))
      | nil => exact .inr (.inr (.inr ⟨rfl, rfl, rfl, rfl⟩))

theorem transmitNext_length (s : State) : (transmitNext s).reportQueue.length ≤ s.reportQueue.length := by
  rcases transmitNext_spec s with ⟨-, e⟩ | ⟨r, rest, -, -, e⟩ | ⟨q, rest, -, -, hq, e⟩ | ⟨-, -, -, e⟩ <;> rw [e]
  simp [hq]

/-- A report is masked, admitted with the lost flag it carries and taken at once by an idle transmitter, or dropped with the
flag set (R171, R172). -/
theorem queueReport_spec (r : Report) (s : State) :
    (s.reportEnabled r = false ∧ queueReport r s = s) ∨
    (s.reportEnabled r = true ∧ s.reportQueue.length < 32 ∧ queueReport r s =
      transmitNext { s with reportQueue := s.reportQueue ++ [⟨r, s.lostFlag⟩], lostFlag := false }) ∨
    (s.reportEnabled r = true ∧ 32 ≤ s.reportQueue.length ∧ queueReport r s = { s with lostFlag := true }) := by
  unfold queueReport
  by_cases h : s.reportEnabled r = true
  · by_cases hq : s.reportQueue.length < 32
    · exact .inr (.inl ⟨h, hq, by rw [if_pos h, if_pos (by simpa [Config.reportCapacity] using hq)]⟩)
    · exact .inr (.inr ⟨h, by omega, by rw [if_pos h, if_neg (by simpa [Config.reportCapacity] using hq)]⟩)
  · exact .inl ⟨by simpa using h, by rw [if_neg h]⟩

theorem queueReport_length (r : Report) (s : State) (h : s.reportQueue.length ≤ 32) :
    (queueReport r s).reportQueue.length ≤ 32 := by
  rcases queueReport_spec r s with ⟨-, e⟩ | ⟨-, hl, e⟩ | ⟨-, -, e⟩ <;> rw [e]
  · exact h
  · refine (transmitNext_length _).trans ?_
    simp
    omega
  · exact h

/-- A busy transmitter keeps its frame, and what is formed or queued waits (R171). -/
theorem transmitNext_busy (s : State) (x : Sending) (h : s.transmitting = some x) : transmitNext s = s := by
  simp [transmitNext, h]

theorem formReply_busy (r : Reply) (s : State) (x : Sending) (h : s.transmitting = some x) :
    formReply r s = { s with replyQueue := s.replyQueue ++ [r] } := transmitNext_busy _ x h

theorem formReply_length (r : Reply) (s : State) : (formReply r s).reportQueue.length ≤ s.reportQueue.length :=
  transmitNext_length _

theorem queueReports_length (rs : List Report) (s : State) (h : s.reportQueue.length ≤ 32) :
    (queueReports rs s).reportQueue.length ≤ 32 := by
  induction rs generalizing s with
  | nil => exact h
  | cons r rs ih => exact ih _ (queueReport_length r s h)

/-- A deferred reply is owed by no slot, or is formed for the slot that owes it, which owes nothing after (R170). -/
theorem answerDeferred_spec (kind : Byte) (i : Nat) (st : Status) (body : List Byte) (s : State) :
    (s.deferredSlot kind i = none ∧ answerDeferred kind i st body s = s) ∨
    (∃ j h, s.deferredSlot kind i = some j ∧ j < 4 ∧ s.slot j = some h ∧ h.kind = kind ∧ h.awaiting = some i ∧
      answerDeferred kind i st body s =
        formReply ⟨some j, kind + 64, h.tag, st, body⟩ (s.setSlot j (some { h with awaiting := none }))) := by
  unfold answerDeferred
  cases hd : s.deferredSlot kind i with
  | none => exact .inl ⟨rfl, rfl⟩
  | some j =>
    obtain ⟨hj, h, hs, hk, ha⟩ := deferredSlot_spec s kind i j hd
    exact .inr ⟨j, h, rfl, hj, hs, hk, ha, by simp [hs]⟩

/-! ### Evaluation of calls -/

@[simp] theorem evaluateCalls_calls (s : State) : (evaluateCalls s).calls = s.calls.map s.evaluateCall := by
  simp [evaluateCalls]

theorem evaluateCalls_length (s : State) (h : s.reportQueue.length ≤ 32) :
    (evaluateCalls s).reportQueue.length ≤ 32 := queueReports_length _ _ h

/-- An evaluation changes a call's status and grace timer and nothing else (R146, R148). -/
theorem evaluateCall_keeps (s : State) (c : Call) :
    (s.evaluateCall c).ref = c.ref ∧ (s.evaluateCall c).a = c.a ∧ (s.evaluateCall c).b = c.b ∧
    (s.evaluateCall c).forwarded = c.forwarded ∧ (s.evaluateCall c).tieNumber = c.tieNumber ∧
    (s.evaluateCall c).tieLeg = c.tieLeg ∧ (s.evaluateCall c).service = c.service ∧
    (s.evaluateCall c).state = c.state ∧ (s.evaluateCall c).requiresSecure = c.requiresSecure ∧
    (s.evaluateCall c).bReservation = c.bReservation := by
  unfold State.evaluateCall
  split <;> simp

/-- After the notice the calls are as they were, or as an evaluation leaves them (R72). -/
theorem noticeRunning_spec (k : Nat) (b : Bool) (s : State) :
    noticeRunning k b s = s ∨ noticeRunning k b s = evaluateCalls s := by
  unfold noticeRunning
  split <;> simp

/-! ### Legs -/

/-- The FREE leg of lowest index is RESERVED for the owner, or there is none and nothing changes (R52). -/
theorem reserveLeg_spec (owner : Owner) (s : State) :
    (s.freeLeg = none ∧ reserveLeg owner s = (s, none)) ∨
    (∃ k, s.freeLeg = some k ∧ k < 48 ∧ (s.leg k).use.isFree = true ∧ (reserveLeg owner s).2 = some k ∧
      (reserveLeg owner s).1.legs = writeAt s.legs k { s.leg k with use := .reserved owner } ∧
      (reserveLeg owner s).1.directory = match owner with
        | .extension i => writeAt s.directory i { s.entry i with ownedLeg := some k }
        | _ => s.directory) := by
  unfold reserveLeg
  cases hf : s.freeLeg with
  | none => exact .inl ⟨rfl, rfl⟩
  | some k =>
    obtain ⟨hk, hfree⟩ := freeLeg_spec s k hf
    refine .inr ⟨k, rfl, hk, hfree, ?_⟩
    cases owner <;> simp [State.setEntry, State.setLeg, State.entry]

/-- A leg that is freed keeps its stamp and is FREE; no other leg changes (R53, R55). -/
theorem freeTheLeg_legs (k : Nat) (s : State) :
    (freeTheLeg k s).legs = if (s.leg k).use.isFree then s.legs else writeAt s.legs k ⟨(s.leg k).stamp, .free⟩ := by
  unfold freeTheLeg
  dsimp only
  split <;> (repeat' split) <;> simp_all [State.leg]

/-- The channel of an OPEN leg that is freed returns to CLEAR (R55). -/
theorem freeTheLeg_channelTable (k : Nat) (s : State) :
    (freeTheLeg k s).channelTable = match (s.leg k).use with
      | .opened _ r => writeAt s.channelTable r.channel .clear
      | _ => s.channelTable := by
  unfold freeTheLeg
  dsimp only
  cases (s.leg k).use <;> (repeat' split) <;> simp_all

/-- Freeing a leg clears the owned leg field of the extension that owned it (R77). -/
theorem freeTheLeg_directory (k : Nat) (s : State) :
    (freeTheLeg k s).directory = match (s.leg k).use.owner? with
      | some (.extension i) => writeAt s.directory i { s.entry i with ownedLeg := none }
      | _ => s.directory := by
  unfold freeTheLeg
  dsimp only
  (repeat' split) <;> simp_all [State.entry]

/-! ### The key unit's queue -/

theorem offerEpoch_jobs (k : Nat) (d : Direction) (s : State) :
    (offerEpoch k d s).jobs = s.jobs ∨
    (s.jobs.length < 32 ∧ ∃ sk e, (offerEpoch k d s).jobs = s.jobs ++ [.epoch sk e k d (s.leg k).stamp]) := by
  unfold offerEpoch placeEpochJob
  (repeat' split) <;> simp_all [State.jobPlace, Config.jobCapacity]
  exact of_decide_eq_true ‹_›

theorem retryEpoch_jobs (k : Nat) (d : Direction) (s : State) :
    (retryEpoch k d s).jobs = s.jobs ∨
    (s.jobs.length < 32 ∧ ∃ sk e, (retryEpoch k d s).jobs = s.jobs ++ [.epoch sk e k d (s.leg k).stamp]) := by
  unfold retryEpoch placeEpochJob
  (repeat' split) <;> simp_all [State.jobPlace, Config.jobCapacity]
  exact of_decide_eq_true ‹_›

theorem offerSession_jobs (k : Nat) (s : State) :
    (offerSession k s).jobs = s.jobs ∨
    (s.jobs.length < 32 ∧ ∃ key t, (offerSession k s).jobs = s.jobs ++ [.tieSession key t k (s.leg k).stamp]) := by
  unfold offerSession
  (repeat' split) <;> simp_all [State.jobPlace, Config.jobCapacity]
  exact of_decide_eq_true ‹_›

/-- An update of an open record reaches that leg alone, and its owner and stamp stay. -/
theorem updateOpen_legs (k : Nat) (f : OpenLeg → OpenLeg) (s : State) :
    (s.updateOpen k f).legs = match (s.leg k).use with
      | .opened o r => writeAt s.legs k { s.leg k with use := .opened o (f r) }
      | _ => s.legs := by
  unfold State.updateOpen
  split <;> simp_all

end Sys2Proof.Machine
end

