-- ==== Sys2Proof/Laws/Answers.lean ====
section
/-! SUPPORT. What the link makes of a request that it can take: the answer of the owning block is `answered` or
`deferred`, which the statements speak of. -/

namespace Sys2Proof.Machine

/-- An immediate answer of a request of a known kind, settled and sent on (R169, R170, R171). -/
theorem settleRequest_now (j : Nat) (kind tag : Byte) (st : Status) (body : List Byte) (s : State)
    (hk : replyKind kind = kind + 64) :
    settleRequest j kind tag (s, .now st body) = answered j kind tag st body s := by
  unfold settleRequest settleNow answered quietlyDone
  simp only [hk]
  by_cases ht : tag = 0 <;> simp [ht, or_assoc]

/-- A request with a free slot and the length of its kind reaches its handler (R168). -/
theorem requestArrives_handled (j : Nat) (kind tag : Byte) (len : Nat) (h : Handler) (s : State)
    (hs : s.freeSlot = some j) (hl : len ∈ allowedLengths kind.toNat)
    (hq : tag ≠ 0 ∨ kind ≠ kindAdmitBegin ∧ kind ≠ kindAdmitAnswer) :
    requestArrives kind tag len h s = settleRequest j kind tag (h s) := by
  have hc : ¬ (tag = 0 ∧ (kind = kindAdmitBegin ∨ kind = kindAdmitAnswer)) := by tauto
  simp only [requestArrives, takeSlot, linkTests, hs, List.contains_iff_mem.mpr hl, Bool.not_true, if_neg hc]
  simp

/-- A request whose handler answers at once is `answered` on the state the handler leaves. -/
theorem requestArrives_now (j : Nat) (kind tag : Byte) (len : Nat) (h : Handler) (s t : State) (st : Status)
    (body : List Byte) (hs : s.freeSlot = some j) (hl : len ∈ allowedLengths kind.toNat)
    (hq : tag ≠ 0 ∨ kind ≠ kindAdmitBegin ∧ kind ≠ kindAdmitAnswer) (hk : replyKind kind = kind + 64)
    (hh : h s = (t, .now st body)) :
    requestArrives kind tag len h s = answered j kind tag st body t := by
  rw [requestArrives_handled j kind tag len h s hs hl hq, hh, settleRequest_now _ _ _ _ _ _ hk]

/-- A request whose handler answers before the rest of its event is `answered` first (R102, R186). -/
theorem requestArrives_nowThen (j : Nat) (kind tag : Byte) (len : Nat) (h : Handler) (s t : State) (st : Status)
    (body : List Byte) (rest : State → State) (hs : s.freeSlot = some j) (hl : len ∈ allowedLengths kind.toNat)
    (hq : tag ≠ 0 ∨ kind ≠ kindAdmitBegin ∧ kind ≠ kindAdmitAnswer) (hk : replyKind kind = kind + 64)
    (hh : h s = (t, .nowThen st body rest)) :
    requestArrives kind tag len h s = rest (answered j kind tag st body t) := by
  rw [requestArrives_handled j kind tag len h s hs hl hq, hh, ← settleRequest_now _ _ _ _ _ _ hk]
  rfl

/-- A request whose handler owes its reply is `deferred` on the state the handler leaves. -/
theorem requestArrives_deferred (j : Nat) (kind tag : Byte) (len : Nat) (h : Handler) (s t : State) (i : Nat)
    (hs : s.freeSlot = some j) (hl : len ∈ allowedLengths kind.toNat)
    (hq : tag ≠ 0 ∨ kind ≠ kindAdmitBegin ∧ kind ≠ kindAdmitAnswer) (hh : h s = (t, .deferred i)) :
    requestArrives kind tag len h s = deferred j kind tag i t := by
  rw [requestArrives_handled j kind tag len h s hs hl hq, hh]
  rfl

/-- What `answered` never touches: every record of the other blocks. -/
@[simp] theorem answered_withoutLink (j : Nat) (kind tag : Byte) (st : Status) (body : List Byte) (s : State) :
    (answered j kind tag st body s).withoutLink = s.withoutLink := by
  unfold answered State.withoutLink
  split <;> (try split) <;> simp

end Sys2Proof.Machine
end

