-- ==== Sys2Proof/Laws/Fields.lean ====
section
/-! SUPPORT. Reading the fields of a payload, said once: a digits field gives the digits it carries, and the fields of WRITE
ROUTE give a route exactly when they are in range. -/

namespace Sys2Proof.Machine

/-- A digits field of `m` bytes is read as the digits it carries, within the bounds asked for (R189). -/
theorem digitsOf_eq_some_iff (lo hi m : Nat) (f : DigitsField) (d : List Nat) (hm : f.bytes.length = m) :
    digitsOf lo hi f = some d ↔ DigitsCarry f m d ∧ lo ≤ d.length ∧ d.length ≤ hi := by
  have back : ∀ d : List Nat, d.all (· ≤ 9) = true → (d.map byteOf).map BitVec.toNat = d := by
    intro d hd
    rw [List.map_map]
    conv_rhs => rw [← List.map_id d]
    refine List.map_congr_left fun n hn => ?_
    have := List.all_eq_true.mp hd n hn
    simp [byteOf] at this ⊢
    omega
  unfold digitsOf DigitsCarry
  dsimp only
  constructor
  · intro h
    split at h
    · rename_i hc
      obtain ⟨h1, h2, h3, h4⟩ := hc
      obtain rfl := Option.some.inj h
      refine ⟨⟨h3.symm, hm, ?_, h4⟩, by omega, by omega⟩
      rw [h3, List.map_map]
      conv_lhs => rw [← List.map_id (f.bytes.take f.count.toNat)]
      exact List.map_congr_left fun b _ => by simp [byteOf]
    · cases h
  · rintro ⟨⟨h1, -, h3, h4⟩, h5, h6⟩
    rw [h1, h3, back d h4, if_pos ⟨h5, h6, rfl, h4⟩]

/-- The fields of WRITE ROUTE, of the widths of their kind, give a route exactly when they are in range (R115). -/
theorem routeOf_eq_some_iff (f : RouteFields) (r : Route) (hw : f.wellFormed = true) :
    routeOf f = some r ↔ FieldsGive f r := by
  simp only [RouteFields.wellFormed, DigitsField.wellFormed, Bool.and_eq_true, beq_iff_eq] at hw
  obtain ⟨⟨h1, h2⟩, h3⟩ := hw
  have low := fun d => digitsOf_eq_some_iff 1 16 16 f.low d h1
  have high := fun d => digitsOf_eq_some_iff 1 16 16 f.high d h2
  have ins := fun d => digitsOf_eq_some_iff 0 4 4 f.insert d h3
  constructor
  · intro h
    unfold routeOf at h
    split at h
    · rename_i dl dh k q di e1 e2 e3 e4 e5
      split at h
      · rename_i hc
        obtain rfl := Option.some.inj h
        obtain ⟨c1, c2, c3, c4, c5⟩ := hc
        obtain ⟨l1, l2, l3⟩ := (low _).mp e1
        obtain ⟨n1, n2, n3⟩ := (high _).mp e2
        obtain ⟨i1, i2, i3⟩ := (ins _).mp e5
        refine ⟨l1, n1, i1, l2, l3, c1.symm, c2, i3, rfl, c3, rfl, c4, ?_, ?_⟩
        · unfold flagOf at e4
          split at e4
          · exact .inl ⟨‹_›, (Option.some.inj e4).symm⟩
          · split at e4
            · exact .inr ⟨‹_›, (Option.some.inj e4).symm⟩
            · cases e4
        · unfold routeKindOf at e3
          split at e3
          · obtain rfl := Option.some.inj e3
            simp only [RouteKind.isTrunk, Bool.false_eq_true, false_or] at c5
            exact .inl ⟨‹_›, rfl, by simp [c5.1], c5.2⟩
          · split at e3
            · split at e3
              · exact .inr (.inl ⟨‹_›, ‹_›, (Option.some.inj e3).symm⟩)
              · cases e3
            · split at e3
              · obtain rfl := Option.some.inj e3
                simp only [RouteKind.isTrunk, Bool.false_eq_true, false_or] at c5
                exact .inr (.inr ⟨‹_›, rfl, by simp [c5.1], c5.2⟩)
              · cases e3
      · cases h
    · cases h
  · obtain ⟨rl, rh, rk, rs, rq, rp, ri⟩ := r
    rintro ⟨l1, n1, i1, l2, l3, c1, c2, i3, rfl, c3, rfl, c4, hq, hk⟩
    dsimp only at *
    have el := (low rl).mpr ⟨l1, l2, l3⟩
    have eh := (high rh).mpr ⟨n1, by omega, by omega⟩
    have ei := (ins ri).mpr ⟨i1, by omega, i3⟩
    have eq : flagOf f.secureRequired = some rq := by
      rcases hq with ⟨h, rfl⟩ | ⟨h, rfl⟩ <;> rw [h] <;> rfl
    have ek : routeKindOf f.kind f.destination = some rk := by
      rcases hk with ⟨h, rfl, -⟩ | ⟨h, hd, rfl⟩ | ⟨h, rfl, -⟩ <;> rw [h] <;> simp [routeKindOf, *]
    have et : rk.isTrunk = true ∨ (f.strip = 0 ∧ ri = []) := by
      rcases hk with ⟨-, -, h, hi⟩ | ⟨-, -, rfl⟩ | ⟨-, -, h, hi⟩
      · exact .inr ⟨BitVec.eq_of_toNat_eq h, hi⟩
      · exact .inl rfl
      · exact .inr ⟨BitVec.eq_of_toNat_eq h, hi⟩
    unfold routeOf
    simp only [el, eh, ei, eq, ek]
    rw [if_pos ⟨c1.symm, c2, c3, c4, et⟩]

end Sys2Proof.Machine
end

