-- ==== Sys2Proof/Laws/PerInstr.lean ====
section
/-! SUPPORT. Statements made of every command, one lemma per constructor. -/

namespace Sys2Proof.Laws.RequestLength

/-- The payload of a well-formed request has a length the table of R190 allows for its kind. -/
def Statement (i : Instr) : Prop :=
  ∀ f, Machine.requestFrame i = some f → i.wellFormed = true →
    (Machine.allowedLengths f.kind.toNat).contains f.payload.length = true

theorem enrollRecordBytes_length (r : EnrollRecord) (h : r.wellFormed = true) :
    (Machine.enrollRecordBytes r).length = 19 := by
  simp only [EnrollRecord.wellFormed, DigitsField.wellFormed, beq_iff_eq] at h
  simp [Machine.enrollRecordBytes, Machine.digitsFieldBytes, Machine.keyBytes, Machine.wordBytes, h]

theorem enroll_payload_length (records : List EnrollRecord) (h : records.all EnrollRecord.wellFormed = true) :
    (records.flatMap Machine.enrollRecordBytes).length = 19 * records.length := by
  induction records with
  | nil => rfl
  | cons r rest ih =>
    simp only [List.all_cons, Bool.and_eq_true] at h
    rw [List.flatMap_cons, List.length_append, enrollRecordBytes_length r h.1, ih h.2, List.length_cons]
    omega

theorem enroll (tag : Byte) (records : List EnrollRecord) : Statement (.enroll tag records) := by
  intro f hf hw
  obtain rfl := (Option.some.inj hf).symm
  simp only [Instr.wellFormed, Bool.and_eq_true, decide_eq_true_eq] at hw
  obtain ⟨⟨h1, h4⟩, ha⟩ := hw
  change [19, 38, 57, 76].contains (records.flatMap Machine.enrollRecordBytes).length = true
  rw [enroll_payload_length records ha]
  have : records.length = 1 ∨ records.length = 2 ∨ records.length = 3 ∨ records.length = 4 := by omega
  rcases this with h | h | h | h <;> rw [h] <;> rfl

theorem setSecret (tag : Byte) (entry : Word) (secret : Key) : Statement (.setSecret tag entry secret) := by
  intro f hf _
  obtain rfl := (Option.some.inj hf).symm
  rfl

theorem remove (tag : Byte) (entry : Word) : Statement (.remove tag entry) := by
  intro f hf _
  obtain rfl := (Option.some.inj hf).symm
  rfl

theorem setClass (tag : Byte) (entry : Word) (cls : Byte) : Statement (.setClass tag entry cls) := by
  intro f hf _
  obtain rfl := (Option.some.inj hf).symm
  rfl

theorem bar (tag : Byte) (entry : Word) : Statement (.bar tag entry) := by
  intro f hf _
  obtain rfl := (Option.some.inj hf).symm
  rfl

theorem unbar (tag : Byte) (entry : Word) : Statement (.unbar tag entry) := by
  intro f hf _
  obtain rfl := (Option.some.inj hf).symm
  rfl

theorem readExtension (tag : Byte) (name : ExtensionName) : Statement (.readExtension tag name) := by
  intro f hf hw
  obtain rfl := (Option.some.inj hf).symm
  cases name with
  | byIndex entry => rfl
  | byNumber number =>
    simp only [Instr.wellFormed, ExtensionName.wellFormed, DigitsField.wellFormed, beq_iff_eq] at hw
    change [2, 7].contains (number.bytes.length + 1) = true
    rw [hw]
    rfl

theorem admitBegin (tag : Byte) (entry : Word) : Statement (.admitBegin tag entry) := by
  intro f hf _
  obtain rfl := (Option.some.inj hf).symm
  rfl

theorem admitAnswer (tag : Byte) (entry : Word) (first second : Word) : Statement (.admitAnswer tag entry first second) := by
  intro f hf _
  obtain rfl := (Option.some.inj hf).symm
  rfl

theorem clearLockout (tag : Byte) (entry : Word) : Statement (.clearLockout tag entry) := by
  intro f hf _
  obtain rfl := (Option.some.inj hf).symm
  rfl

theorem withdraw (tag : Byte) (entry : Word) : Statement (.withdraw tag entry) := by
  intro f hf _
  obtain rfl := (Option.some.inj hf).symm
  rfl

theorem dialStart (tag : Byte) (entry : Word) : Statement (.dialStart tag entry) := by
  intro f hf _
  obtain rfl := (Option.some.inj hf).symm
  rfl

theorem digit (tag : Byte) (entry : Word) (value : Byte) : Statement (.digit tag entry value) := by
  intro f hf _
  obtain rfl := (Option.some.inj hf).symm
  rfl

theorem dialAbort (tag : Byte) (entry : Word) : Statement (.dialAbort tag entry) := by
  intro f hf _
  obtain rfl := (Option.some.inj hf).symm
  rfl

theorem writeClass (tag cls limit : Byte) (legalities : List Byte) :
    Statement (.writeClass tag cls limit legalities) := by
  intro f hf hw
  obtain rfl := (Option.some.inj hf).symm
  simp only [Instr.wellFormed, beq_iff_eq] at hw
  change [34].contains (legalities.length + 1 + 1) = true
  rw [hw]
  rfl

theorem readClass (tag : Byte) (cls : Byte) : Statement (.readClass tag cls) := by
  intro f hf _
  obtain rfl := (Option.some.inj hf).symm
  rfl

theorem writeRoute (tag route : Byte) (fields : RouteFields) : Statement (.writeRoute tag route fields) := by
  intro f hf hw
  obtain rfl := (Option.some.inj hf).symm
  simp only [Instr.wellFormed, RouteFields.wellFormed, DigitsField.wellFormed, Bool.and_eq_true, beq_iff_eq] at hw
  obtain ⟨⟨hl, hh⟩, hi⟩ := hw
  have hlen : (Machine.routeFieldBytes fields).length = 44 := by
    simp [Machine.routeFieldBytes, Machine.digitsFieldBytes, hl, hh, hi]
  change [45].contains ((Machine.routeFieldBytes fields).length + 1) = true
  rw [hlen]
  rfl

theorem clearRoute (tag : Byte) (route : Byte) : Statement (.clearRoute tag route) := by
  intro f hf _
  obtain rfl := (Option.some.inj hf).symm
  rfl

theorem readRoute (tag : Byte) (route : Byte) : Statement (.readRoute tag route) := by
  intro f hf _
  obtain rfl := (Option.some.inj hf).symm
  rfl

theorem answer (tag : Byte) (call : Word) (channelA channelB : Byte) (tieNumber : Long) : Statement (.answer tag call channelA channelB tieNumber) := by
  intro f hf _
  obtain rfl := (Option.some.inj hf).symm
  rfl

theorem hold (tag : Byte) (entry : Word) : Statement (.hold tag entry) := by
  intro f hf _
  obtain rfl := (Option.some.inj hf).symm
  rfl

theorem retrieve (tag : Byte) (entry : Word) : Statement (.retrieve tag entry) := by
  intro f hf _
  obtain rfl := (Option.some.inj hf).symm
  rfl

theorem swap (tag : Byte) (entry : Word) : Statement (.swap tag entry) := by
  intro f hf _
  obtain rfl := (Option.some.inj hf).symm
  rfl

theorem endCall (tag : Byte) (call : Word) : Statement (.endCall tag call) := by
  intro f hf _
  obtain rfl := (Option.some.inj hf).symm
  rfl

theorem readCall (tag : Byte) (call : Word) : Statement (.readCall tag call) := by
  intro f hf _
  obtain rfl := (Option.some.inj hf).symm
  rfl

theorem writeGroup (tag : Byte) (group kind tieEnd budget : Byte) : Statement (.writeGroup tag group kind tieEnd budget) := by
  intro f hf _
  obtain rfl := (Option.some.inj hf).symm
  rfl

theorem setTieKey (tag : Byte) (group : Byte) (key : Key) : Statement (.setTieKey tag group key) := by
  intro f hf _
  obtain rfl := (Option.some.inj hf).symm
  rfl

theorem readGroup (tag : Byte) (group : Byte) : Statement (.readGroup tag group) := by
  intro f hf _
  obtain rfl := (Option.some.inj hf).symm
  rfl

theorem loopStart (tag : Byte) (channel : Byte) (key : Key) : Statement (.loopStart tag channel key) := by
  intro f hf _
  obtain rfl := (Option.some.inj hf).symm
  rfl

theorem loopStop (tag : Byte) (leg : Byte) : Statement (.loopStop tag leg) := by
  intro f hf _
  obtain rfl := (Option.some.inj hf).symm
  rfl

theorem readLeg (tag : Byte) (leg : Byte) : Statement (.readLeg tag leg) := by
  intro f hf _
  obtain rfl := (Option.some.inj hf).symm
  rfl

theorem setDeviceKey (tag : Byte) (key : Key) (counterStart : Long) : Statement (.setDeviceKey tag key counterStart) := by
  intro f hf _
  obtain rfl := (Option.some.inj hf).symm
  rfl

theorem readKeyUnit (tag : Byte) : Statement (.readKeyUnit tag) := by
  intro f hf _
  obtain rfl := (Option.some.inj hf).symm
  rfl

theorem setParam (tag : Byte) (identifier : Byte) (value : Word) : Statement (.setParam tag identifier value) := by
  intro f hf _
  obtain rfl := (Option.some.inj hf).symm
  rfl

theorem configLock (tag : Byte) : Statement (.configLock tag) := by
  intro f hf _
  obtain rfl := (Option.some.inj hf).symm
  rfl

theorem alive (tag : Byte) (token : Byte) : Statement (.alive tag token) := by
  intro f hf _
  obtain rfl := (Option.some.inj hf).symm
  rfl

theorem maintEnter (tag : Byte) : Statement (.maintEnter tag) := by
  intro f hf _
  obtain rfl := (Option.some.inj hf).symm
  rfl

theorem maintExit (tag : Byte) : Statement (.maintExit tag) := by
  intro f hf _
  obtain rfl := (Option.some.inj hf).symm
  rfl

theorem restart (tag : Byte) : Statement (.restart tag) := by
  intro f hf _
  obtain rfl := (Option.some.inj hf).symm
  rfl

theorem readSupervision (tag : Byte) : Statement (.readSupervision tag) := by
  intro f hf _
  obtain rfl := (Option.some.inj hf).symm
  rfl

theorem reportMask (tag : Byte) (mask : List Byte) : Statement (.reportMask tag mask) := by
  intro f hf hw
  obtain rfl := (Option.some.inj hf).symm
  simp only [Instr.wellFormed, beq_iff_eq] at hw
  change [4].contains mask.length = true
  rw [hw]
  rfl

theorem identify (tag : Byte) : Statement (.identify tag) := by
  intro f hf _
  obtain rfl := (Option.some.inj hf).symm
  rfl

theorem hardReset (pin : ResetPin) : Statement (.hardReset pin) :=
  fun _ hf _ => nomatch hf

theorem frameReceived (bytes : List LineByte) : Statement (.frameReceived bytes) :=
  fun _ hf _ => nomatch hf

theorem gapExpiry : Statement .gapExpiry :=
  fun _ hf _ => nomatch hf

theorem transmitComplete : Statement .transmitComplete :=
  fun _ hf _ => nomatch hf

theorem framePulse (samples : FrameSamples) : Statement (.framePulse samples) :=
  fun _ hf _ => nomatch hf

theorem frameReferenceLoss : Statement .frameReferenceLoss :=
  fun _ hf _ => nomatch hf

theorem frameReferenceRestore (samples : FrameSamples) : Statement (.frameReferenceRestore samples) :=
  fun _ hf _ => nomatch hf

theorem challengeCompletion : Statement .challengeCompletion :=
  fun _ hf _ => nomatch hf

theorem checkCompletion : Statement .checkCompletion :=
  fun _ hf _ => nomatch hf

theorem tieSessionCompletion : Statement .tieSessionCompletion :=
  fun _ hf _ => nomatch hf

theorem epochCompletion : Statement .epochCompletion :=
  fun _ hf _ => nomatch hf

theorem jobRetryTick : Statement .jobRetryTick :=
  fun _ hf _ => nomatch hf

theorem huntTimerExpiry (leg : Nat) : Statement (.huntTimerExpiry leg) :=
  fun _ hf _ => nomatch hf

theorem admissionWindowExpiry (entry : Nat) : Statement (.admissionWindowExpiry entry) :=
  fun _ hf _ => nomatch hf

theorem lockoutExpiry (entry : Nat) : Statement (.lockoutExpiry entry) :=
  fun _ hf _ => nomatch hf

theorem interdigitExpiry (entry : Nat) : Statement (.interdigitExpiry entry) :=
  fun _ hf _ => nomatch hf

theorem graceTimerExpiry (call : Nat) : Statement (.graceTimerExpiry call) :=
  fun _ hf _ => nomatch hf

theorem silenceTimerExpiry : Statement .silenceTimerExpiry :=
  fun _ hf _ => nomatch hf

end Sys2Proof.Laws.RequestLength
end

