-- ==== Sys2Proof/Tests/Slice0.lean ====
section
/-! SUPPORT. The model's own tests. Expected results come from the spec's worked cases and examples, named at each test;
then the terms that WellFormed refuses, and for every statement with hypotheses a state and operands that meet them. -/

namespace Sys2Proof.Tests

open Sys2Proof.Machine

set_option Elab.async false

/-! ### Small states -/

/-- The key of the worked case 1.8. -/
def key18 : Key := ⟨4096, 512, 3, 100⟩

/-- An ENROLLED entry with the number 201 and the secret of 1.8. -/
def enrolled : Entry := { Entry.vacant with state := .enrolled, number := [2, 0, 1], secure := true, secret := some key18 }

/-- An ADMITTED entry. -/
def admitted : Entry := { enrolled with state := .admitted, sk := some key18 }

/-- The reset state with one entry. -/
def withEntry (i : Nat) (e : Entry) : State := State.reset.setEntry i e

/-- A TALKING service call of entry 1. -/
def talking : Call where
  ref := 7
  a := 1
  b := .service 9
  forwarded := []
  tieNumber := none
  tieLeg := none
  service := 0
  state := .talking
  requiresSecure := false
  status := .notSecure
  bReservation := none
  grace := none

/-- A freshly opened leg on channel 5. -/
def opened : OpenLeg where
  channel := 5
  sk := some key18
  sessionOutstanding := false
  sessionWanted := false
  outD := 0
  inD := 1
  out := Outbound.atOpen
  inb := Inbound.atOpen Params.default

/-- The same leg with its hunt timer run out. -/
def lapsed : OpenLeg := { opened with inb := { opened.inb with hunt := some ⟨0, false⟩ } }

/-- The reset state with leg 0 OPEN for an owner. -/
def withLeg (owner : Owner) (o : OpenLeg) : State := State.reset.setLeg 0 ⟨1, .opened owner o⟩

/-- The state that a command leaves. -/
def after (c : Instr) (s : State) : State :=
  match exec c s with
  | .next t => t
  | _ => s

/-- The formed replies of a state, by status and body. -/
def replies (s : State) : List (Status × List Byte) := s.replyQueue.map (fun r => (r.status, r.body))

/-! ### The scrambling scheme, from the worked cases 1.1, 1.8, 1.9 and R21 -/

theorem test_multiply_reads_zero_as_65536 : multiply 0 3 = 65534 := by decide

theorem test_multiply_writes_65536_as_zero : multiply 43691 3 = 0 := by decide

theorem test_generator_ordinary_block :
    generator key18 5 0 = [25218, 21298, 9335, 38776, 61360, 63369, 3649, 20883] := by decide +kernel

theorem test_generator_zero_words :
    generator ⟨43627, 0, 3, 0⟩ 64 0 = [0, 65533, 65521, 65480, 65350, 64951, 63743, 60106] := by decide +kernel

theorem test_permutation_ordinary_block : permutation (generator key18 5 0) = [2, 5, 7, 1, 0, 3, 6, 4] := by
  decide +kernel

theorem test_permutation_sync_block : permutation (generator ⟨43627, 0, 3, 0⟩ 64 0) = [0, 7, 2, 1, 5, 4, 6, 3] := by
  decide +kernel

theorem test_masks_of_slot_0 : (List.range 5).map (mask 25218) = [98, 229, 104, 235, 110] := by decide

theorem test_session_key : sessionKey key18 65027 = ⟨9335, 38776, 61360, 63369⟩ := by decide +kernel

theorem test_answer_matches : answerMatches key18 65027 25218 21298 = true := by decide +kernel

theorem test_last_epoch_before_the_wrap : epochOf 3750 4294967295 = 1145324 ∧ followingEpoch 3750 1145324 = 0 := by
  decide

theorem test_sync_slot : syncSlot 64 213 = [23, 201, 88, 146, 7, 240, 61, 178, 0, 0, 0, 64, 192, 213, 213, 213] ∧
    validSync 64 ((syncSlot 64 213).take 13) = some 64 := by decide +kernel

theorem test_mask_sends_188_as_30 : scrambledSample (generator key18 5 0) 5 64 213 (List.replicate 128 188) 0 = 30 := by
  decide +kernel

theorem test_wrap_of_the_block_number : (generator key18 4294967295 0).take 2 = [25181, 21171] ∧
    (generator key18 0 0).take 2 = [25188, 21193] := by decide +kernel

/-! ### Frames, from the opening of chapter 12 -/

theorem test_read_group_frame :
    (requestFrame (.readGroup 9 5)).map (fun f => f.line.map (fun b => b.value)) = some [165, 3, 28, 9, 5, 211] := by
  decide +kernel

theorem test_read_group_reply :
    (Sending.reply ⟨none, 92, 9, .ok, groupBody 5 ⟨.tie, .a, 4, 1, some key18, true⟩⟩).bytes =
      [165, 10, 92, 9, 0, 5, 1, 0, 4, 1, 1, 1, 132] := by decide +kernel

theorem test_frame_received_is_the_request :
    replies (after (.frameReceived ([165, 3, 28, 9, 5, 211].map (fun b => ⟨b, true⟩))) State.reset) =
      [(.ok, [5, 0, 0, 0, 0, 0, 0])] := by decide +kernel

/-- A check byte one too high discards the frame (R163). -/
theorem test_bad_check_is_discarded :
    (after (.frameReceived ([165, 3, 28, 9, 5, 212].map (fun b => ⟨b, true⟩))) State.reset).reportQueue =
      [⟨.frameDiscarded .check 3, false⟩] := by decide +kernel

/-- A byte on the line: the start bit, 165 least significant bit first, the stop bit (R161). -/
theorem test_line_of_165 :
    lineBits 165 = [false, true, false, true, false, false, true, false, true, true] ∧
    lineByteOf [false, true, false, true, false, false, true, false, true, false] = some ⟨165, false⟩ ∧
    lineByteOf (true :: (lineBits 165).tail) = none := by decide

/-- The strap codes 2 and 3 both select 921,600 baud (R161). -/
theorem test_link_rates : (List.range 4).map (fun n => linkRate (BitVec.ofNat 2 n)) = [115200, 460800, 921600, 921600] := by
  decide

/-- With RESET_N held no frame is taken and 213 is driven, also where another idle code was set (R185). -/
theorem test_reset_held :
    let s := after (.hardReset .held) { State.reset with params := { Params.default with idleCode := 7 } }
    s.freeSlot = none ∧ s.portDriven 0 = some 213 ∧ s.sending = none ∧ (after (.identify 1) s).requestBuffer = s.requestBuffer ∧
      (after (.hardReset (.released 3)) s).linkRate = 921600 := by decide +kernel

/-! ### Admission, from 6.10 -/

/-- Step 1 of 6.10: the CHALLENGE takes the counter's value 7200 and the stamp advances from 41 to 42. -/
theorem test_admit_begin_queues_challenge :
    let s := after (.admitBegin 4 1)
      { withEntry 1 { enrolled with stamp := 41 } with deviceKey := some key18, challengeCounter := 7200 }
    s.jobs = [.challenge key18 7200 1 42] ∧ (s.entry 1).state = .challenged ∧ s.challengeCounter = 7201 ∧
      s.replyQueue = [] := by decide +kernel

/-- Step 2 of 6.10: the window of choice 1 is 500 ticks and 5 s. -/
theorem test_challenge_starts_window :
    let s := after .challengeCompletion
      { withEntry 1 { enrolled with state := .challenged, stamp := 42 } with jobs := [.challenge key18 0 1 42] }
    (s.entry 1).timer = some ⟨.window, 500, true⟩ := by decide +kernel

/-- Step 9 of 6.10: the third failure locks out for 60 s, 6000 ticks, and raises the level to 1. -/
theorem test_third_failure_locks_out :
    let s := after .checkCompletion
      { withEntry 1 { enrolled with state := .checking, attempts := 2 } with jobs := [.check key18 0 0 0 1 0] }
    (s.entry 1).state = .lockedOut ∧ (s.entry 1).timer = some ⟨.lockout, 6000, true⟩ ∧ (s.entry 1).level = 1 ∧
      s.reportQueue = [⟨.lockoutBegin 1 60 1, false⟩] := by decide +kernel

/-- The admission example of 1.8: the set's right answer admits, with the session key of the table. -/
theorem test_right_answer_admits :
    let s := after .checkCompletion
      { withEntry 1 { enrolled with state := .checking } with jobs := [.check key18 65027 25218 21298 1 0] }
    (s.entry 1).state = .admitted ∧ (s.entry 1).sk = some ⟨9335, 38776, 61360, 63369⟩ := by decide +kernel

/-- Step 6 of 6.10: the expired window counts an attempt and reports no lockout. -/
theorem test_window_expiry_counts :
    let s := after (.admissionWindowExpiry 1)
      (withEntry 1 { enrolled with state := .challenged, attempts := 1, timer := some ⟨.window, 0, false⟩ })
    (s.entry 1).attempts = 2 ∧ s.reportQueue = [⟨.admitTimeout 1 2 0, false⟩] := by decide +kernel

/-- Step 11 of 6.10: the expired lockout leaves count 0 and level 1. -/
theorem test_lockout_expiry_keeps_level :
    let s := after (.lockoutExpiry 1)
      (withEntry 1 { enrolled with state := .lockedOut, attempts := 3, level := 1, timer := some ⟨.lockout, 0, false⟩ })
    (s.entry 1).state = .enrolled ∧ (s.entry 1).attempts = 0 ∧ s.reportQueue = [⟨.lockoutEnd 1 1 .expiry, false⟩] := by
  decide +kernel

/-- The transmitter sends the reply of a WITHDRAW ahead of the withdrawal's reports (R102). -/
theorem test_withdraw_reply_first :
    let s := after (.withdraw 9 1) { withEntry 1 { admitted with stack := [⟨7, false⟩] } with
      calls := [talking], transmitting := none }
    s.transmitting = some (.reply ⟨some 0, 75, 9, .ok, [1]⟩) ∧
      s.reportQueue.map (fun q => q.report.kind) = [137, 139] := by decide +kernel

/-! ### Routes and walks, from 7.6 and 7.7 -/

/-- Entries 0 to 4 of the table of 7.6. -/
def routes76 : State :=
  ((((State.reset.setRoute 0 (some ⟨[2, 0, 0, 0], [2, 9, 9, 9], .localCall, 0, false, 0, []⟩)).setRoute 1
    (some ⟨[0, 4, 0, 0], [0, 4, 9, 9], .localCall, 0, false, 0, []⟩)).setRoute 2
    (some ⟨[9, 0, 0, 0, 0, 0, 0, 0], [9, 9, 9, 9, 9, 9, 9, 9], .trunk 2, 5, false, 1, []⟩)).setRoute 3
    (some ⟨[7, 1, 0, 0, 0, 0, 0], [7, 1, 9, 9, 9, 9, 9], .trunk 5, 6, true, 2, [3]⟩)).setRoute 4
    (some ⟨[1, 0, 0], [1, 0, 0], .service 12, 9, false, 0, []⟩)

theorem test_conflicts_of_entry_6 :
    routes76.routeConflict 6 ⟨[2, 1], [2, 1], .localCall, 0, false, 0, []⟩ = true ∧
    routes76.routeConflict 6 ⟨[1, 0, 0, 0, 0], [1, 0, 0, 9, 9], .service 1, 0, false, 0, []⟩ = true ∧
    routes76.routeConflict 6 ⟨[4, 1, 7], [4, 1, 7], .localCall, 0, false, 0, []⟩ = false := by decide +kernel

theorem test_walk_follows_2305 : routes76.walk [2] = .more ∧ routes76.walk [2, 3, 0] = .more ∧
    routes76.walk [2, 3, 0, 5] = .exact 0 ⟨[2, 0, 0, 0], [2, 9, 9, 9], .localCall, 0, false, 0, []⟩ := by decide +kernel

theorem test_walk_goes_nowhere_with_8 : routes76.walk [8] = .noRoute := by decide +kernel

theorem test_works_site_forwards_323456 :
    forwardedDigits ⟨[7, 1, 0, 0, 0, 0, 0], [7, 1, 9, 9, 9, 9, 9], .trunk 5, 6, true, 2, [3]⟩ [7, 1, 2, 3, 4, 5, 6] =
      [3, 2, 3, 4, 5, 6] := by decide

/-! ### Calls, legs, groups and supervision -/

/-- 8.9, step 4: SWAP of 18 over held 17 puts 17 on top and holds 18. -/
theorem test_swap :
    ((after (.swap 1 1) (withEntry 1 { admitted with stack := [⟨18, false⟩, ⟨17, true⟩] })).entry 1).stack =
      [⟨17, false⟩, ⟨18, true⟩] := by decide +kernel

/-- 8.9, step 5: END leaves the call below with its held mark. -/
theorem test_end_leaves_held_mark :
    let s := after (.endCall 1 7)
      { withEntry 1 { admitted with stack := [⟨7, false⟩, ⟨17, true⟩] } with calls := [talking] }
    s.calls = [] ∧ (s.entry 1).stack = [⟨17, true⟩] := by decide +kernel

/-- LOOP START opens the lowest leg and queues its outbound EPOCH job first (R73, R54). -/
theorem test_loop_start :
    let s := after (.loopStart 1 5 key18) { State.reset with mode := .maintenance }
    s.jobs = [.epoch key18 0 0 .outbound 1, .epoch key18 0 0 .inbound 1] ∧ s.routing 5 = .leg 0 := by decide +kernel

/-- The hunt timer of a loop test fails its leg and closes it (R67). -/
theorem test_hunt_expiry_closes :
    let s := after (.huntTimerExpiry 0) ((withLeg .loopTest lapsed).setRouting 5 (.leg 0))
    s.reportQueue = [⟨.legFailed 0 .loopTest 5 .syncLost, false⟩] ∧ (s.leg 0).use = .free ∧ s.routing 5 = .clear := by
  decide +kernel

/-- 9.7, step 1: a budget of 4 under 6 active calls is applied as 6. -/
theorem test_budget_under_load :
    let s := after (.writeGroup 1 2 0 0 4) (State.reset.setGroup 2 { Group.atReset with budget := 8, active := 6 })
    (s.group 2).budget = 6 ∧ replies s = [(.ok, [2, 6])] := by decide +kernel

/-- The clamps of R184: a sync period of 4 becomes 8, a window choice of 7 becomes 3. -/
theorem test_set_param_clamps :
    (after (.setParam 1 1 4) State.reset).params.syncPeriod = 8 ∧
    (after (.setParam 1 5 7) State.reset).params.windowChoice = 3 := by decide +kernel

/-- The silence expiry in NORMAL enters STANDALONE (R179). -/
theorem test_silence_expiry :
    let s := after .silenceTimerExpiry { State.reset with silence := .running ⟨0, false⟩ }
    s.mode = .standalone ∧ s.reportQueue = [⟨.standaloneEntered 0, false⟩] := by decide +kernel

/-- An ALIVE taken before the silence expiry of the same instant: the expiry does not occur (R177). -/
theorem test_alive_before_the_expiry :
    let s := after (.alive 1 60)
      { State.reset with params := { Params.default with silenceInterval := 60 }, silence := .running ⟨0, false⟩ }
    (after .silenceTimerExpiry s).mode = .normal ∧ s.silence = .running ⟨6000, true⟩ := by decide +kernel

/-- An idle transmitter takes STANDALONE_LEFT before the reply to the ALIVE that left STANDALONE (R171, R177; 11.7 step 7). -/
theorem test_standalone_left_goes_first :
    let s := after (.alive 1 60) { State.reset with mode := .standalone, transmitting := none }
    s.transmitting = some (.report ⟨.standaloneLeft 60, false⟩) ∧ replies s = [(.ok, [])] := by decide +kernel

/-- A timer set inside a tick period does not count the tick that ends it; one set at a tick counts the next (R1). -/
theorem test_first_whole_tick :
    let s := tick (withEntry 1 { admitted with screening := true, interdigit := some ⟨1, true⟩ })
    (s.entry 1).interdigit = some ⟨1, false⟩ ∧ s.pending = [.jobRetryTick] ∧
    ((after (.admissionWindowExpiry 1) (withEntry 1 { enrolled with
      state := .challenged, attempts := 2, timer := some ⟨.window, 0, false⟩ })).entry 1).timer =
      some ⟨.lockout, 6000, false⟩ := by decide +kernel

/-- The last tick of an interdigit time puts its expiry before the retry of job offers (log 3). -/
theorem test_tick_finds_the_expiry :
    (tick (withEntry 1 { admitted with screening := true, interdigit := some ⟨1, false⟩ })).pending =
      [.interdigitExpiry 1, .jobRetryTick] := by decide +kernel

/-! ### What WellFormed refuses -/

theorem wf_no_records : (Instr.enroll 1 []).wellFormed = false := by decide

/-- A record of ENROLL with a number field of `n` digit bytes. -/
def record (n : Nat) : EnrollRecord := ⟨0, ⟨3, List.replicate n 1⟩, 0, 0, key18⟩

theorem wf_five_records : (Instr.enroll 1 (List.replicate 5 (record 6))).wellFormed = false := by decide
theorem wf_short_number : (Instr.enroll 1 [record 5]).wellFormed = false := by decide
theorem wf_short_name : (Instr.readExtension 1 (.byNumber ⟨3, [1, 2, 3]⟩)).wellFormed = false := by decide
theorem wf_few_legalities : (Instr.writeClass 1 0 1 [0]).wellFormed = false := by decide
theorem wf_short_low : (Instr.writeRoute 1 0 ⟨⟨1, [1]⟩, ⟨1, List.replicate 16 1⟩, 0, 0, 0, 0, 0, ⟨0, [0, 0, 0, 0]⟩⟩).wellFormed =
    false := by decide
theorem wf_short_high : (Instr.writeRoute 1 0 ⟨⟨1, List.replicate 16 1⟩, ⟨1, [1]⟩, 0, 0, 0, 0, 0, ⟨0, [0, 0, 0, 0]⟩⟩).wellFormed =
    false := by decide
theorem wf_short_insert : (Instr.writeRoute 1 0
    ⟨⟨1, List.replicate 16 1⟩, ⟨1, List.replicate 16 1⟩, 0, 0, 0, 0, 0, ⟨0, []⟩⟩).wellFormed = false := by decide
theorem wf_short_mask : (Instr.reportMask 1 [0, 0, 0]).wellFormed = false := by decide
theorem wf_long_frame : (Instr.framePulse ⟨129, fillTable 128 0, fillTable 128 0⟩).wellFormed = false := by decide
theorem wf_longest_frame : (Instr.framePulse ⟨128, fillTable 128 0, fillTable 128 0⟩).wellFormed = true := by decide
theorem wf_long_restore : (Instr.frameReferenceRestore ⟨129, fillTable 128 0, fillTable 128 0⟩).wellFormed = false := by
  decide
theorem wf_leg_48 : (Instr.huntTimerExpiry 48).wellFormed = false := by decide
theorem wf_window_512 : (Instr.admissionWindowExpiry 512).wellFormed = false := by decide
theorem wf_lockout_512 : (Instr.lockoutExpiry 512).wellFormed = false := by decide
theorem wf_interdigit_512 : (Instr.interdigitExpiry 512).wellFormed = false := by decide
theorem wf_call_0 : (Instr.graceTimerExpiry 0).wellFormed = false := by decide
theorem wf_call_65536 : (Instr.graceTimerExpiry 65536).wellFormed = false := by decide

/-! ### Witnesses: states and operands that meet the hypotheses of the statements

Each theorem is named after its statement; its clauses follow the statement's. `s.freeSlot = some j` and
`s.resetHeld = false` are met by the reset state and by every state here that changes no slot. -/

/-- The reset table of routes, slots, legs and channels holds nothing. -/
@[simp] theorem reset_route (n : Nat) : State.reset.route n = none := by simp [State.route, State.reset, State.afterHardReset]
@[simp] theorem reset_slot (n : Nat) : State.reset.slot n = none := by simp [State.slot, State.reset, State.afterHardReset]
@[simp] theorem reset_leg (k : Nat) : State.reset.leg k = Leg.atReset := by simp [State.leg, State.reset, State.afterHardReset]
@[simp] theorem reset_entry (i : Nat) : State.reset.entry i = Entry.vacant := by
  simp [State.entry, State.reset, State.afterHardReset]
@[simp] theorem reset_openLeg (k : Nat) : State.reset.openLeg? k = none := by
  simp [State.openLeg?, Leg.atReset, LegUse.opened?]
@[simp] theorem reset_routing (c : Nat) : State.reset.routing c = .clear := by
  simp [State.routing, State.reset, State.afterHardReset]
@[simp] theorem withEntry_slot (i : Nat) (e : Entry) (m : Nat) : (withEntry i e).slot m = none := reset_slot m

theorem witness_stepTakesFrontCommand : ({ State.reset with pending := [.gapExpiry] } : State).pending = .gapExpiry :: [] :=
  rfl

theorem witness_idleStepIsOneTick : State.reset.pending = [] ∧ State.reset.resetHeld = false := ⟨rfl, rfl⟩

theorem witness_hardResetClearsEveryRecord :
    ({ State.reset with resetHeld := true } : State).resetHeld = true ∧
    ({ State.reset with resetHeld := true } : State).pending = [] ∧ (∀ pin, Instr.gapExpiry ≠ .hardReset pin) :=
  ⟨rfl, rfl, by simp⟩

theorem witness_freeSlot : State.reset.freeSlot = some 0 ∧ (withEntry 511 admitted).freeSlot = some 0 := by decide +kernel

/-- The reset state with all four slots held. -/
def fullBuffer : State := { State.reset with requestBuffer := fillTable 4 (some ⟨10, 1, none⟩) }

theorem witness_requestDiscardedWhenFull : requestFrame (.clearLockout 3 40) = some ⟨10, 3, [0, 40]⟩ ∧
    ∀ j < 4, fullBuffer.slot j ≠ none := by
  refine ⟨by decide, fun j hj => ?_⟩
  simp [State.slot, fullBuffer, hj]

theorem witness_frameReceivedIsItsRequest : (Instr.enroll 255 (List.replicate 4 (record 6))).wellFormed = true ∧
    (requestFrame (.enroll 255 (List.replicate 4 (record 6)))).isSome = true ∧ State.reset.receiver = .waitStart := by
  decide

theorem witness_receiverTakesOneByte :
    State.reset.receiver = .waitStart ∧
    2 ≤ (2 : Byte).toNat ∧ (2 : Byte).toNat ≤ 250 ∧ 2 ≤ (250 : Byte).toNat ∧ (250 : Byte).toNat ≤ 250 ∧
    (1 : Byte).toNat < 2 ∧ 250 < (251 : Byte).toNat ∧
    ([] : List Byte).length + 1 ≠ (2 : Byte).toNat ∧ ([42] : List Byte).length + 1 = (2 : Byte).toNat ∧
    ((2 : Byte) :: [42, 1] ++ [0]).foldl (· + ·) 0 ≠ 0 ∧ ((2 : Byte) :: 42 :: 1 :: [] ++ [211]).foldl (· + ·) 0 = 0 ∧
    ({ State.reset with receiver := .length } : State).receiver ≠ .waitStart := by decide +kernel

theorem witness_linkRefusals :
    (0 : Byte).toNat = 0 ∧ 42 < (43 : Byte).toNat ∧ 42 < (63 : Byte).toNat ∧ 42 < (64 : Byte).toNat ∧ 42 < (255 : Byte).toNat ∧
    1 ≤ (1 : Byte).toNat ∧ (42 : Byte).toNat ≤ 42 ∧ ([0] : List Byte).length ∉ allowedLengths 1 ∧
    ([0] : List Byte).length ∉ allowedLengths 42 ∧ ([0, 1] : List Byte).length = 2 ∧ (1 : Byte) ≠ 0 := by decide

theorem witness_transmitterTakesRepliesFirst :
    State.reset.transmitting = some (.report ⟨.ready .pin .normal false .lost, false⟩) ∧ State.reset.replyQueue = [] ∧
    State.reset.reportQueue = [] ∧ ({ State.reset with transmitting := none } : State).transmitting = none ∧
    ({ State.reset with replyQueue := [⟨some 0, 65, 1, .ok, []⟩] } : State).replyQueue = ⟨some 0, 65, 1, .ok, []⟩ :: [] ∧
    ({ State.reset with reportQueue := [⟨.frameRestored, false⟩] } : State).reportQueue = ⟨.frameRestored, false⟩ :: [] ∧
    State.reset.reportMask.getLsbD (Report.frameRestored.kind - 128) = true ∧
    ({ State.reset with reportMask := 1 } : State).reportMask.getLsbD (Report.frameRestored.kind - 128) = false ∧
    (List.replicate 31 (⟨.frameRestored, false⟩ : QueuedReport)).length < 32 ∧
    32 ≤ (List.replicate 32 (⟨.frameRestored, false⟩ : QueuedReport)).length := by
  decide +kernel

/-! #### Directory and admission -/

/-- An ENROLL record for the last entry with the longest number. -/
def lastRecord : EnrollRecord := ⟨511, ⟨6, [2, 0, 1, 0, 0, 9]⟩, 15, 1, ⟨0, 0, 2, 0⟩⟩

theorem witness_enrollStopsAtFirstRefusal :
    RecordInRange lastRecord [2, 0, 1, 0, 0, 9] ∧ (¬ ∃ digits, RecordInRange { lastRecord with entry := 512 } digits) ∧
    (State.reset.entry lastRecord.entry.toNat).state = .vacant ∧ ¬ State.reset.NumberHeld [2, 0, 1, 0, 0, 9] ∧
    2 ≤ lastRecord.secret.k3.toNat ∧ ([lastRecord] : List EnrollRecord) ≠ [] ∧
    ((withEntry 511 enrolled).entry lastRecord.entry.toNat).state ≠ .vacant ∧
    (withEntry 0 { enrolled with number := [2, 0, 1, 0, 0, 9] }).NumberHeld [2, 0, 1, 0, 0, 9] ∧
    ({ lastRecord with secret := ⟨0, 0, 1, 0⟩ } : EnrollRecord).secret.k3.toNat < 2 := by
  refine ⟨by unfold RecordInRange DigitsCarry; decide, ?_, by decide +kernel, ?_, by decide, by decide, by decide +kernel,
    ⟨0, by decide +kernel⟩, by decide⟩
  · rintro ⟨_, _, _, _, h, _⟩
    exact absurd h (by decide)
  · rintro ⟨i, _, h, _⟩
    simp [Entry.vacant] at h

theorem witness_directoryWrites :
    (511 : Word).toNat ≤ 511 ∧ ((withEntry 511 enrolled).entry 511).state = .enrolled ∧
    ((withEntry 511 enrolled).entry 511).secretUsed = false ∧ 2 ≤ (⟨0, 0, 2, 0⟩ : Key).k3.toNat ∧ (15 : Byte).toNat ≤ 15 ∧
    ((withEntry 511 { enrolled with state := .barred }).entry 511).state = .barred ∧
    (∀ c ∈ (withEntry 511 enrolled).calls, c.b ≠ .extension 511) := by
  refine ⟨by decide, by decide +kernel, by decide +kernel, by decide, by decide, by decide +kernel, ?_⟩
  simp [withEntry, State.reset, State.afterHardReset]

/-- The refusals of the directory writes, each at its boundary. -/
theorem witness_directoryWrites_refused :
    511 < (512 : Word).toNat ∧ (State.reset.entry 511).state = .vacant ∧ ((withEntry 511 admitted).entry 511).state = .admitted ∧
    ((withEntry 511 { enrolled with secretUsed := true }).entry 511).secretUsed = true ∧ State.reset.mode ≠ .maintenance ∧
    (⟨0, 0, 1, 0⟩ : Key).k3.toNat < 2 ∧ 15 < (16 : Byte).toNat ∧
    (∃ c ∈ ({ withEntry 511 enrolled with calls := [{ talking with b := .extension 511 }] } : State).calls,
      c.b = .extension 511) :=
  ⟨by decide, by decide +kernel, by decide +kernel, by decide +kernel, by decide, by decide, by decide, _,
    List.mem_singleton.mpr rfl, rfl⟩

/-- Entry 1 in a state of admission, its reply owed by slot 0. -/
def owing (st : EntryState) (kind : Byte) : State :=
  (withEntry 1 { enrolled with state := st }).setSlot 0 (some ⟨kind, 5, some 1⟩)

theorem owing_others (st : EntryState) (kind : Byte) :
    ∀ l g, l ≠ 0 → (owing st kind).slot l = some g → g.awaiting ≠ some 1 := by
  intro l g hl h
  rw [owing, slot_setSlot, if_neg (by omega)] at h
  simp at h

theorem witness_barOutOfService :
    ((withEntry 1 { enrolled with state := .lockedOut }).entry 1).state = .lockedOut ∧
    ((withEntry 1 { enrolled with state := .challenged }).entry 1).state = .challenged ∧
    (∀ m h, (withEntry 1 { enrolled with state := .challenged }).slot m = some h → h.awaiting ≠ some 1) ∧
    ((owing .challenged 8).entry 1).state = .challenged ∧ (owing .challenged 8).slot 0 = some ⟨8, 5, some 1⟩ ∧
    ((owing .checking 9).entry 1).state = .checking ∧ (owing .checking 9).slot 0 = some ⟨9, 5, some 1⟩ ∧
    (owing .checking 9).freeSlot = some 1 ∧ ((withEntry 511 admitted).entry (511 : Word).toNat).state = .admitted ∧
    (∀ l g, l ≠ 0 → (owing .checking 9).slot l = some g → g.awaiting ≠ some 1) :=
  ⟨by decide +kernel, by decide +kernel, by simp, by decide +kernel, by decide +kernel, by decide +kernel, by decide +kernel,
    by decide +kernel, by decide +kernel, owing_others _ _⟩

theorem witness_barOutOfService_refused : 511 < (512 : Word).toNat ∧ (State.reset.entry 511).state = .vacant ∧
    ((withEntry 511 { enrolled with state := .barred }).entry 511).state = .barred := by decide +kernel

/-- Entry 1 with its window running. -/
def windowOpen : State := withEntry 1 { enrolled with state := .challenged, timer := some ⟨.window, 1, false⟩, pending := some 0 }

theorem witness_admissionRequestsQueueJobs :
    ({ withEntry 1 enrolled with deviceKey := some key18 } : State).deviceKey = some key18 ∧
    ((withEntry 1 enrolled).entry 1).state = .enrolled ∧ State.reset.mode = .normal ∧ State.reset.jobs.length < 32 ∧
    State.reset.deviceKey = none ∧
    32 ≤ ({ withEntry 1 enrolled with jobs := List.replicate 32 (.challenge key18 0 2 0) } : State).jobs.length ∧
    (windowOpen.entry 1).state = .challenged ∧ (windowOpen.entry 1).timer = some ⟨.window, 1, false⟩ ∧
    (windowOpen.entry 1).secret = some key18 ∧ (windowOpen.entry 1).pending = some 0 := by decide +kernel

/-- The refusals of the admission requests, each at its boundary. -/
theorem witness_admissionRequestsQueueJobs_refused :
    (1 : Byte) ≠ 0 ∧ 511 < (512 : Word).toNat ∧ ((withEntry 511 { enrolled with state := .lockedOut }).entry 511).state = .lockedOut ∧
    (State.reset.entry 511).state ≠ .lockedOut ∧ (State.reset.entry 511).state ≠ .enrolled ∧
    ((withEntry 1 enrolled).entry 1).state ≠ .challenged ∧ ((owing .challenged 8).entry 1).state = .challenged ∧
    (∀ ticks, ((owing .challenged 8).entry 1).timer ≠ some ⟨.window, ticks⟩) := by
  refine ⟨by decide, by decide, by decide +kernel, by decide +kernel, by decide +kernel, by decide +kernel, by decide +kernel, ?_⟩
  intro ticks
  rw [show ((owing .challenged 8).entry 1).timer = none by decide +kernel]
  simp

/-- Entry 1 CHALLENGED, its job the oldest. -/
def challengedNow : State := { owing .challenged 8 with jobs := [.challenge key18 0 1 0] }

theorem witness_challengeDelivered :
    challengedNow.jobs = .challenge key18 0 1 (challengedNow.entry 1).stamp :: [] ∧
    (challengedNow.entry 1).state = .challenged ∧ challengedNow.slot 0 = some ⟨8, 5, some 1⟩ ∧
    (∀ l g, l ≠ 0 → challengedNow.slot l = some g → g.awaiting ≠ some 1) :=
  ⟨by decide +kernel, by decide +kernel, by decide +kernel, owing_others _ _⟩

/-- Entry 1 CHECKING, its job with the answer words given the oldest. -/
def checkingNow (first second : Word) : State := { owing .checking 9 with jobs := [.check key18 65027 first second 1 0] }

theorem witness_checkMatchAdmits :
    (checkingNow 25218 21298).jobs = .check key18 65027 25218 21298 1 ((checkingNow 25218 21298).entry 1).stamp :: [] ∧
    ((checkingNow 25218 21298).entry 1).state = .checking ∧ (25218 : Word) = wordOf (generator key18 65027 2) 0 ∧
    (21298 : Word) = wordOf (generator key18 65027 2) 1 := by decide +kernel

theorem witness_failedAttemptCounts :
    ¬ (windowOpen.entry 1).HasRunOut .window ∧
    ((withEntry 511 { enrolled with state := .challenged, timer := some ⟨.window, 0, false⟩ }).entry 511).HasRunOut .window ∧
    (checkingNow 0 0).jobs = .check key18 65027 0 0 1 ((checkingNow 0 0).entry 1).stamp :: [] ∧
    (0 : Word) ≠ wordOf (generator key18 65027 2) 0 ∧ ¬ State.reset.params.attemptLimit ≤ 0 + 1 ∧
    State.reset.params.attemptLimit ≤ 2 + 1 := by decide +kernel

theorem witness_lockoutEnds :
    let s := withEntry 511 { enrolled with state := .lockedOut, timer := some ⟨.lockout, 0, false⟩ }
    (511 : Word).toNat ≤ 511 ∧ (s.entry (511 : Word).toNat).state = .lockedOut ∧
      (s.entry (511 : Word).toNat).HasRunOut .lockout ∧ s.freeSlot = some 0 ∧ s.resetHeld = false ∧
      (State.reset.entry 511).state ≠ .lockedOut := by decide +kernel

theorem witness_lockoutEnds_refused : 511 < (512 : Word).toNat ∧ State.reset.freeSlot = some 0 ∧
    (State.reset.entry (511 : Word).toNat).state ≠ .lockedOut := by decide +kernel

/-- The oldest jobs of each kind, expected by nobody: entry 1 and leg 0 have another stamp. -/
theorem witness_unexpectedResultsDiscarded :
    ({ withEntry 1 enrolled with jobs := [.challenge key18 0 1 9] } : State).jobs = .challenge key18 0 1 9 :: [] ∧
    ({ withEntry 1 enrolled with jobs := [.check key18 0 0 0 1 9] } : State).jobs = .check key18 0 0 0 1 9 :: [] ∧
    ({ withLeg .loopTest opened with jobs := [.tieSession key18 0 0 9] } : State).jobs = .tieSession key18 0 0 9 :: [] ∧
    ({ withLeg .loopTest opened with jobs := [.epoch key18 0 0 .outbound 9] } : State).jobs =
      .epoch key18 0 0 .outbound 9 :: [] ∧
    ((withEntry 1 enrolled).entry 1).stamp ≠ 9 ∧ ((withEntry 1 enrolled).entry 1).state ≠ .challenged ∧
    ((withEntry 1 enrolled).entry 1).state ≠ .checking ∧ ((withLeg .loopTest opened).leg 0).stamp ≠ 9 ∧
    (withLeg (.tieCall 7) opened).openLeg? 0 = some opened ∧ opened.sk ≠ none ∧ State.reset.openLeg? 0 = none ∧
    (opened.keys .outbound).outstanding = false ∧
    (∀ r o, ((withLeg .loopTest opened).leg 0).use ≠ .opened (.tieCall r) o) := by
  refine ⟨rfl, rfl, rfl, rfl, by decide +kernel, by decide +kernel, by decide +kernel, by decide +kernel, by decide +kernel,
    by decide +kernel, by decide +kernel, by decide +kernel, ?_⟩
  simp [withLeg, leg_setLeg]

/-- Entry 1 with the TALKING call 7, its leg 47 OPEN on channel 127. -/
def inCall : State :=
  { (withEntry 1 { admitted with stack := [⟨7, false⟩], ownedLeg := some 47 }).setLeg 47
      ⟨1, .opened (.extension 1) { opened with channel := 127 }⟩ with
    calls := [talking] }

theorem inCall_alone : ∀ l < 48, l ≠ 47 → (inCall.leg l).use.owner? ≠ some (.extension 1) := by decide +kernel

theorem witness_withdrawalEndsTheCalls :
    (inCall.entry (1 : Word).toNat).state = .admitted ∧ inCall.freeSlot = some 0 ∧ inCall.call 7 = some talking ∧
    (∀ x ∈ (inCall.entry (1 : Word).toNat).stack, x.call = 7) ∧ talking.a = 1 ∧ (inCall.entry 1).stack ≠ [] ∧
    (inCall.entry 1).ownedLeg = some 47 ∧ (inCall.leg 47).use.owner? = some (.extension 1) ∧
    (∀ l < 48, l ≠ 47 → (inCall.leg l).use.owner? ≠ some (.extension 1)) ∧ inCall.transmitting ≠ none :=
  ⟨by decide +kernel, by decide +kernel, by decide +kernel, by decide +kernel, by decide, by decide +kernel,
    by decide +kernel, by decide +kernel, inCall_alone, by decide⟩

theorem witness_withdrawalEndsTheCalls_idle : (1 : Byte) ≠ 0 ∧
    ({ inCall with transmitting := none } : State).transmitting = none ∧
    ({ inCall with transmitting := none } : State).replyQueue = [] ∧
    ({ inCall with transmitting := none } : State).IdleHasNothingWaiting := ⟨by decide, rfl, rfl, fun _ => ⟨rfl, rfl⟩⟩

theorem witness_withdrawalEndsTheCalls_refused : 511 < (512 : Word).toNat ∧ (511 : Word).toNat ≤ 511 ∧
    (State.reset.entry (511 : Word).toNat).state ≠ .admitted := by decide +kernel

/-! #### Classes, routes and screening -/

theorem witness_writeClassReplacesRecord :
    State.reset.lock = false ∧ (15 : Byte).toNat ≤ 15 ∧ 1 ≤ (3 : Byte).toNat ∧ (3 : Byte).toNat ≤ 3 ∧
    (List.replicate 32 (2 : Byte)).length = 32 ∧ ∀ b ∈ List.replicate 32 (2 : Byte), b.toNat ≤ 2 := by decide

/-- The refusals of WRITE CLASS, each at its boundary; and the lock, which refuses before them. -/
theorem witness_writeClassReplacesRecord_refused :
    15 < (16 : Byte).toNat ∧ 3 < (4 : Byte).toNat ∧ (List.replicate 31 (2 : Byte) ++ [3]).length = 32 ∧
    (∃ b ∈ List.replicate 31 (2 : Byte) ++ [3], 2 < b.toNat) ∧ ({ State.reset with lock := true } : State).lock = true ∧
    ({ State.reset with lock := true } : State).mode ≠ .maintenance := by decide

theorem witness_readTablesShowEntries :
    15 < (16 : Byte).toNat ∧ (15 : Byte).toNat ≤ 15 ∧ 63 < (64 : Byte).toNat ∧ (63 : Byte).toNat ≤ 63 ∧
    State.reset.route 63 = none ∧
    routes76.route 4 = some ⟨[1, 0, 0], [1, 0, 0], .service 12, 9, false, 0, []⟩ := by decide +kernel

/-- A digits field of 16 bytes. -/
def sixteen (d : List Byte) : DigitsField := ⟨byteOf d.length, d ++ List.replicate (16 - d.length) 0⟩

/-- The fields of entry 3 of 7.6. -/
def fields76 : RouteFields :=
  ⟨sixteen [7, 1, 0, 0, 0, 0, 0], sixteen [7, 1, 9, 9, 9, 9, 9], 1, 5, 6, 1, 2, ⟨1, [3, 0, 0, 0]⟩⟩

/-- The route of entry 3 of 7.6. -/
def route76 : Route := ⟨[7, 1, 0, 0, 0, 0, 0], [7, 1, 9, 9, 9, 9, 9], .trunk 5, 6, true, 2, [3]⟩

theorem witness_writeRouteKeepsRoutesApart :
    fields76.wellFormed = true ∧ FieldsGive fields76 route76 ∧
    (∀ m a, m ≠ (63 : Byte).toNat → State.reset.route m = some a → ¬ (RangesMeet route76 a ∨ RangesMeet a route76)) ∧
    3 ≠ (63 : Byte).toNat ∧ routes76.route 3 = some route76 ∧ RangesMeet route76 route76 ∧
    RangesMeet { route76 with low := [7], high := [7] } route76 ∧
    ¬ RangesMeet { route76 with low := [7, 2], high := [7, 2] } route76 := by
  refine ⟨by decide, (routeOf_eq_some_iff _ _ (by decide)).mp (by decide), by simp, by decide, by decide +kernel, ?_, ?_, ?_⟩ <;>
  · unfold RangesMeet
    decide

/-- The fields of entry 3 of 7.6 with one field out of range, each at its boundary: count 0 and 17 of low, a digit 10, high of
another length, high below low, kind 3, group 16, service 32, flag 2, strip 8 of a length of 7, an insert of 5 digits, a strip on
a LOCAL and an insert on a SERVICE route (R115). -/
def outOfRange76 : List RouteFields :=
  [{ fields76 with low := { fields76.low with count := 0 }, high := { fields76.high with count := 0 } },
    { fields76 with low := { fields76.low with count := 17 }, high := { fields76.high with count := 17 } },
    { fields76 with high := sixteen [7, 1, 9, 9, 9, 9, 10] }, { fields76 with high := sixteen [7, 1, 9, 9, 9, 9] },
    { fields76 with high := sixteen [7, 0, 9, 9, 9, 9, 9] }, { fields76 with kind := 3 }, { fields76 with destination := 16 },
    { fields76 with service := 32 }, { fields76 with secureRequired := 2 }, { fields76 with strip := 8 },
    { fields76 with insert := ⟨5, [3, 0, 0, 0]⟩ }, { fields76 with kind := 0, insert := ⟨0, [0, 0, 0, 0]⟩ },
    { fields76 with kind := 2, strip := 0 }]

theorem witness_writeRouteKeepsRoutesApart_refused :
    63 < (64 : Byte).toNat ∧ ∀ f ∈ outOfRange76, f.wellFormed = true ∧ ∀ r, ¬ FieldsGive f r := by
  have none : ∀ f ∈ outOfRange76, f.wellFormed = true ∧ routeOf f = .none := by decide
  refine ⟨by decide, fun f hf => ⟨(none f hf).1, fun r h => ?_⟩⟩
  have := (routeOf_eq_some_iff f r (none f hf).1).mpr h
  rw [(none f hf).2] at this
  cases this

theorem witness_clearRouteVacatesEntry : ({ State.reset with lock := true } : State).lock = true ∧
    State.reset.mode ≠ .maintenance ∧ 63 < (64 : Byte).toNat ∧ (63 : Byte).toNat ≤ 63 := by decide

/-- Entry 1 screening with digits collected, over the routes given. -/
def screening (digits : List Nat) (s : State) : State :=
  s.setEntry 1 { admitted with screening := true, register := digits, interdigit := some ⟨0, false⟩ }

theorem witness_screeningBeginsAndEnds :
    ((withEntry 1 admitted).entry 1).screening = false ∧ ((withEntry 1 admitted).entry 1).state = .admitted ∧
    ((withEntry 1 admitted).entry 1).stack.length < (State.reset.classRecord admitted.cls).limit ∧
    ((screening [] State.reset).entry 1).screening = true ∧
    HasRunOut ((screening [] State.reset).entry 1).interdigit ∧ ¬ HasRunOut ((withEntry 1 admitted).entry 1).interdigit := by
  decide +kernel

/-- The refusals of dialling, each at its boundary: the entry of the last but one is at its class's limit of 1. -/
theorem witness_screeningBeginsAndEnds_refused :
    511 < (512 : Word).toNat ∧ 9 < (10 : Byte).toNat ∧ (9 : Byte).toNat ≤ 9 ∧ State.reset.mode = .normal ∧
    (State.reset.entry 511).state ≠ .admitted ∧ ((screening [] State.reset).entry 1).screening = true ∧
    ((withEntry 1 { admitted with stack := [⟨7, false⟩] }).entry 1).state = .admitted ∧
    (State.reset.classRecord admitted.cls).limit ≤ ((withEntry 1 { admitted with stack := [⟨7, false⟩] }).entry 1).stack.length ∧
    (State.reset.entry 511).screening = false := by decide +kernel

/-- One route in entry 63. -/
def withRoute (r : Route) : State := State.reset.setRoute 63 (some r)

theorem withRoute_route (r x : Route) (n : Nat) (h : (withRoute r).route n = some x) : n = 63 ∧ x = r := by
  rw [withRoute, route_setRoute] at h
  split at h
  · rename_i hn
    exact ⟨hn.1.symm, by simpa using h.symm⟩
  · simp at h

theorem withRoute_apart (r : Route) : (withRoute r).RoutesApart := by
  intro m n a b hmn ha hb
  exact absurd ((withRoute_route r a m ha).1.trans (withRoute_route r b n hb).1.symm) hmn

/-- The digit strings 200..299, for service 0. -/
def routeTo (kind : RouteKind) : Route := ⟨[2, 0, 0], [2, 9, 9], kind, 0, false, 0, []⟩

/-- One LOCAL route. -/
def oneRoute : State := withRoute (routeTo .localCall)

theorem oneRoute_route (n : Nat) (r : Route) (h : oneRoute.route n = some r) :
    n = 63 ∧ r = ⟨[2, 0, 0], [2, 9, 9], .localCall, 0, false, 0, []⟩ := withRoute_route _ _ _ h

theorem oneRoute_apart : oneRoute.RoutesApart := withRoute_apart _

theorem witness_digitIsCollected :
    (9 : Byte).toNat ≤ 9 ∧ ((screening [2] oneRoute).entry 1).screening = true ∧
    (∀ n r, (screening [2] oneRoute).route n = some r →
      ¬ (r.low.length = ([2] ++ [9]).length ∧ digitsValue r.low ≤ digitsValue ([2] ++ [9]) ∧
        digitsValue ([2] ++ [9]) ≤ digitsValue r.high)) ∧
    (∃ n r, (screening [2] oneRoute).route n = some r ∧ ([2] ++ [9]).length ≤ r.low.length ∧
      digitsValue r.low / 10 ^ (r.low.length - ([2] ++ [9]).length) ≤ digitsValue ([2] ++ [9]) ∧
      digitsValue ([2] ++ [9]) ≤ digitsValue r.high / 10 ^ (r.low.length - ([2] ++ [9]).length)) ∧
    (∀ n r, (screening [] oneRoute).route n = some r → ¬ (([] ++ [8]).length ≤ r.low.length ∧
      digitsValue r.low / 10 ^ (r.low.length - ([] ++ [8]).length) ≤ digitsValue ([] ++ [8]) ∧
      digitsValue ([] ++ [8]) ≤ digitsValue r.high / 10 ^ (r.low.length - ([] ++ [8]).length))) := by
  refine ⟨by decide, by decide +kernel, fun n r h => ?_,
    ⟨63, ⟨[2, 0, 0], [2, 9, 9], .localCall, 0, false, 0, []⟩, by decide +kernel⟩, fun n r h => ?_⟩ <;>
  · obtain ⟨-, rfl⟩ := oneRoute_route n r h
    decide

/-- 201 meets the route 200..299 exactly, 20 is a candidate of it, and 30 is none (R121). -/
theorem witness_exactMatchIsOnlyCandidate :
    oneRoute.RoutesApart ∧ oneRoute.route 63 = some (routeTo .localCall) ∧
    oneRoute.walk [2, 0, 1] = .exact 63 (routeTo .localCall) ∧ oneRoute.walk [2, 0] = .more ∧
    oneRoute.walk [3, 0] = .noRoute :=
  ⟨oneRoute_apart, by decide +kernel, by decide +kernel, by decide +kernel, by decide +kernel⟩

/-- Entry 1 of class 0, whose record is as given, about to complete 201 over one route. -/
def completing (kind : RouteKind) (limit : Nat) (l : Legality) (e : Entry) : State :=
  ((withRoute (routeTo kind)).setClassRecord 0 ⟨limit, fillTable 32 l⟩).setEntry 1
    { e with screening := true, register := [2, 0], interdigit := some ⟨1, false⟩ }

/-- The caller with another number than 201. -/
def caller : Entry := { admitted with number := [2, 0, 0], cls := 0 }

/-- Entry 1 about to complete 201, with entry 2 as given. -/
def callingBy (kind : RouteKind) (limit : Nat) (l : Legality) (e callee : Entry) : State :=
  (completing kind limit l e).setEntry 2 callee

/-- The same over a LOCAL route. -/
abbrev calling := callingBy .localCall

theorem calling_entry (limit : Nat) (l : Legality) (e callee : Entry) (k : Nat) (h1 : k ≠ 1) (h2 : k ≠ 2) :
    ((calling limit l e callee).entry k) = Entry.vacant := by
  rw [calling, callingBy, entry_setEntry, if_neg (by omega), completing, entry_setEntry, if_neg (by omega)]
  exact reset_entry k

theorem calling_caller (limit : Nat) (l : Legality) (e callee : Entry) :
    ((calling limit l e callee).entry 1).number = e.number := by
  rw [calling, callingBy, entry_setEntry, if_neg (by omega), completing, entry_setEntry, if_pos (by omega)]

theorem calling_callee (limit : Nat) (l : Legality) (e callee : Entry) : (calling limit l e callee).entry 2 = callee := by
  rw [calling, callingBy, entry_setEntry, if_pos (by omega)]

theorem calling_unique (limit : Nat) (l : Legality) (e callee : Entry) (h : e.number ≠ callee.number) :
    (calling limit l e callee).NumbersUnique := by
  intro i j _ _ hij hi hj
  have only : ∀ k, ((calling limit l e callee).entry k).state ≠ .vacant → k = 1 ∨ k = 2 := by
    intro k hk
    by_contra hn
    exact hk (congrArg Entry.state (calling_entry limit l e callee k (by omega) (by omega)))
  rcases only i hi with rfl | rfl <;> rcases only j hj with rfl | rfl
  · exact absurd rfl hij
  · rw [calling_caller, calling_callee]
    exact h
  · rw [calling_caller, calling_callee]
    exact h.symm
  · exact absurd rfl hij

theorem calling_class (kind : RouteKind) (limit : Nat) (l : Legality) (e callee : Entry) :
    (callingBy kind limit l e callee).classRecord 0 = ⟨limit, fillTable 32 l⟩ := by
  change ((withRoute (routeTo kind)).setClassRecord 0 ⟨limit, fillTable 32 l⟩).classRecord 0 = _
  rw [classRecord_setClassRecord, if_pos (by omega)]

/-- The callee 201 in another state, or with a full stack. -/
def fullCallee : Entry := { admitted with stack := [⟨9, false⟩] }

/-- Group 15 as given, called by entry 1 of a limit over the TRUNK route. -/
def trunking (limit : Nat) (e : Entry) (g : Group) : State :=
  (callingBy (.trunk 15) limit .secureOnly e Entry.vacant).setGroup 15 g

/-- A group of a kind and a tie key with one call of its budget. -/
def groupOf (kind : GroupKind) (key : Option Key) (budget : Nat) : Group := ⟨kind, .b, budget, 1, key, false⟩

/-- The same with every leg taken. -/
def legless (s : State) : State := { s with legs := fillTable 48 ⟨0, .reserved .loopTest⟩ }

/-- The LOCAL call from entry 1 to entry 2 passes the screening, whatever the legs and the calls. -/
theorem calling_passes (l : Legality) (e : Entry) (h : e.stack = [] ∧ e.cls = 0 ∧ e.number = [2, 0, 0]) :
    (calling 1 l e admitted).ScreenPasses 1 ([2, 0] ++ [1]) (routeTo .localCall) (.extension 2) := by
  refine ⟨?_, calling_unique _ _ _ _ (by rw [h.2.2]; decide), 2, by decide, rfl, by decide, by rw [calling_callee]; rfl,
    by rw [calling_callee]; rfl, ?_⟩
  · rw [calling, callingBy, entry_setEntry, if_neg (by omega), completing, entry_setEntry, if_pos (by omega)]
    simp only [h.1, h.2.1]
    change _ < ((calling 1 l e admitted).classRecord 0).limit
    rw [calling_class]
    exact Nat.zero_lt_one
  · rw [calling_callee]
    change _ < ((calling 1 l e admitted).classRecord 0).limit
    rw [calling_class]
    exact Nat.zero_lt_one

theorem trunking_passes (kind : GroupKind) (key : Option Key) (h : kind = .plain ∨ key ≠ none) :
    (trunking 1 caller (groupOf kind key 2)).ScreenPasses 1 ([2, 0] ++ [1]) (routeTo (.trunk 15)) (.group 15) := by
  have room : ((callingBy (.trunk 15) 1 .secureOnly caller Entry.vacant).entry 1).stack.length <
      ((callingBy (.trunk 15) 1 .secureOnly caller Entry.vacant).classRecord 0).limit := by decide +kernel
  refine ⟨room, rfl, ?_, ?_⟩ <;> rw [trunking, group_setGroup, if_pos (by omega)]
  · exact h
  · show 1 < 2
    decide

theorem witness_localDecisionRefusals :
    ((calling 1 .allowed caller enrolled).entry 1).screening = true ∧ (calling 1 .allowed caller enrolled).RoutesApart ∧
    (calling 1 .allowed caller enrolled).route 63 = some ⟨[2, 0, 0], [2, 9, 9], .localCall, 0, false, 0, []⟩ ∧
    readAt ((calling 1 .barred caller enrolled).classRecord 0).legalities .barred 0 = .barred ∧
    readAt ((calling 1 .allowed caller enrolled).classRecord 0).legalities .barred 0 = .allowed ∧
    ¬ (calling 1 .allowed caller Entry.vacant).NumberHeld ([2, 0] ++ [1]) ∧
    (calling 1 .allowed admitted Entry.vacant).NumbersUnique ∧
    ((calling 1 .allowed admitted Entry.vacant).entry 1).number = [2, 0] ++ [1] ∧
    (calling 1 .allowed caller enrolled).NumbersUnique ∧ ((calling 1 .allowed caller enrolled).entry 2).state = .enrolled ∧
    (calling 1 .allowed caller fullCallee).NumbersUnique ∧
    (((calling 1 .allowed caller fullCallee).classRecord 0).limit ≤
      ((calling 1 .allowed caller fullCallee).entry 2).stack.length) ∧
    (calling 1 .allowed { caller with stack := [⟨9, false⟩] } admitted).NumbersUnique ∧
    (((calling 1 .allowed { caller with stack := [⟨9, false⟩] } admitted).classRecord 0).limit ≤
      ((calling 1 .allowed { caller with stack := [⟨9, false⟩] } admitted).entry 1).stack.length) := by
  refine ⟨by decide +kernel, oneRoute_apart, by decide +kernel, by decide +kernel, by decide +kernel, ?_,
    calling_unique _ _ _ _ (by decide), by decide +kernel, calling_unique _ _ _ _ (by decide), by decide +kernel,
    calling_unique _ _ _ _ (by decide), by decide +kernel, calling_unique _ _ _ _ (by decide), by decide +kernel⟩
  rintro ⟨k, _, hs, hn⟩
  by_cases h1 : k = 1
  · rw [h1, calling_caller] at hn
    exact absurd hn (by decide)
  · by_cases h2 : k = 2
    · rw [h2, calling_callee] at hs
      exact hs rfl
    · exact hs (congrArg Entry.state (calling_entry _ _ _ _ k h1 h2))

/-- The TRUNK and SERVICE clauses: no tie key, a full group, a full stack. -/
theorem witness_localDecisionRefusals_trunk :
    (trunking 1 caller (groupOf .tie none 2)).RoutesApart ∧
    (trunking 1 caller (groupOf .tie none 2)).route 63 = some (routeTo (.trunk 15)) ∧
    ((trunking 1 caller (groupOf .tie none 2)).entry 1).screening = true ∧
    ((trunking 1 caller (groupOf .tie none 2)).group 15).kind = .tie ∧
    ((trunking 1 caller (groupOf .tie none 2)).group 15).tieKey = none ∧
    ((trunking 1 caller (groupOf .plain none 1)).group 15).kind ≠ .tie ∧
    ((trunking 1 caller (groupOf .plain none 1)).group 15).budget ≤
      ((trunking 1 caller (groupOf .plain none 1)).group 15).active ∧
    ((trunking 0 caller (groupOf .plain none 2)).group 15).active <
      ((trunking 0 caller (groupOf .plain none 2)).group 15).budget ∧
    ((trunking 0 caller (groupOf .plain none 2)).classRecord 0).limit ≤
      ((trunking 0 caller (groupOf .plain none 2)).entry 1).stack.length ∧
    (callingBy (.service 0) 0 .allowed caller Entry.vacant).route 63 = some (routeTo (.service 0)) :=
  ⟨withRoute_apart _, by decide +kernel, by decide +kernel, by decide +kernel, by decide +kernel, by decide +kernel,
    by decide +kernel, by decide +kernel, by decide +kernel, by decide +kernel⟩

/-- The hand-over clauses: 96 calls, a caller that is not capable, one FREE leg too few, a tie call and no FREE leg. -/
theorem witness_localDecisionRefusals_legs :
    (calling 1 .secureOnly caller admitted).ScreenPasses 1 ([2, 0] ++ [1]) (routeTo .localCall) (.extension 2) ∧
    ({ calling 1 .secureOnly caller admitted with calls := List.replicate 96 talking } : State).ScreenPasses 1
      ([2, 0] ++ [1]) (routeTo .localCall) (.extension 2) ∧ 96 ≤ (List.replicate 96 talking).length ∧
    (calling 1 .secureOnly { caller with secure := false } admitted).ScreenPasses 1 ([2, 0] ++ [1])
      (routeTo .localCall) (.extension 2) ∧
    ((legless (calling 1 .secureOnly caller admitted)).setLeg 47 Leg.atReset).ScreenPasses 1 ([2, 0] ++ [1])
      (routeTo .localCall) (.extension 2) ∧
    ((legless (calling 1 .secureOnly caller admitted)).setLeg 47 Leg.atReset).freeLegList.length = 1 ∧
    (((legless (calling 1 .secureOnly caller admitted)).setLeg 47 Leg.atReset).legsNeeded 1 (.extension 2) 1).length = 2 ∧
    (trunking 1 caller (groupOf .plain none 2)).ScreenPasses 1 ([2, 0] ++ [1]) (routeTo (.trunk 15)) (.group 15) ∧
    (legless (trunking 1 caller (groupOf .tie (some key18) 2))).ScreenPasses 1 ([2, 0] ++ [1]) (routeTo (.trunk 15))
      (.group 15) ∧ (legless (trunking 1 caller (groupOf .tie (some key18) 2))).freeLegList = [] :=
  ⟨calling_passes _ _ (by decide), calling_passes .secureOnly caller (by decide), by decide, calling_passes _ _ (by decide),
    calling_passes .secureOnly caller (by decide), by decide +kernel, by decide +kernel, trunking_passes _ _ (.inl rfl),
    trunking_passes .tie (some key18) (.inr (by decide)), by decide +kernel⟩

/-- Entry 1 about to complete 201 over the SERVICE route. -/
def serviceState : State := callingBy (.service 255) 1 .allowed { caller with secure := false } Entry.vacant

theorem witness_digitRoutesServiceCall :
    serviceState.route 63 = some (routeTo (.service 255)) ∧ (serviceState.entry 1).screening = true ∧
    serviceState.RoutesApart ∧ digitsValue (routeTo (.service 255)).low ≤ digitsValue ([2, 0] ++ [1]) ∧
    readAt (serviceState.classRecord 0).legalities .barred 0 = .allowed ∧
    (routeTo (.service 255)).secureRequired = false ∧
    (serviceState.entry 1).stack.length < (serviceState.classRecord 0).limit ∧ serviceState.calls = [] ∧
    (serviceState.entry 1).secure = false ∧
    serviceState.ScreenPasses 1 ([2, 0] ++ [1]) (routeTo (.service 255)) (.service 255) ∧
    (calling 1 .secureOnly caller admitted).ScreenPasses 1 ([2, 0] ++ [1]) (routeTo .localCall) (.extension 2) ∧
    ((calling 1 .secureOnly caller admitted).entry 1).secure = true ∧
    ((calling 1 .secureOnly caller admitted).entry 2).secure = true ∧
    ((calling 1 .secureOnly caller admitted).legsNeeded 1 (.extension 2) 1).length ≤
      (calling 1 .secureOnly caller admitted).freeLegList.length ∧
    (trunking 1 caller (groupOf .tie (some key18) 2)).ScreenPasses 1 ([2, 0] ++ [1]) (routeTo (.trunk 15)) (.group 15) ∧
    ((trunking 1 caller (groupOf .tie (some key18) 2)).group 15).kind = .tie ∧
    ((trunking 1 caller (groupOf .tie (some key18) 2)).legsNeeded 1 (.group 15) 1).length ≤
      (trunking 1 caller (groupOf .tie (some key18) 2)).freeLegList.length :=
  ⟨by decide +kernel, by decide +kernel, withRoute_apart _, by decide, by decide +kernel, by decide, by decide +kernel,
    by decide +kernel, by decide +kernel, ⟨by decide +kernel, rfl⟩, calling_passes _ _ (by decide), by decide +kernel,
    by decide +kernel, by decide +kernel, trunking_passes _ _ (.inr (by decide)), by decide +kernel, by decide +kernel⟩

/-- References held: the counter's own, 65535, so that the call takes 1; and none. -/
theorem witness_digitRoutesServiceCall_reference :
    let s := { serviceState with calls := [{ talking with ref := 65535 }], referenceCounter := 65535 }
    let offered := fun x : Nat => if x = 0 then s.referenceCounter else (s.referenceCounter - 1 + x) % 65535 + 1
    offered 1 = 1 ∧ 1 ≤ s.referenceCounter ∧ s.referenceCounter ≤ 65535 ∧ (∀ x < 1, ∃ c ∈ s.calls, c.ref = offered x) ∧
    (∀ c ∈ s.calls, c.ref ≠ offered 1) ∧ s.newReference = 1 := by
  refine ⟨by decide, by decide, by decide, fun x hx => ⟨_, List.mem_singleton.mpr rfl, ?_⟩, ?_, by decide +kernel⟩
  · obtain rfl : x = 0 := by omega
    decide
  · intro c hc
    obtain rfl := List.mem_singleton.mp hc
    decide

/-! #### Calls -/

/-- Call 7 of entry 1 ALERTING, its caller's leg 47 RESERVED, with so many jobs waiting. -/
def alertingCall (jobs : Nat) : State :=
  { (withEntry 1 { admitted with stack := [⟨7, false⟩], ownedLeg := some 47 }).setLeg 47
      ⟨0, .reserved (.extension 1)⟩ with
    calls := [{ talking with state := .alerting }]
    jobs := List.replicate jobs (.challenge key18 0 2 0) }

theorem channelFree_of (s : State) (channel : Byte)
    (h : (List.range 48).all (fun l => match s.openLeg? l with
      | some o => o.channel != channel.toNat
      | none => true) = true) : s.ChannelFree channel := by
  intro l hl o ho
  have := List.all_eq_true.mp h l (List.mem_range.mpr hl)
  simpa [ho] using this

theorem alertingCall_free (n : Nat) (channel : Byte) : (alertingCall n).ChannelFree channel := by
  intro l hl
  have e : (alertingCall n).openLeg? l = (alertingCall 0).openLeg? l := rfl
  have none : ∀ l < 48, (alertingCall 0).openLeg? l = none := by decide +kernel
  rw [e, none l hl]
  simp

theorem witness_answerOpensCallersLeg :
    (7 : Word) ≠ 0 ∧ (127 : Byte).toNat ≤ 127 ∧ (alertingCall 0).mode ≠ .standalone ∧
    (alertingCall 0).call (7 : Word).toNat = some { talking with state := .alerting } ∧
    ((alertingCall 0).entry 1).ownedLeg = some 47 ∧ ((alertingCall 0).leg 47).use = .reserved (.extension 1) ∧
    ((alertingCall 0).entry 1).sk = some key18 ∧ (alertingCall 30).jobs.length < 31 ∧ (alertingCall 31).jobs.length = 31 ∧
    32 ≤ (alertingCall 32).jobs.length ∧ ∀ n, (alertingCall n).ChannelFree 127 :=
  ⟨by decide, by decide, by decide +kernel, by decide +kernel, by decide +kernel, by decide +kernel, by decide +kernel,
    by decide +kernel, by decide +kernel, by decide +kernel, fun n => alertingCall_free n 127⟩

/-- The caller's side of every ANSWER: the RESERVED leg opened, no leg, the OPEN leg whose channel is given. -/
theorem witness_answerOpensCallersLeg_caller :
    (alertingCall 28).OwnLeg 1 127 (some ((alertingCall 28).openingFor 47 1 key18 127)) ∧
    (alertingCall 28).jobs.length ≤ 28 ∧ 32 ≤ (alertingCall 32).jobs.length ∧
    ((alertingCall 28).calls.map (fun x => x.ref)).Nodup ∧ State.reset.OwnLeg 1 255 none ∧ inCall.OwnLeg 1 127 none :=
  ⟨⟨47, key18, by decide +kernel, by decide +kernel, by decide +kernel, by decide, alertingCall_free 28 127, rfl⟩,
    by decide +kernel, by decide +kernel, by decide +kernel, .inl ⟨by decide +kernel, .inr rfl⟩,
    .inr ⟨47, .extension 1, { opened with channel := 127 }, by decide +kernel, by decide +kernel, rfl, by decide⟩⟩

/-- Call 7 ALERTING to a B party, entry 2 and leg 3 as given, over group 15 a TIE group, with other calls before it. -/
def alertingTo (b : BParty) (reservation tieLeg : Option Nat) (others : List Call) (callee : Entry) (use : LegUse) : State :=
  { (((alertingCall 0).setEntry 2 callee).setLeg 3 ⟨255, use⟩).setGroup 15 (groupOf .tie (some key18) 2) with
    calls := others ++ [{ talking with state := .alerting, b := b, bReservation := reservation, tieLeg := tieLeg }] }

/-- Call 7 to entry 2, with a B-side reservation. -/
def toCallee (reservation : Option Nat) : Call :=
  { talking with state := .alerting, b := .extension 2, bReservation := reservation }

/-- Call 6 to entry 2, with a B-side reservation. -/
def otherCall (reservation : Option Nat) : Call := { toCallee reservation with ref := 6 }

/-- The callee, ADMITTED, with the class 0. -/
def callee : Entry := { admitted with cls := 0 }

/-- The B side of every ANSWER, form by form. -/
theorem witness_answerOpensCallersLeg_far :
    (alertingCall 0).FarLeg { talking with state := .alerting } 255 0 none none none ∧
    (alertingTo (.group 14) none none [] callee .free).FarLeg { talking with state := .alerting, b := .group 14 } 127 0
      none none none ∧
    (alertingTo (.group 15) none (some 3) [] callee (.reserved (.tieCall 7))).FarLeg
      { talking with state := .alerting, b := .group 15, tieLeg := some 3 } 127 51002
      (some ((alertingTo (.group 15) none (some 3) [] callee (.reserved (.tieCall 7))).tieOpening 3 7
        (groupOf .tie (some key18) 2) key18 51002 127)) none none ∧
    (alertingTo (.extension 2) (some 3) none [] callee (.reserved (.bSide 7))).FarLeg (toCallee (some 3)) 127 0
      (some ((alertingTo (.extension 2) (some 3) none [] callee (.reserved (.bSide 7))).openingFor 3 2 key18 127))
      none none ∧
    (alertingTo (.extension 2) none none [otherCall (some 3)] callee (.reserved (.bSide 6))).FarLeg (toCallee none) 127 0
      (some ((alertingTo (.extension 2) none none [otherCall (some 3)] callee
        (.reserved (.bSide 6))).openingFor 3 2 key18 127)) (some 6) none ∧
    (alertingTo (.extension 2) none none [otherCall none] callee .free).FarLeg (toCallee none) 127 0
      (some ((alertingTo (.extension 2) none none [otherCall none] callee .free).openingFor 0 2 key18 127)) none none ∧
    (alertingTo (.extension 2) none none [] { callee with ownedLeg := some 3 } (.reserved (.extension 2))).FarLeg
      (toCallee none) 127 0 (some ((alertingTo (.extension 2) none none [] { callee with ownedLeg := some 3 }
        (.reserved (.extension 2))).openingFor 3 2 key18 127)) none none ∧
    (alertingTo (.extension 2) none none [] { callee with ownedLeg := some 3 } (.opened (.extension 2) opened)).FarLeg
      (toCallee none) 5 0 none none none ∧
    (alertingTo (.extension 2) none none [] { callee with secure := false } .free).FarLeg (toCallee none) 255 0
      none none none := by
  have free : ∀ b reservation tie others e use, (∀ w o, use ≠ .opened w o) →
      (alertingTo b reservation tie others e use).ChannelFree 127 := by
    intro b reservation tie others e use h l hl o ho
    have same : (alertingTo b reservation tie others e use).leg l = ((alertingCall 0).setLeg 3 ⟨255, use⟩).leg l := rfl
    rw [State.openLeg?, same, leg_setLeg] at ho
    split at ho
    · cases use with
      | opened w r => exact absurd rfl (h w r)
      | _ => simp [LegUse.opened?] at ho
    · exact alertingCall_free 0 127 l hl o ho
  have one : admitted.stack.length < ((alertingCall 0).classRecord 0).limit := by decide +kernel
  refine ⟨⟨rfl, rfl, rfl, .inr rfl⟩, ⟨rfl, rfl, .inl ⟨rfl, rfl, .inl (by decide)⟩⟩,
    ⟨rfl, rfl, .inr ⟨3, key18, rfl, by decide +kernel, by decide +kernel, by decide, free _ _ _ _ _ _ (by simp), rfl⟩⟩,
    ⟨by decide, by decide +kernel, one, .inr (.inl ⟨by decide +kernel, rfl, by decide, free _ _ _ _ _ _ (by simp), 3, key18,
      .inl ⟨rfl, by decide +kernel, rfl⟩, by decide +kernel, rfl⟩)⟩,
    ⟨by decide, by decide +kernel, one, .inr (.inl ⟨by decide +kernel, rfl, by decide, free _ _ _ _ _ _ (by simp), 3, key18,
      .inr (.inl ⟨rfl, by decide +kernel, [], otherCall (some 3), [toCallee none], rfl, by simp, by decide, rfl,
        by decide +kernel, rfl⟩), by decide +kernel, rfl⟩)⟩,
    ⟨by decide, by decide +kernel, one, .inr (.inl ⟨by decide +kernel, rfl, by decide, free _ _ _ _ _ _ (by simp), 0, key18,
      .inr (.inr ⟨rfl, by decide +kernel, by decide, by decide, by decide +kernel, by simp, rfl⟩), by decide +kernel,
      rfl⟩)⟩,
    ⟨by decide, by decide +kernel, one, .inl ⟨by decide +kernel, ⟨3, key18, by decide +kernel, by decide +kernel,
      by decide +kernel, by decide, free _ _ _ _ _ _ (by simp), rfl⟩, rfl, rfl, by simp [toCallee]⟩⟩,
    ⟨by decide, by decide +kernel, one, .inl ⟨by decide +kernel, .inr ⟨3, .extension 2, opened, by decide +kernel,
      by decide +kernel, rfl, by decide⟩, rfl, rfl, by simp [toCallee]⟩⟩,
    ⟨by decide, by decide +kernel, one, .inr (.inr ⟨by decide +kernel, rfl, .inr rfl, rfl, rfl, rfl,
      .inl (by decide +kernel)⟩)⟩⟩

/-- The refusals of R139: a channel out of range, the mode, no call, a TALKING call, a callee not ADMITTED or full, no
channel for a leg to open, a channel in use or given twice, another channel than the OPEN leg's. -/
theorem witness_answerOpensCallersLeg_refused :
    ¬ ChannelOrNone 128 ∧ ¬ ChannelOrNone 254 ∧ ChannelOrNone 127 ∧ ChannelOrNone 255 ∧
    ({ State.reset with mode := .standalone } : State).mode = .standalone ∧ State.reset.call 7 = none ∧
    inCall.call 7 = some talking ∧ talking.state = .talking ∧
    ((alertingTo (.extension 2) none none [] enrolled .free).entry 2).state ≠ .admitted ∧
    ((alertingTo (.extension 2) none none [] fullCallee .free).entry 2).state = .admitted ∧
    ((alertingTo (.extension 2) none none [] fullCallee .free).classRecord fullCallee.cls).limit ≤
      fullCallee.stack.length ∧ (127 : Byte) ≠ 255 ∧ ¬ inCall.ChannelFree 127 ∧
    (opened.channel ≠ (127 : Byte).toNat ∧
      ((alertingTo (.extension 2) none none [] { callee with ownedLeg := some 3 }
        (.opened (.extension 2) opened)).leg 3).use = .opened (.extension 2) opened) := by
  refine ⟨by unfold ChannelOrNone; decide, by unfold ChannelOrNone; decide, .inl (by decide), .inr rfl, rfl, by decide +kernel,
    by decide +kernel, rfl, by decide +kernel, by decide +kernel, by decide +kernel, by decide, ?_, by decide,
    by decide +kernel⟩
  intro h
  exact h 47 (by decide) { opened with channel := 127 } (by decide +kernel) rfl

theorem witness_holdAndRetrieve :
    ((withEntry 511 { admitted with stack := [⟨7, false⟩] }).entry 511).stack = ⟨7, false⟩ :: [] ∧
    ((withEntry 511 { admitted with stack := [⟨7, true⟩] }).entry 511).stack = ⟨7, true⟩ :: [] ∧
    ((withEntry 511 admitted).entry 511).state = .admitted := by decide +kernel

theorem witness_holdAndRetrieve_refused : 511 < (512 : Word).toNat ∧ (State.reset.entry (511 : Word).toNat).state ≠ .admitted ∧
    ((withEntry 511 admitted).entry (511 : Word).toNat).stack = [] := by decide +kernel

theorem witness_swapExchangesTopTwo :
    511 < (512 : Word).toNat ∧ (511 : Word).toNat ≤ 511 ∧ (State.reset.entry 511).state ≠ .admitted ∧
    ((withEntry 1 { admitted with stack := [⟨7, false⟩] }).entry 1).stack.length < 2 ∧
    ((withEntry 511 { admitted with stack := [⟨8, false⟩, ⟨7, true⟩] }).entry 511).stack = ⟨8, false⟩ :: ⟨7, true⟩ :: [] ∧
    ((withEntry 511 { admitted with stack := [⟨8, false⟩, ⟨7, true⟩] }).entry 511).state = .admitted := by decide +kernel

theorem witness_callsAreRemoved :
    let s := { withEntry 1 { admitted with stack := [⟨7, false⟩] } with
      calls := [{ talking with b := .group 15, requiresSecure := true, grace := some ⟨0, false⟩ }] }
    s.call 7 = some { talking with b := .group 15, requiresSecure := true, grace := some ⟨0, false⟩ } ∧ (7 : Word).toNat = 7 ∧
      (s.entry 1).ownedLeg = none ∧ s.freeSlot = some 0 ∧ HasRunOut (some ⟨0, false⟩) ∧ ¬ HasRunOut talking.grace := by decide +kernel

theorem witness_callsAreRemoved_refused : (7 : Word) ≠ 0 ∧ State.reset.call (7 : Word).toNat = none := by decide +kernel

/-- The legs of a removal: a reservation and a tie leg; the caller's RESERVED leg, its only ALERTING call going; the OPEN leg
of a party whose stack empties; a leg that stays, a second call being on the stack. -/
theorem witness_callsAreRemoved_legs :
    (alertingTo (.extension 2) (some 3) none [] callee (.reserved (.bSide 7))).call 7 = some (toCallee (some 3)) ∧
    (alertingTo (.group 15) none (some 3) [] callee (.reserved (.tieCall 7))).call 7 =
      some { talking with state := .alerting, b := .group 15, tieLeg := some 3 } ∧
    ((alertingCall 0).entry 1).ownedLeg = some 47 ∧ ((alertingCall 0).leg 47).use = .reserved (.extension 1) ∧
    (∀ l < 48, l ≠ 47 → ((alertingCall 0).leg l).use.owner? ≠ some (.extension 1)) ∧
    (∀ x ∈ ((alertingCall 0).entry 1).stack, x.call = 7) ∧
    (inCall.entry 1).ownedLeg = some 47 ∧ (inCall.leg 47).use = .opened (.extension 1) { opened with channel := 127 } ∧
    (∀ l < 48, l ≠ 47 → (inCall.leg l).use.owner? ≠ some (.extension 1)) ∧ (∀ x ∈ (inCall.entry 1).stack, x.call = 7) ∧
    (∀ l, l ≠ 1 → ((inCall.setEntry 1 { admitted with stack := [⟨8, false⟩, ⟨7, true⟩], ownedLeg := some 47 }).entry
      l).ownedLeg ≠ some 47) ∧
    (∃ x ∈ ([⟨8, false⟩, ⟨7, true⟩] : List StackItem), x.call ≠ 7 ∧
      ∀ w, (inCall.leg 47).use ≠ .reserved w) := by
  have use : (inCall.leg 47).use = .opened (.extension 1) { opened with channel := 127 } := by decide +kernel
  refine ⟨by decide +kernel, by decide +kernel, by decide +kernel, by decide +kernel, by decide +kernel, by decide +kernel,
    by decide +kernel, use, inCall_alone, by decide +kernel, ?_, ⟨⟨8, false⟩, by simp, by decide, by simp [use]⟩⟩
  intro l hl
  have same : (inCall.setEntry 1 { admitted with stack := [⟨8, false⟩, ⟨7, true⟩], ownedLeg := some 47 }).entry l =
      (withEntry 1 { admitted with stack := [⟨8, false⟩, ⟨7, true⟩], ownedLeg := some 47 }).entry l := by
    rw [entry_setEntry, withEntry, entry_setEntry, if_neg (by omega), if_neg (by omega)]
    change (withEntry 1 { admitted with stack := [⟨7, false⟩], ownedLeg := some 47 }).entry l = _
    rw [withEntry, entry_setEntry, if_neg (by omega)]
  rw [same, withEntry, entry_setEntry, if_neg (by omega), reset_entry]
  simp [Entry.vacant]

theorem witness_evaluationOfCalls :
    let s := { withEntry 1 admitted with calls := [{ talking with requiresSecure := true }] }
    s.calls[0]? = some { talking with requiresSecure := true } ∧ s.statusOf { talking with requiresSecure := true } ≠ .secure ∧
      s.lostFlag = false ∧ s.transmitting ≠ none ∧ s.reportQueue.length + s.calls.length ≤ 32 ∧
      (∀ b < 32, s.reportMask.getLsbD b = true) ∧ talking.requiresSecure = false ∧ inCall.calls[0]? = some talking := by
  decide +kernel

theorem witness_readsShowTheRecords :
    15 < (16 : Byte).toNat ∧ (15 : Byte).toNat ≤ 15 ∧ (7 : Word) ≠ 0 ∧ State.reset.call (7 : Word).toNat = none ∧
    ({ State.reset with calls := [talking] } : State).call (7 : Word).toNat = some talking ∧
    talking.forwarded.length ≤ 20 ∧ 47 < (48 : Byte).toNat ∧ (47 : Byte).toNat ≤ 47 ∧ 511 < (512 : Word).toNat ∧
    (511 : Word).toNat ≤ 511 ∧ ((withEntry 511 enrolled).entry 511).number.length ≤ 6 ∧ enrolled.register.length ≤ 16 ∧
    3 ≤ enrolled.number.length ∧ DigitsCarry ⟨3, [2, 0, 1, 0, 0, 0]⟩ 6 enrolled.number ∧
    (calling 1 .allowed caller enrolled).NumbersUnique ∧ ((calling 1 .allowed caller enrolled).entry 2).number = enrolled.number ∧
    (∀ d, DigitsCarry ⟨2, [2, 0, 0, 0, 0, 0]⟩ 6 d → d.length < 3 ∨ 6 < d.length) ∧
    ¬ State.reset.NumberHeld enrolled.number := by
  refine ⟨by decide, by decide, by decide, by decide +kernel, by decide +kernel, by decide, by decide, by decide, by decide,
    by decide, by decide +kernel, by decide, by decide, by unfold DigitsCarry; decide, calling_unique _ _ _ _ (by decide),
    by decide +kernel, fun d h => .inl ?_, ?_⟩
  · have : (2 : Byte).toNat = d.length := h.1
    have two : (2 : Byte).toNat = 2 := rfl
    omega
  · rintro ⟨i, _, h, _⟩
    simp [Entry.vacant] at h

theorem witness_readsRevealNoKey : isRead (.readLeg 1 0) = true ∧ (withLeg .loopTest opened).freeSlot = some 0 := by
  decide +kernel

/-! #### Groups, keys and legs -/

theorem witness_groupWrites :
    (15 : Byte).toNat ≤ 15 ∧ State.reset.lock = false ∧ (96 : Byte).toNat ≤ 96 ∧ (State.reset.group 15).active = 0 ∧
    (GroupKind.tie ≠ ((State.reset.setGroup 15 { Group.atReset with active := 1 }).group 15).kind) ∧
    0 < ((State.reset.setGroup 15 { Group.atReset with active := 1 }).group 15).active ∧
    (State.reset.group 15).tieKeyUsed = false ∧ 2 ≤ (⟨0, 0, 2, 0⟩ : Key).k3.toNat := by decide +kernel

/-- The refusals of the group writes, each at its boundary. -/
theorem witness_groupWrites_refused :
    15 < (16 : Byte).toNat ∧ 1 < (2 : Byte).toNat ∧ 96 < (97 : Byte).toNat ∧ State.reset.mode ≠ .maintenance ∧
    ((State.reset.setGroup 15 { Group.atReset with tieKeyUsed := true }).group 15).tieKeyUsed = true ∧
    (⟨0, 0, 1, 0⟩ : Key).k3.toNat < 2 := by decide +kernel

theorem witness_setDeviceKey :
    State.reset.mode ≠ .maintenance ∧ State.reset.lock = false ∧ State.reset.deviceKeyUsed = false ∧
    ({ State.reset with lock := true } : State).lock = true ∧
    ({ State.reset with deviceKeyUsed := true } : State).deviceKeyUsed = true ∧ (⟨0, 0, 1, 0⟩ : Key).k3.toNat < 2 ∧
    2 ≤ (⟨0, 0, 2, 0⟩ : Key).k3.toNat := by decide

/-- A tie leg without its session key, its TIE SESSION job the oldest of 31. -/
def sessionNow : State :=
  { withLeg (.tieCall 7) { opened with sk := none, sessionOutstanding := true } with
    jobs := .tieSession key18 51002 0 1 :: List.replicate 30 (.challenge key18 0 2 0) }

theorem witness_tieSessionDelivered :
    sessionNow.jobs = .tieSession key18 51002 0 (sessionNow.leg 0).stamp :: List.replicate 30 (.challenge key18 0 2 0) ∧
    (sessionNow.leg 0).use = .opened (.tieCall 7) { opened with sk := none, sessionOutstanding := true } ∧
    opened.out.keys.wanted = some 0 ∧ opened.out.keys.outstanding = false ∧ opened.out.keys.marked = false ∧
    opened.inb.keys.wanted = some 0 ∧ opened.inb.keys.outstanding = false ∧ opened.inb.keys.marked = false := by
  decide +kernel

theorem witness_tieSessionDelivered_full : (List.replicate 30 (Job.challenge key18 0 2 0)).length ≤ 30 ∧
    (List.replicate 31 (Job.challenge key18 0 2 0)).length = 31 ∧
    32 ≤ (List.replicate 32 (Job.challenge key18 0 2 0)).length := by decide

/-- The keys of a direction with its job for an epoch outstanding. -/
def waiting (e : Long) : DirectionKeys := ⟨none, none, some e, true, false⟩

/-- The open record with the outbound direction's keys given. -/
def outKeys (k : DirectionKeys) : OpenLeg := { opened with out := { opened.out with keys := k } }

/-- Leg 0 with its outbound EPOCH job for epoch 0 the oldest of 32. -/
def epochNow (k : DirectionKeys) : State :=
  { withLeg .loopTest (outKeys k) with
    jobs := .epoch key18 0 0 .outbound 1 :: List.replicate 31 (.challenge key18 0 2 0) }

theorem witness_epochDelivered :
    (epochNow (waiting 0)).jobs =
      .epoch key18 0 0 .outbound ((epochNow (waiting 0)).leg 0).stamp :: List.replicate 31 (.challenge key18 0 2 0) ∧
    ((epochNow (waiting 0)).leg 0).use = .opened .loopTest (outKeys (waiting 0)) ∧ (outKeys (waiting 0)).sk = some key18 ∧
    ((outKeys (waiting 0)).keys .outbound).outstanding = true ∧ ((outKeys (waiting 0)).keys .outbound).marked = false ∧
    (outKeys (waiting 0)).out.state = .wait ∧ (outKeys (waiting 0)).inb.state ≠ .run ∧
    ((outKeys (waiting 0)).keys .outbound).active = none ∧
    ((outKeys (waiting 4)).keys .outbound).wanted = some 4 ∧ (4 : Long) ≠ 0 ∧
    ((outKeys { waiting 0 with active := some ⟨4, key18⟩ }).keys .outbound).active ≠ none ∧
    (({ outKeys { waiting 0 with active := some ⟨4, key18⟩ } with
      out := { (outKeys { waiting 0 with active := some ⟨4, key18⟩ }).out with state := .late } } : OpenLeg).out.state ≠
        .wait) := by
  decide +kernel

/-- The key made active: by an inbound direction, by an outbound one in LATE, and by one in WAIT whose other direction runs. -/
theorem witness_epochDelivered_active :
    let inbound := { opened with inb := { opened.inb with keys := waiting 0 } }
    let late := { outKeys (waiting 0) with out := { (outKeys (waiting 0)).out with state := .late } }
    let other := { outKeys (waiting 0) with inb := { opened.inb with state := .run } }
    (inbound.keys .inbound).active = none ∧ (inbound.keys .inbound).outstanding = true ∧
    (inbound.keys .inbound).wanted = some 0 ∧ (Direction.inbound ≠ .outbound) ∧ late.out.state ≠ .wait ∧
    (late.keys .outbound).active = none ∧ other.out.state = .wait ∧ other.inb.state = .run ∧
    (Owner.extension 1).isTold = true ∧ Owner.loopTest.isTold = false ∧
    (List.replicate 31 (Job.challenge key18 0 2 0)).length < 32 := by decide

/-- Leg 0 with its outbound offer marked and its inbound one not. -/
def markedNow (jobs : Nat) : State :=
  { withLeg .loopTest (outKeys { waiting 0 with outstanding := false, marked := true }) with
    jobs := List.replicate jobs (.challenge key18 0 2 0) }

theorem withLeg_other (owner : Owner) (o : OpenLeg) (l : Nat) (h : l ≠ 0) : (withLeg owner o).leg l = Leg.atReset := by
  rw [withLeg, leg_setLeg, if_neg (by omega)]
  exact reset_leg l

theorem witness_markedOfferRetried :
    ((markedNow 31).leg 0).use = .opened .loopTest (outKeys { waiting 0 with outstanding := false, marked := true }) ∧
    (outKeys { waiting 0 with outstanding := false, marked := true }).sk = some key18 ∧
    ((outKeys { waiting 0 with outstanding := false, marked := true }).keys .outbound).wanted = some 0 ∧
    ((outKeys { waiting 0 with outstanding := false, marked := true }).keys .outbound).marked = true ∧
    ((outKeys { waiting 0 with outstanding := false, marked := true }).keys .inbound).marked = false ∧
    (markedNow 31).jobs.length < 32 ∧ 32 ≤ (markedNow 32).jobs.length ∧
    (∀ l x, l ≠ 0 → (markedNow 31).openLeg? l ≠ some x) := by
  refine ⟨by decide +kernel, by decide +kernel, by decide +kernel, by decide +kernel, by decide +kernel, by decide +kernel,
    by decide +kernel, fun l x hl h => ?_⟩
  have : (markedNow 31).leg l = Leg.atReset := withLeg_other _ _ l hl
  simp [State.openLeg?, this, Leg.atReset, LegUse.opened?] at h

/-- Three marks on the tie leg of call 7: its TIE SESSION, and both its EPOCH jobs, in this order, with two places free. -/
def threeMarks : State :=
  let marked : DirectionKeys := { waiting 0 with outstanding := false, marked := true }
  let o : OpenLeg := { opened with
    sessionWanted := true
    out := { opened.out with keys := marked }
    inb := { opened.inb with keys := marked } }
  { (withLeg (.tieCall 7) o).setGroup 15 (groupOf .tie (some key18) 2) with
    calls := [{ talking with b := .group 15, tieNumber := some 51002, tieLeg := some 0 }]
    jobs := List.replicate 30 (.challenge key18 0 2 0) }

theorem test_marked_offers_in_order :
    threeMarks.markedOffers = [(0, none, .tieSession key18 51002 0 1), (0, some .outbound, .epoch key18 0 0 .outbound 1),
      (0, some .inbound, .epoch key18 0 0 .inbound 1)] ∧
    (after .jobRetryTick threeMarks).jobs =
      threeMarks.jobs ++ [.tieSession key18 51002 0 1, .epoch key18 0 0 .outbound 1] ∧
    ((after .jobRetryTick threeMarks).openLeg? 0).map (fun o => (o.sessionWanted, o.out.keys.marked, o.inb.keys.marked)) =
      some (false, false, true) := by decide +kernel

/-- MAINTENANCE with leg 0 RESERVED, so that leg 1 is the FREE leg of lowest index. -/
def maintenance : State := { State.reset.setLeg 0 ⟨0, .reserved (.extension 1)⟩ with mode := .maintenance }

theorem witness_loopStartOpensLeg :
    maintenance.mode = .maintenance ∧ maintenance.freeSlot = some 0 ∧ (127 : Byte).toNat ≤ 127 ∧ (maintenance.leg 1).use = .free ∧
    (∀ l < 1, (maintenance.leg l).use ≠ .free) ∧
    ({ maintenance with jobs := List.replicate 30 (.challenge key18 0 2 0) } : State).jobs.length ≤ 30 ∧
    (∀ l < 48, ∀ o, maintenance.openLeg? l = some o → o.channel ≠ (127 : Byte).toNat) := by
  refine ⟨by decide +kernel, by decide +kernel, by decide, by decide +kernel, by decide +kernel, by decide +kernel, ?_⟩
  intro l _ o h
  have e : maintenance.leg l = (State.reset.setLeg 0 ⟨0, .reserved (.extension 1)⟩).leg l := rfl
  rw [State.openLeg?, e, leg_setLeg] at h
  split at h <;> simp [Leg.atReset, LegUse.opened?] at h

theorem witness_loopStartOpensLeg_full :
    ({ maintenance with jobs := List.replicate 31 (.challenge key18 0 2 0) } : State).jobs.length = 31 ∧
    32 ≤ ({ maintenance with jobs := List.replicate 32 (.challenge key18 0 2 0) } : State).jobs.length := by decide

/-- The refusals of LOOP START, each at its boundary. -/
theorem witness_loopStartOpensLeg_refused :
    127 < (128 : Byte).toNat ∧ (⟨0, 0, 1, 0⟩ : Key).k3.toNat < 2 ∧ 2 ≤ (⟨0, 0, 2, 0⟩ : Key).k3.toNat ∧
    ¬ (withLeg .loopTest { opened with channel := 127 }).ChannelFree 127 ∧
    (legless { State.reset with mode := .maintenance }).mode = .maintenance ∧
    (legless { State.reset with mode := .maintenance }).ChannelFree 127 ∧
    ∀ k < 48, ((legless { State.reset with mode := .maintenance }).leg k).use ≠ .free := by
  refine ⟨by decide, by decide, by decide, ?_, rfl, ?_, by decide +kernel⟩
  · intro h
    exact h 0 (by decide) { opened with channel := 127 } (by decide +kernel) rfl
  · have e : ∀ l < 48, (legless { State.reset with mode := .maintenance }).openLeg? l = none := by decide +kernel
    intro l hl o h
    rw [e l hl] at h
    cases h

theorem witness_loopTestEnds_refused : 47 < (48 : Byte).toNat ∧ (47 : Byte).toNat ≤ 47 ∧
    ∀ o, (State.reset.leg (47 : Byte).toNat).use ≠ .opened .loopTest o := by
  refine ⟨by decide, by decide, fun o => ?_⟩
  rw [show (State.reset.leg (47 : Byte).toNat).use = .free by decide +kernel]
  simp

theorem witness_loopTestEnds :
    ((withLeg .loopTest opened).leg 0).use = .opened .loopTest opened ∧
    ({ withLeg .loopTest opened with mode := .maintenance } : State).mode = .maintenance ∧ opened.channel < 128 := by
  decide +kernel

theorem witness_huntExpiryFailsLeg :
    HasRunOut lapsed.inb.hunt ∧ ((withLeg .loopTest lapsed).leg 0).use = .opened .loopTest lapsed ∧
    ((withLeg (.tieCall 7) lapsed).leg 0).use = .opened (.tieCall 7) lapsed ∧
    (((withLeg (.extension 1) lapsed).setEntry 1 { admitted with ownedLeg := some 0 }).leg 0).use =
      .opened (.extension 1) lapsed ∧
    (((withLeg (.extension 1) lapsed).setEntry 1 { admitted with ownedLeg := some 0 }).entry 1).state = .admitted ∧
    (withLeg .loopTest opened).openLeg? 0 = some opened ∧ ¬ HasRunOut opened.inb.hunt := by
  decide +kernel

theorem witness_outboundFrameEvent :
    let o : Outbound := { Outbound.atOpen with state := .run, keys := ⟨some ⟨0, key18⟩, some ⟨1, key18⟩, none, false, false⟩ }
    o.state ≠ .wait ∧ Outbound.atOpen.state = .wait ∧ o.filling.length < 128 ∧
    ({ o with filling := List.replicate 128 0 } : Outbound).filling.length = 128 ∧
    (0 : Long) = BitVec.ofNat 32 (o.counter.toNat / 3750) ∧
    (1 : Long) = BitVec.ofNat 32 ((3750 : Long).toNat / 3750) ∧ (0 : Long) ≠ BitVec.ofNat 32 ((3750 : Long).toNat / 3750) ∧
    (1 : Long) ≠ BitVec.ofNat 32 ((7500 : Long).toNat / 3750) := by decide +kernel

/-- A HUNT that has heard the first 12 samples of the sync slot of block 64, which the next sample, 192, completes (R17). -/
def hunting : Inbound := { Inbound.atOpen Params.default with history := (syncSlot 64 213).take 12 }

/-- An inbound direction in a block with so many samples placed, for a block number and a key of its epoch. -/
def running (n : Long) (placed : Nat) : Inbound :=
  { Inbound.atOpen Params.default with
    state := .run
    counter := n
    bound := some key18
    keys := ⟨some ⟨0, key18⟩, some ⟨1, key18⟩, none, false, false⟩
    filling := List.replicate placed 0 }

theorem witness_outboundFrameEvent_inbound :
    hunting.state = .hunt ∧ SyncPattern 64 ((hunting.history ++ [192]).drop (hunting.history.length - 12)) 64 ∧
    ((hunting.history ++ [193]).drop (hunting.history.length - 12)).drop 8 = [0, 0, 0, 64, 193] ∧
    (([0, 0, 0, 64, 193] : List Byte).foldl (· + ·) 0 ≠ 0) ∧
    (running 5 0).state ≠ .hunt ∧ 0 < ({ running 65 0 with skip := 3 } : Inbound).skip ∧ (running 65 0).skip = 0 ∧
    (running 64 124).filling.length = 124 ∧ (running 64 124).counter.toNat % 64 = 0 ∧ (running 65 124).counter.toNat % 64 ≠ 0 ∧
    (running 64 124).misses + 1 < 3 ∧ ¬ ({ running 64 124 with misses := 2 } : Inbound).misses + 1 < 3 ∧
    SyncPattern 64 ((({ running 64 124 with filling := List.replicate 112 0 ++ (syncSlot 64 213).take 12 } : Inbound).filling ++
      [192]).drop 112) 64 ∧ (running 5 128).filling.length = 128 ∧
    (∀ a, (running 5 128).keys.active = some a → a.epoch = BitVec.ofNat 32 (6 / 3750)) ∧
    (∀ a, (running 3749 128).keys.active = some a → a.epoch ≠ BitVec.ofNat 32 (3750 / 3750)) ∧
    (running 3749 128).keys.standby = some ⟨BitVec.ofNat 32 (3750 / 3750), key18⟩ := by
  unfold SyncPattern
  decide +kernel

theorem witness_descramblerUndoesScrambler :
    (generator key18 64 0).length = 8 ∧ (List.replicate 128 (0 : Byte)).length = 128 ∧ isSyncBlock 64 64 = true ∧
    isSyncBlock 64 5 = false ∧ 0 < (permutation (generator key18 64 0)).getD 7 0 ∧
    (permutation [7, 6, 5, 4, 3, 2, 1, 0]).getD 7 0 = 0 ∧ (List.replicate 16 (213 : Byte)).length = 16 := by decide +kernel

/-! #### Highways and supervision -/

/-- Leg 0 OPEN for a loop test on channel 127, where it is routed. -/
def looping : State :=
  { (withLeg .loopTest { opened with channel := 127 }).setRouting 127 (.leg 0) with frameReference := .present }

theorem witness_frameCarriesClearChannels :
    (⟨64, fillTable 128 1, fillTable 128 2⟩ : FrameSamples).slots = 64 ∧ (∀ c < 128, State.reset.routing c = .clear) ∧
    127 % 64 < 64 ∧ ¬ 127 % 64 < 63 ∧ State.reset.routing 127 = .clear ∧ looping.routing 127 = .leg 0 ∧
    (looping.leg 0).use = .opened .loopTest { opened with channel := 127 } ∧
    (∀ d < 128, d ≠ 127 → looping.routing d ≠ .leg 0) ∧ looping.frameReference = .present :=
  ⟨rfl, fun c _ => reset_routing c, by decide, by decide, reset_routing 127, by decide +kernel, by decide +kernel,
    by decide +kernel, rfl⟩

/-- Leg 0 OPEN for the tie call 7 on channel 127, its outbound direction in RUN with a keyed block to emit, its inbound one in
HUNT. -/
def tied : State :=
  let run : Outbound := { Outbound.atOpen with
    state := .run
    keys := ⟨some ⟨0, key18⟩, some ⟨1, key18⟩, none, false, false⟩
    counter := 6
    draining := List.replicate 128 188
    emission := some ⟨5, some (generator key18 5 0)⟩ }
  { (withLeg (.tieCall 7) { opened with channel := 127, out := run }).setRouting 127 (.leg 0) with
    frameReference := .present, routedAs := (State.reset.setRouting 127 (.leg 0)).channelTable }

/-- A tie call's LEG channel, routed as in the frame before: its trunk side, the port, carries its outbound sample, 188 sent as
30 (1.9), while its inbound direction is in HUNT (log 19). -/
theorem witness_frameCarriesClearChannels_tie :
    tied.routing 127 = .leg 0 ∧ (tied.leg 0).use.owner? = some (.tieCall 7) ∧ (∀ d < 128, d ≠ 127 → tied.routing d ≠ .leg 0) ∧
    tied.frameReference = .present ∧ readAt tied.routedAs .clear 127 = tied.routing 127 ∧
    (tied.openLeg? 0).map (fun o => (o.out.state, o.inb.state)) = some (.run, .hunt) ∧
    (after (.framePulse ⟨64, fillTable 128 1, fillTable 128 2⟩) tied).portDriven 127 = some 30 := by decide +kernel

theorem witness_frameCarriesClearChannels_restored : State.reset.frameReference = .lost ∧
    State.reset.reportMask.getLsbD 2 = true ∧ State.reset.transmitting ≠ none ∧ State.reset.reportQueue.length < 32 ∧
    ({ State.reset with transmitting := none } : State).replyQueue = [] ∧
    (looping.leg 0).use = .opened .loopTest { opened with channel := 127 } ∧ opened.out.state = .wait := by decide +kernel

theorem witness_referenceLossHuntsEveryLeg :
    State.reset.frameReference = .lost ∧
    ({ withLeg .loopTest opened with frameReference := .present } : State).frameReference = .present ∧
    ((withLeg .loopTest opened).leg 0).use = .opened .loopTest opened ∧
    (∀ k < 48, (State.reset.leg k).use.isOpen = false) ∧ State.reset.reportMask.getLsbD 1 = true ∧
    State.reset.transmitting ≠ none ∧ (List.replicate 31 (⟨.frameRestored, false⟩ : QueuedReport)).length < 32 ∧
    (∀ b < 32, State.reset.reportMask.getLsbD b = true) ∧ State.reset.lostFlag = false ∧ State.reset.calls = [] ∧
    (withLeg .loopTest opened).reportQueue.length + 1 +
      (List.range 48).countP (fun k => ((withLeg .loopTest opened).leg k).use.isOpen) ≤ 32 := by
  refine ⟨by decide, by decide, by decide +kernel, fun k _ => ?_, by decide, by decide, by decide, by decide, by decide, rfl,
    by decide +kernel⟩
  simp [Leg.atReset, LegUse.isOpen]

theorem witness_setParamClampsAndApplies :
    State.reset.lock = false ∧ (10 : Byte).toNat ≤ 10 ∧ State.reset.silenceUsed = false ∧
    ∀ k < 48, (State.reset.leg k).use = .free :=
  ⟨by decide, by decide, by decide, fun k _ => by simp [Leg.atReset]⟩

theorem witness_setParamClampsAndApplies_refused : 10 < (11 : Byte).toNat ∧ (10 : Byte).toNat ≤ 10 ∧
    ({ State.reset with lock := true } : State).lock = true ∧ State.reset.mode ≠ .maintenance ∧ State.reset.lock = false ∧
    ({ State.reset with silenceUsed := true } : State).silenceUsed = true ∧ (1 : Byte).toNat = 1 ∧ (4 : Byte).toNat = 4 ∧
    (∃ k < 48, (maintenance.leg k).use ≠ .free) :=
  ⟨by decide, by decide, rfl, by decide, rfl, rfl, by decide, by decide, 0, by decide, by decide +kernel⟩

theorem witness_lockAndAlive :
    (0 : Byte) ≠ 60 ∧ (0 : Byte) ≠ 195 ∧ ({ State.reset with lastToken := some 60 } : State).lastToken = some 60 ∧
    State.reset.lastToken ≠ some 195 := by decide

theorem witness_modeEntriesEndAdmissions :
    State.reset.mode = .normal ∧ State.reset.calls = [] ∧ (∀ k < 48, (State.reset.leg k).use = .free) ∧
    ({ State.reset with silence := .running ⟨0, false⟩ } : State).silence.HasRunOut ∧
    ¬ ({ State.reset with silence := .running ⟨1, false⟩ } : State).silence.HasRunOut ∧
    ((owing .challenged 8).entry 1).state = .challenged ∧
    ⟨some 0, 72, 5, .cancelled, [0, 1]⟩ ∈ (owing .challenged 8).cancelledReplies ∧
    ⟨some 0, 73, 5, .cancelled, [0, 1]⟩ ∈ (owing .checking 9).cancelledReplies :=
  ⟨rfl, rfl, fun k _ => by simp [Leg.atReset], ⟨false, rfl⟩, by simp, by decide +kernel,
    List.mem_filterMap.mpr ⟨1, List.mem_range.mpr (by omega), by decide +kernel⟩,
    List.mem_filterMap.mpr ⟨1, List.mem_range.mpr (by omega), by decide +kernel⟩⟩

theorem witness_modeRefusals :
    (511 : Word).toNat ≤ 511 ∧ (9 : Byte).toNat ≤ 9 ∧ ({ State.reset with mode := .standalone } : State).mode = .standalone ∧
    maintenance.mode = .maintenance ∧ State.reset.mode ≠ .maintenance ∧ ChannelOrNone 127 ∧ ChannelOrNone 255 := by
  unfold ChannelOrNone
  decide

theorem witness_modeRefusals_callsPresent : inCall.mode = .normal ∧ inCall.calls ≠ [] ∧
    ({ maintenance with mode := .normal } : State).mode = .normal ∧
    (∃ k < 48, (({ maintenance with mode := .normal } : State).leg k).use ≠ .free) :=
  ⟨rfl, by decide, rfl, 0, by decide, by decide +kernel⟩

theorem witness_modeChangesOnlyAtItsEvents :
    exec .silenceTimerExpiry { State.reset with silence := .running ⟨0, false⟩ } =
      .next (after .silenceTimerExpiry { State.reset with silence := .running ⟨0, false⟩ }) ∧
    (∀ bytes, Instr.silenceTimerExpiry ≠ .frameReceived bytes) ∧
    (after .silenceTimerExpiry { State.reset with silence := .running ⟨0, false⟩ }).mode ≠ .normal :=
  ⟨rfl, by simp, by decide +kernel⟩

theorem witness_lockHolds :
    ({ State.reset with lock := true } : State).lock = true ∧ State.reset.mode ≠ .maintenance ∧
    (List.replicate 32 (0 : Byte)).length = 32 ∧ fields76.wellFormed = true ∧ (15 : Byte).toNat ≤ 15 ∧
    (10 : Byte).toNat ≤ 10 ∧ exec .gapExpiry State.reset = .next State.reset ∧
    (∀ straps, Instr.gapExpiry ≠ .hardReset (.released straps)) :=
  ⟨by decide, by decide, by decide, by decide, by decide, by decide, rfl, by simp⟩

theorem witness_stepKeepsBounds :
    oneRoute.WithinCapacity ∧ oneRoute.ParamsInRange ∧ oneRoute.reportMask.getLsbD 0 = true ∧
    step oneRoute = .next (tick oneRoute) := by
  refine ⟨?_, ?_, by decide, rfl⟩
  · unfold State.WithinCapacity
    decide
  · unfold State.ParamsInRange
    decide

theorem witness_stepKeepsRoutesAndNumbers :
    oneRoute.RoutesApart ∧ (calling 1 .allowed caller admitted).NumbersUnique ∧
    step (calling 1 .allowed caller admitted) = .next (tick (calling 1 .allowed caller admitted)) :=
  ⟨oneRoute_apart, calling_unique _ _ _ _ (by decide), rfl⟩

/-- A reply in the queue for the request that holds slot 0. -/
def oneReply : State :=
  { State.reset.setSlot 0 (some ⟨28, 1, none⟩) with
    replyQueue := [⟨some 0, 92, 1, .ok, []⟩], transmitting := none, pending := [.transmitComplete] }

theorem witness_stepKeepsRepliesHoldSlots : oneReply.RepliesHoldSlots ∧ step oneReply = .next (after .transmitComplete
    { oneReply with pending := [] }) := by
  refine ⟨⟨by decide +kernel, ?_⟩, rfl⟩
  intro x hx
  have : x = some 0 := by simpa [State.replySlots, oneReply] using hx
  exact ⟨0, ⟨28, 1, none⟩, this, by decide, by decide +kernel, rfl⟩

theorem witness_stepKeepsRepliesHoldSlots_idle : ({ State.reset with transmitting := none } : State).IdleHasNothingWaiting ∧
    step { State.reset with transmitting := none } = .next (tick { State.reset with transmitting := none }) :=
  ⟨fun _ => ⟨rfl, rfl⟩, rfl⟩

theorem witness_stepKeepsAttemptsLawful :
    (withEntry 1 { enrolled with attempts := 2, level := 4 }).AttemptsLawful := by
  refine ⟨by decide, by decide, fun i _ => ?_⟩
  rw [withEntry, entry_setEntry]
  split
  · decide
  · rw [reset_entry]
    decide

/-- One call to group 15, counted by it. -/
def oneGroupCall : State :=
  { State.reset.setGroup 15 { Group.atReset with active := 1 } with calls := [{ talking with b := .group 15 }] }

theorem witness_stepKeepsCallsCounted : oneGroupCall.CallsCounted := by
  refine ⟨by decide, by decide, by decide, by decide, by decide, fun g _ => ?_⟩
  have e : oneGroupCall.group g = (State.reset.setGroup 15 { Group.atReset with active := 1 }).group g := rfl
  rw [e, group_setGroup]
  by_cases h : 15 = g
  · subst h
    decide
  · rw [if_neg (by omega)]
    simp [State.callsToGroup, oneGroupCall, State.group, State.reset, State.afterHardReset, Group.atReset, h]

end Sys2Proof.Tests
end

section
/-! PROOFS. The class and route tables as the host reads and clears them (R112, R116, R117): the configuration lock, the bodies
of the read replies, the walk's exact match, and from these the statements ReadTablesShowEntries and ClearRouteVacatesEntry. -/

namespace Sys2Proof.Machine

/-! ### The configuration lock -/

theorem lockRefuses_of_locked (s : State) (hl : s.lock = true) (hm : s.mode ≠ .maintenance) : s.lockRefuses = true := by
  simp [State.lockRefuses, hl, hm]

theorem lockRefuses_of_open (s : State) (h : s.lock = false ∨ s.mode = .maintenance) : s.lockRefuses = false := by
  rcases h with h | h <;> simp [State.lockRefuses, h]

/-! ### The requests with one operand byte -/

section Requests

variable {s t : State} {j : Nat} {st : Status} {body : List Byte} (tag : Byte)

theorem exec_readClass_answered {cls : Byte} (hs : s.freeSlot = some j) (h : takeReadClass cls s = (t, .now st body)) :
    exec (.readClass tag cls) s = .next (answered j 16 tag st body t) :=
  congrArg Host.Outcome.next (requestArrives_now j 16 tag 1 _ s t st body hs (by decide) (.inr (by decide)) rfl h)

theorem exec_clearRoute_answered {route : Byte} (hs : s.freeSlot = some j)
    (h : takeClearRoute route s = (t, .now st body)) :
    exec (.clearRoute tag route) s = .next (answered j 18 tag st body t) :=
  congrArg Host.Outcome.next (requestArrives_now j 18 tag 1 _ s t st body hs (by decide) (.inr (by decide)) rfl h)

theorem exec_readRoute_answered {route : Byte} (hs : s.freeSlot = some j)
    (h : takeReadRoute route s = (t, .now st body)) :
    exec (.readRoute tag route) s = .next (answered j 19 tag st body t) :=
  congrArg Host.Outcome.next (requestArrives_now j 19 tag 1 _ s t st body hs (by decide) (.inr (by decide)) rfl h)

end Requests

theorem takeReadClass_of_gt {cls : Byte} (s : State) (h : 15 < cls.toNat) :
    takeReadClass cls s = (s, .now .badField []) := if_pos h

theorem takeReadClass_of_le {cls : Byte} (s : State) (h : cls.toNat ≤ 15) :
    takeReadClass cls s = (s, .now .ok (classBody cls (s.classRecord cls.toNat))) := if_neg (by omega)

theorem takeReadRoute_of_gt {route : Byte} (s : State) (h : 63 < route.toNat) :
    takeReadRoute route s = (s, .now .badField []) := if_pos h

theorem takeReadRoute_of_le {route : Byte} (s : State) (h : route.toNat ≤ 63) :
    takeReadRoute route s = (s, .now .ok (routeBody route (s.route route.toNat))) := if_neg (by omega)

theorem takeClearRoute_of_locked (route : Byte) {s : State} (h : s.lockRefuses = true) :
    takeClearRoute route s = (s, .now .locked []) := if_pos h

theorem takeClearRoute_of_gt {route : Byte} {s : State} (hl : s.lockRefuses = false) (h : 63 < route.toNat) :
    takeClearRoute route s = (s, .now .badField []) := by
  rw [takeClearRoute, if_neg (by simp [hl]), if_pos h, refuse]

theorem takeClearRoute_of_le {route : Byte} {s : State} (hl : s.lockRefuses = false) (h : route.toNat ≤ 63) :
    takeClearRoute route s = (s.setRoute route.toNat none, .now .ok []) := by
  rw [takeClearRoute, if_neg (by simp [hl]), if_neg (by omega), accept]

/-! ### The bodies of the read replies -/

/-- A table as the list of its places read in order. -/
theorem toList_eq_map_readAt {α : Type} {n : Nat} (t : Table α n) (d : α) :
    t.toList = (List.range n).map (readAt t d) := by
  apply List.ext_getElem
  · simp
  · intro i hi _
    rw [Vector.length_toList] at hi
    simp [readAt, hi]

theorem classBody_eq (n : Byte) (r : ClassRecord) :
    classBody n r = n :: byteOf r.limit :: (List.range 32).map (fun v => (readAt r.legalities .barred v).code) := by
  rw [classBody, toList_eq_map_readAt r.legalities .barred, List.map_map]
  rfl

theorem routeBody_vacant (n : Byte) : routeBody n none = n :: List.replicate 45 0 := rfl

/-- The kind of a route and its destination, as READ ROUTE shows them (R189, R191). -/
theorem code_destinationByte_eq (k : RouteKind) : [k.code, k.destinationByte] =
    match k with
    | .localCall => [0, 0]
    | .trunk g => [1, byteOf g]
    | .service c => [2, byteOf c] := by
  cases k <;> rfl

/-- The body for an occupied entry: the fields of WRITE ROUTE, kind and destination kept together. -/
theorem routeBody_occupied (n : Byte) (r : Route) :
    routeBody n (some r) = n :: 1 :: (digitsBytes 16 r.low ++ (digitsBytes 16 r.high
      ++ [r.kind.code, r.kind.destinationByte]
      ++ [byteOf r.service, flagByte r.secureRequired, byteOf r.strip, byteOf r.insert.length]
      ++ r.insert.map byteOf ++ List.replicate (4 - r.insert.length) 0)) := by
  simp [routeBody, digitsBytes]

/-! ### The walk -/

theorem mem_occupiedRoutes (s : State) (n : Nat) (r : Route) :
    (n, r) ∈ s.occupiedRoutes ↔ n < 64 ∧ s.route n = some r := by
  simp [State.occupiedRoutes, Config.routeEntries]

/-- The exact match of a walk is an occupied entry that matches the digits exactly (R121). -/
theorem walk_exact_spec (s : State) (digits : List Nat) (n : Nat) (r : Route) (h : s.walk digits = .exact n r) :
    n < 64 ∧ s.route n = some r ∧ r.exact digits.length (digitsValue digits) = true := by
  unfold State.walk at h
  dsimp only at h
  split at h
  next m q found =>
    cases h
    obtain ⟨hn, occupied⟩ := (mem_occupiedRoutes s n r).mp (List.mem_of_find?_eq_some found)
    have matches_exactly := List.find?_some found
    exact ⟨hn, occupied, matches_exactly⟩
  next => split at h <;> cases h

theorem walk_exact_ne_of_vacant {s : State} {digits : List Nat} {n m : Nat} {r : Route} (hv : s.route m = none)
    (h : s.walk digits = .exact n r) : n ≠ m := by
  rintro rfl
  obtain ⟨-, occupied, -⟩ := walk_exact_spec s digits n r h
  cases hv.symm.trans occupied

theorem route_setRoute_self (s : State) (n : Nat) (r : Option Route) (h : n < 64) : (s.setRoute n r).route n = r := by
  rw [route_setRoute, if_pos ⟨rfl, h⟩]

/-! ### The obligations -/

/-- Settles O22: each request reaches its handler, whose reply body is the record's fields as they stand. -/
theorem readTablesShowEntries : Obligations.ReadTablesShowEntries := by
  intro s j tag cls route hs
  refine ⟨fun hc => ?_, fun hc => ?_, fun hr => ?_, fun hr vacant => ?_, fun r hr occupied => ?_⟩
  · exact exec_readClass_answered tag hs (takeReadClass_of_gt s hc)
  · rw [exec_readClass_answered tag hs (takeReadClass_of_le s hc), classBody_eq]
  · exact exec_readRoute_answered tag hs (takeReadRoute_of_gt s hr)
  · rw [exec_readRoute_answered tag hs (takeReadRoute_of_le s hr), vacant, routeBody_vacant]
  · rw [exec_readRoute_answered tag hs (takeReadRoute_of_le s hr), occupied, routeBody_occupied, code_destinationByte_eq]
    rfl

/-- Settles O24: the lock is tested before the range; a walk's exact match is an occupied entry, so never the one cleared. -/
theorem clearRouteVacatesEntry : Obligations.ClearRouteVacatesEntry := by
  intro s j tag route hs
  refine ⟨fun hl hm => ?_, fun ho hr => ?_, fun ho hr => ⟨?_, fun digits n r found => ?_⟩⟩
  · exact exec_clearRoute_answered tag hs (takeClearRoute_of_locked route (lockRefuses_of_locked s hl hm))
  · exact exec_clearRoute_answered tag hs (takeClearRoute_of_gt (lockRefuses_of_open s ho) hr)
  · exact exec_clearRoute_answered tag hs (takeClearRoute_of_le (lockRefuses_of_open s ho) hr)
  · exact walk_exact_ne_of_vacant (route_setRoute_self s route.toNat none (by omega)) found

end Sys2Proof.Machine
end

section
/-! PROOFS. SWAP (R142): its refusals in their order, the exchange of the top two calls and the stack as the reply shows it,
and from these the statement SwapExchangesTopTwo. -/

namespace Sys2Proof.Machine

/-! ### An entry written -/

theorem entry_setEntry_self (s : State) {i : Nat} (h : i ≤ 511) (e : Entry) : (s.setEntry i e).entry i = e := by
  rw [entry_setEntry, if_pos ⟨rfl, by omega⟩]

@[simp] theorem freeSlot_setEntry (s : State) (i : Nat) (e : Entry) : (s.setEntry i e).freeSlot = s.freeSlot := rfl

section Swap

variable {s : State} {entry : Word}

/-! ### The handler -/

theorem takeSwap_of_gt (s : State) (hi : 511 < entry.toNat) : takeSwap entry s = (s, .now .badField []) := if_pos hi

theorem takeSwap_of_not_admitted (hi : entry.toNat ≤ 511) (ha : (s.entry entry.toNat).state ≠ .admitted) :
    takeSwap entry s = (s, .now .state []) := by
  rw [takeSwap, if_neg (by omega), if_pos ha, refuse]

/-- With fewer than two calls the answer is STATE whatever the entry's state is. -/
theorem takeSwap_of_short (hi : entry.toNat ≤ 511) (short : (s.entry entry.toNat).stack.length < 2) :
    takeSwap entry s = (s, .now .state []) := by
  by_cases ha : (s.entry entry.toNat).state = .admitted
  · rw [takeSwap, if_neg (by omega), if_neg (by simpa using ha)]
    match stack : (s.entry entry.toNat).stack, short with
    | [], _ => rfl
    | [_], _ => rfl
  · exact takeSwap_of_not_admitted hi ha

theorem takeSwap_of_two {first second : StackItem} {below : List StackItem} (hi : entry.toNat ≤ 511)
    (ha : (s.entry entry.toNat).state = .admitted) (stack : (s.entry entry.toNat).stack = first :: second :: below) :
    takeSwap entry s = answerStack entry.toNat (⟨second.call, false⟩ :: ⟨first.call, true⟩ :: below) s := by
  rw [takeSwap, if_neg (by omega), if_neg (by simpa using ha), stack]

/-- Writing an entry's stack twice is writing it the second time. -/
theorem answerStack_of_stack_set (s : State) {i : Nat} (hi : i ≤ 511) (old new : List StackItem) :
    answerStack i new (s.setEntry i { s.entry i with stack := old }) = answerStack i new s := by
  rw [answerStack, entry_setEntry_self s hi, setEntry_setEntry, answerStack]

/-- SWAP of a stack just written: of the written stack only its exchange stays. -/
theorem takeSwap_of_stack_set (hi : entry.toNat ≤ 511) (ha : (s.entry entry.toNat).state = .admitted)
    (first second : StackItem) (below : List StackItem) :
    takeSwap entry (s.setEntry entry.toNat { s.entry entry.toNat with stack := first :: second :: below }) =
      answerStack entry.toNat (⟨second.call, false⟩ :: ⟨first.call, true⟩ :: below) s := by
  have written := entry_setEntry_self s hi { s.entry entry.toNat with stack := first :: second :: below }
  have admitted := (congrArg Entry.state written).trans ha
  rw [takeSwap_of_two hi admitted (congrArg Entry.stack written), answerStack_of_stack_set s hi]

/-! ### The request -/

theorem exec_swap_answered {t : State} {j : Nat} {st : Status} {body : List Byte} (tag : Byte) (hs : s.freeSlot = some j)
    (h : takeSwap entry s = (t, .now st body)) : exec (.swap tag entry) s = .next (answered j 23 tag st body t) :=
  congrArg Host.Outcome.next (requestArrives_now j 23 tag 2 _ s t st body hs (by decide) (.inr (by decide)) rfl h)

/-- The three places that a reply shows of a stack with two calls or more: an unused third place is 0 (R191). -/
theorem stackBytes_of_two (x y : StackItem) (below : List StackItem) :
    stackBytes (x :: y :: below) = byteOf (below.length + 2) :: ((x :: y :: below ++ [(⟨0, false⟩ : StackItem)]).take 3).flatMap
      (fun z : StackItem => wordBytes z.call ++ [if z.held then (1 : Byte) else 0]) := by
  cases below with
  | nil => rfl
  | cons z rest => rfl

end Swap

/-! ### The obligation -/

/-- Settles O32: the refusals in the order of the handler's tests; the second SWAP is the same exchange, of the stack that
the first one wrote. -/
theorem swapExchangesTopTwo : Obligations.SwapExchangesTopTwo := by
  intro s j tag entry hs
  refine ⟨fun hi => ?_, fun hi ha => ?_, fun hi short => ?_, fun first second below hi ha stack => ⟨?_, ?_⟩⟩
  · exact exec_swap_answered tag hs (takeSwap_of_gt s hi)
  · exact exec_swap_answered tag hs (takeSwap_of_not_admitted hi ha)
  · exact exec_swap_answered tag hs (takeSwap_of_short hi short)
  · rw [exec_swap_answered tag hs (takeSwap_of_two hi ha stack), stackBytes_of_two]
  · have again := takeSwap_of_stack_set hi ha ⟨second.call, false⟩ ⟨first.call, true⟩ below
    rw [exec_swap_answered tag ((freeSlot_setEntry ..).trans hs) again, stackBytes_of_two]

end Sys2Proof.Machine
end

section
/-! PROOFS. The laws that every step keeps (O55 to O60): what it is for one operation to keep them all, and the operations
that change single records. -/

namespace Sys2Proof.Machine

/-! ### The laws, as one step keeps them -/

/-- An entry's own part of the attempts law, under an attempt limit (R96, R98). -/
def Entry.Lawful (limit : Nat) (e : Entry) : Prop :=
  e.level ≤ 4 ∧ e.attempts ≤ 15 ∧ (e.state ≠ .lockedOut → e.attempts < limit) ∧ (e.state = .vacant → e.attempts = 0)

/-- What the laws ask of a change of one entry: an entry in use was in use and keeps its number, and the attempts law stays. -/
def Entry.Stays (limit : Nat) (old new : Entry) : Prop :=
  (new.state ≠ .vacant → old.state ≠ .vacant ∧ new.number = old.number) ∧
    (1 ≤ limit → limit ≤ 15 → old.Lawful limit → new.Lawful limit)

/-- The fields of an entry that the laws speak of. -/
def Entry.law (e : Entry) : EntryState × List Nat × Nat × Nat := (e.state, e.number, e.attempts, e.level)

/-- The fields of a call that the laws speak of. -/
def Call.law (c : Call) : Nat × BParty := (c.ref, c.b)

/-- Every law of the device, and every mark that only a hard reset takes back, holds of `t` when it holds of `s`. -/
structure LawsKept (s t : State) : Prop where
  replies : s.RepliesHoldSlots → t.RepliesHoldSlots
  idle : s.IdleHasNothingWaiting → t.IdleHasNothingWaiting
  reports : s.reportQueue.length ≤ 32 → t.reportQueue.length ≤ 32
  ready : s.reportMask.getLsbD 0 = true → t.reportMask.getLsbD 0 = true
  jobs : s.jobs.length ≤ 32 → t.jobs.length ≤ 32
  calls : s.calls.length ≤ 96 → t.calls.length ≤ 96
  params : s.ParamsInRange → t.ParamsInRange
  routes : s.RoutesApart → t.RoutesApart
  numbers : s.NumbersUnique → t.NumbersUnique
  attempts : s.AttemptsLawful → t.AttemptsLawful
  counted : s.CallsCounted → t.CallsCounted
  lock : s.lock = true → t.lock = true
  deviceKeyUsed : s.deviceKeyUsed = true → t.deviceKeyUsed = true
  silenceUsed : s.silenceUsed = true → t.silenceUsed = true
  strapCode : t.strapCode = s.strapCode
  tieKeyUsed : ∀ g, (s.group g).tieKeyUsed = true → (t.group g).tieKeyUsed = true

/-- The laws are kept and no empty slot of the request buffer is taken, as every operation of an owning block has it. -/
structure Keeps (s t : State) : Prop extends LawsKept s t where
  emptySlots : ∀ j, s.slot j = none → t.slot j = none

/-- The control link is as it was, but for its receiver and the lost flag. -/
def SameLink (s t : State) : Prop :=
  t.requestBuffer = s.requestBuffer ∧ t.replyQueue = s.replyQueue ∧ t.reportQueue = s.reportQueue ∧
    t.transmitting = s.transmitting ∧ t.reportMask = s.reportMask

/-- Parameters, routes and straps are as they were, and no mark of the whole device is taken back. -/
def SettingsKept (s t : State) : Prop :=
  t.params = s.params ∧ t.routes = s.routes ∧ (s.lock = true → t.lock = true) ∧
    (s.deviceKeyUsed = true → t.deviceKeyUsed = true) ∧ (s.silenceUsed = true → t.silenceUsed = true) ∧
    t.strapCode = s.strapCode

/-- The call table, seen with what the laws ask of it, is as it was. -/
def SameCalls (s t : State) : Prop :=
  t.calls.map Call.law = s.calls.map Call.law ∧ t.referenceCounter = s.referenceCounter

/-- Job queue and groups are as they were. -/
def SameJobs (s t : State) : Prop := t.jobs = s.jobs ∧ t.groups = s.groups

/-- Every entry has the same fields under the laws. -/
def SameEntries (s t : State) : Prop := ∀ i, (t.entry i).law = (s.entry i).law

theorem LawsKept.refl (s : State) : LawsKept s s := by constructor <;> simp

theorem LawsKept.trans {s t u : State} (h : LawsKept s t) (g : LawsKept t u) : LawsKept s u where
  replies := g.replies ∘ h.replies
  idle := g.idle ∘ h.idle
  reports := g.reports ∘ h.reports
  ready := g.ready ∘ h.ready
  jobs := g.jobs ∘ h.jobs
  calls := g.calls ∘ h.calls
  params := g.params ∘ h.params
  routes := g.routes ∘ h.routes
  numbers := g.numbers ∘ h.numbers
  attempts := g.attempts ∘ h.attempts
  counted := g.counted ∘ h.counted
  lock := g.lock ∘ h.lock
  deviceKeyUsed := g.deviceKeyUsed ∘ h.deviceKeyUsed
  silenceUsed := g.silenceUsed ∘ h.silenceUsed
  strapCode := g.strapCode.trans h.strapCode
  tieKeyUsed := fun n => g.tieKeyUsed n ∘ h.tieKeyUsed n

theorem Keeps.refl (s : State) : Keeps s s := ⟨LawsKept.refl s, fun _ => id⟩

theorem Keeps.trans {s t u : State} (h : Keeps s t) (g : Keeps t u) : Keeps s u :=
  ⟨h.toLawsKept.trans g.toLawsKept, fun j => g.emptySlots j ∘ h.emptySlots j⟩

/-- A list of operations, each of which keeps the laws, keeps them. -/
theorem Keeps.foldl {α : Type} (f : State → α → State) (h : ∀ s a, Keeps s (f s a)) (l : List α) (s : State) :
    Keeps s (l.foldl f s) := by
  induction l generalizing s with
  | nil => exact Keeps.refl s
  | cons a l ih => exact (h s a).trans (ih _)

/-! ### The laws of records that are as they were -/

theorem Entry.Stays.of_law {limit : Nat} {old new : Entry} (h : new.law = old.law) : old.Stays limit new := by
  obtain ⟨hs, hn, ha, hl⟩ : new.state = old.state ∧ new.number = old.number ∧ new.attempts = old.attempts ∧
      new.level = old.level := by simpa [Entry.law] using h
  simp [Entry.Stays, Entry.Lawful, hs, hn, ha, hl]

theorem attemptsLawful_iff (s : State) : s.AttemptsLawful ↔
    1 ≤ s.params.attemptLimit ∧ s.params.attemptLimit ≤ 15 ∧ ∀ i < 512, (s.entry i).Lawful s.params.attemptLimit :=
  Iff.rfl

theorem callsToGroup_congr {s t : State} (h : t.calls.map Call.law = s.calls.map Call.law) (g : Nat) :
    t.callsToGroup g = s.callsToGroup g := by
  have count : ∀ u : State, u.callsToGroup g = ((u.calls.map Call.law).filter (fun x => x.2 == .group g)).length := by
    intro u
    rw [State.callsToGroup, List.filter_map, List.length_map]
    rfl
  rw [count, count, h]

theorem callsCounted_congr {s t : State} (h : SameCalls s t)
    (hg : ∀ g, (t.group g).active = (s.group g).active) (hs : s.CallsCounted) : t.CallsCounted := by
  obtain ⟨hc, hr⟩ := h
  obtain ⟨h1, h2, h3, h4, h5, h6⟩ := hs
  have refs : t.calls.map (fun c => c.ref) = s.calls.map (fun c => c.ref) := by
    simpa [Call.law, Function.comp_def] using congrArg (List.map Prod.fst) hc
  have count := congrArg List.length refs
  simp only [List.length_map] at count
  refine ⟨hr ▸ h1, hr ▸ h2, count ▸ h3, refs ▸ h4, fun c hm => ?_, fun g hlt => ?_⟩
  · obtain ⟨d, hd, e⟩ := List.mem_map.mp (refs ▸ List.mem_map.mpr ⟨c, hm, rfl⟩ : c.ref ∈ s.calls.map (fun c => c.ref))
    exact (show d.ref = c.ref from e) ▸ h5 d hd
  · rw [hg, h6 g hlt, callsToGroup_congr hc]

theorem numbersUnique_of_stays {s t : State} {limit : Nat} (h : ∀ i < 512, (s.entry i).Stays limit (t.entry i))
    (hs : s.NumbersUnique) : t.NumbersUnique := by
  intro i j hi hj hij vi vj
  obtain ⟨si, ni⟩ := (h i hi).1 vi
  obtain ⟨sj, nj⟩ := (h j hj).1 vj
  rw [ni, nj]
  exact hs i j hi hj hij si sj

/-- The laws are kept when the link and the settings are as they were and each record meets what the laws ask of it. -/
theorem Keeps.of_records {s t : State} (link : SameLink s t) (settings : SettingsKept s t)
    (jobs : s.jobs.length ≤ 32 → t.jobs.length ≤ 32) (calls : s.calls.length ≤ 96 → t.calls.length ≤ 96)
    (entries : ∀ i < 512, (s.entry i).Stays s.params.attemptLimit (t.entry i))
    (counted : s.CallsCounted → t.CallsCounted)
    (tie : ∀ g, (s.group g).tieKeyUsed = true → (t.group g).tieKeyUsed = true) : Keeps s t := by
  obtain ⟨buffer, replyQ, reportQ, sending, mask⟩ := link
  obtain ⟨params, routes, lock, device, silence, straps⟩ := settings
  have slot : ∀ j, t.slot j = s.slot j := fun j => by rw [State.slot, buffer, State.slot]
  refine ⟨⟨?_, ?_, ?_, ?_, jobs, calls, ?_, ?_, numbersUnique_of_stays entries, ?_, counted, lock, device, silence, straps, tie⟩, ?_⟩
  · simp [State.RepliesHoldSlots, State.replySlots, replyQ, sending, slot]
  · simp [State.IdleHasNothingWaiting, sending, replyQ, reportQ]
  · rw [reportQ]; exact id
  · rw [mask]; exact id
  · simp [State.ParamsInRange, params]
  · simp [State.RoutesApart, State.route, routes]
  · rw [attemptsLawful_iff, attemptsLawful_iff, params]
    exact fun ⟨h1, h15, h⟩ => ⟨h1, h15, fun i hi => (entries i hi).2 h1 h15 (h i hi)⟩
  · simp [slot]

/-- The laws are kept when nothing that they speak of has changed, but for the job queue within its places. -/
theorem Keeps.of_same {s t : State} (link : SameLink s t) (settings : SettingsKept s t) (calls : SameCalls s t)
    (entries : SameEntries s t) (groups : t.groups = s.groups) (jobs : s.jobs.length ≤ 32 → t.jobs.length ≤ 32) :
    Keeps s t := by
  have length : t.calls.length = s.calls.length := by simpa using congrArg List.length calls.1
  have group : ∀ g, t.group g = s.group g := fun g => by rw [State.group, groups, State.group]
  exact Keeps.of_records link settings jobs (by rw [length]; exact id) (fun i _ => .of_law (entries i))
    (callsCounted_congr calls (fun g => by rw [group])) (fun g => by rw [group]; exact id)

/-- An entry replaced keeps the laws when the laws ask no more of the new one. -/
theorem Keeps.setEntry {s : State} {i : Nat} {e : Entry} (h : (s.entry i).Stays s.params.attemptLimit e) :
    Keeps s (s.setEntry i e) := by
  refine Keeps.of_records (by simp [SameLink]) (by simp [SettingsKept]) (by simp) (by simp) (fun j _ => ?_)
    (callsCounted_congr (by simp [SameCalls]) (by simp)) (by simp)
  rw [entry_setEntry]
  split
  next hi => exact hi.1 ▸ h
  next => exact .of_law rfl

end Sys2Proof.Machine
end

section
/-! PROOFS. The link's, the call unit's and the leg engine's shared operations keep the laws. -/

namespace Sys2Proof.Machine

/-! ### The link's operations -/

theorem mem_replySlots (s : State) (x : Option Nat) : x ∈ s.replySlots ↔
    (∃ r ∈ s.replyQueue, r.slot = x) ∨ ∃ r j, s.transmitting = some (.reply r) ∧ r.slot = some j ∧ x = some j := by
  unfold State.replySlots
  cases s.transmitting with
  | none => simp
  | some y =>
    cases y with
    | report q => simp
    | reply r => cases h : r.slot <;> simp [h, eq_comm]

/-- Replies that hold slots, told by the slots alone. -/
theorem repliesHoldSlots_of_perm {s t : State} (hb : t.requestBuffer = s.requestBuffer)
    (hp : t.replySlots.Perm s.replySlots) (h : s.RepliesHoldSlots) : t.RepliesHoldSlots := by
  refine ⟨hp.nodup_iff.mpr h.1, fun x hx => ?_⟩
  simpa [State.slot, hb] using h.2 x (hp.mem_iff.mp hx)

/-- The transmitter taking a frame moves a slot from the queue to the frame in transmission and leaves no other trace. -/
theorem transmitNext_replySlots (s : State) (h : ∀ r ∈ s.replyQueue, r.slot ≠ none) :
    (transmitNext s).replySlots.Perm s.replySlots := by
  rcases transmitNext_spec s with ⟨-, e⟩ | ⟨r, rest, ht, hr, e⟩ | ⟨q, rest, ht, hr, -, e⟩ | ⟨-, -, -, e⟩ <;> rw [e]
  · obtain ⟨j, hj⟩ := Option.ne_none_iff_exists'.mp (h r (by simp [hr]))
    simp only [State.replySlots, ht, hr, hj, List.map_cons, List.append_nil]
    exact List.perm_append_comm
  · simp [State.replySlots, ht, hr]

theorem slot_ne_none_of_repliesHoldSlots {s : State} (h : s.RepliesHoldSlots) {r : Reply} (hr : r ∈ s.replyQueue) :
    r.slot ≠ none := by
  obtain ⟨j, -, e, -⟩ := h.2 r.slot ((mem_replySlots s _).mpr (.inl ⟨r, hr, rfl⟩))
  simp [e]

theorem transmitNext_idle (s : State) : (transmitNext s).IdleHasNothingWaiting := by
  intro h
  rcases transmitNext_spec s with ⟨⟨x, hx⟩, e⟩ | ⟨r, rest, ht, hr, e⟩ | ⟨q, rest, ht, hr, -, e⟩ | ⟨-, hr, hq, e⟩ <;>
    rw [e] at h ⊢ <;> simp_all

/-- What only the link's queues tell apart keeps the laws when the link keeps its own. -/
theorem Keeps.of_link {s t : State} (slots : t.requestBuffer = s.requestBuffer) (mask : t.reportMask = s.reportMask)
    (settings : SettingsKept s t) (calls : t.calls = s.calls) (counter : t.referenceCounter = s.referenceCounter)
    (directory : t.directory = s.directory) (jobs : SameJobs s t)
    (replies : s.RepliesHoldSlots → t.RepliesHoldSlots) (idle : s.IdleHasNothingWaiting → t.IdleHasNothingWaiting)
    (reports : s.reportQueue.length ≤ 32 → t.reportQueue.length ≤ 32) : Keeps s t := by
  obtain ⟨params, routes, lock, device, silence, straps⟩ := settings
  refine ⟨⟨replies, idle, reports, by rw [mask]; exact id, by rw [jobs.1]; exact id, by rw [calls]; exact id, ?_, ?_, ?_, ?_,
    callsCounted_congr ⟨by rw [calls], counter⟩ (fun g => by rw [State.group, jobs.2, State.group]), lock,
    device, silence, straps, fun g => by simp [State.group, jobs.2]⟩,
    fun j => by simp [State.slot, slots]⟩
  · simp [State.ParamsInRange, params]
  · simp [State.RoutesApart, State.route, routes]
  · simp [State.NumbersUnique, State.entry, directory]
  · simp [State.AttemptsLawful, State.entry, directory, params]

theorem Keeps.transmitNext (s : State) : Keeps s (transmitNext s) := by
  refine .of_link (by simp) (by simp) (by simp [SettingsKept]) (by simp) (by simp) (by simp) (by simp [SameJobs])
    (fun h => ?_) (fun _ => transmitNext_idle s) (transmitNext_length s).trans
  exact repliesHoldSlots_of_perm (by simp) (transmitNext_replySlots s fun r => slot_ne_none_of_repliesHoldSlots h) h

theorem Keeps.queueReport (r : Report) (s : State) : Keeps s (queueReport r s) := by
  have replies : s.RepliesHoldSlots → (Machine.queueReport r s).RepliesHoldSlots := fun h => by
    rcases queueReport_spec r s with ⟨-, e⟩ | ⟨-, -, e⟩ | ⟨-, -, e⟩ <;> rw [e]
    · exact h
    · exact (Keeps.transmitNext _).replies h
    · exact h
  have idle : s.IdleHasNothingWaiting → (Machine.queueReport r s).IdleHasNothingWaiting := fun h => by
    rcases queueReport_spec r s with ⟨-, e⟩ | ⟨-, -, e⟩ | ⟨-, -, e⟩ <;> rw [e]
    · exact h
    · exact transmitNext_idle _
    · exact h
  exact .of_link (by simp) (by simp) (by simp [SettingsKept]) (by simp) (by simp) (by simp) (by simp [SameJobs]) replies idle
    (queueReport_length r s)

theorem Keeps.queueReports (rs : List Report) (s : State) : Keeps s (queueReports rs s) :=
  .foldl (fun s r => Machine.queueReport r s) (fun s r => .queueReport r s) rs s

/-- A reply formed for a slot that no formed reply has, and which then owes nothing, keeps the laws (R170). -/
theorem LawsKept.formReply {s : State} {r : Reply} {j : Nat} {h : HeldRequest} (hj : j < 4) (hr : r.slot = some j)
    (ha : h.awaiting = none) (free : ∀ g, s.slot j = some g → g.awaiting ≠ none) :
    LawsKept s (formReply r (s.setSlot j (some h))) := by
  have replies : s.RepliesHoldSlots → (Machine.formReply r (s.setSlot j (some h))).RepliesHoldSlots := by
    rintro ⟨nodup, held⟩
    have fresh : some j ∉ s.replySlots := fun hm => by
      obtain ⟨k, g, e, -, hs, ho⟩ := held _ hm
      cases e
      exact free g hs ho
    refine (Keeps.transmitNext { s.setSlot j (some h) with replyQueue := s.replyQueue ++ [r] }).replies ?_
    have slots : State.replySlots { s.setSlot j (some h) with replyQueue := s.replyQueue ++ [r] } =
        s.replyQueue.map (fun r => r.slot) ++ [some j] ++ s.replySlots.drop s.replyQueue.length := by
      simp [State.replySlots, hr]
    have perm : (s.replyQueue.map (fun r => r.slot) ++ [some j] ++ s.replySlots.drop s.replyQueue.length).Perm
        (some j :: s.replySlots) := by
      have split : s.replySlots = s.replyQueue.map (fun r => r.slot) ++ s.replySlots.drop s.replyQueue.length := by
        simp [State.replySlots]
      conv_rhs => rw [split]
      simp [List.perm_middle]
    refine ⟨slots ▸ perm.nodup_iff.mpr (List.nodup_cons.mpr ⟨fresh, nodup⟩), fun x hx => ?_⟩
    rw [slots, perm.mem_iff, List.mem_cons] at hx
    have slot : ∀ k, State.slot { s.setSlot j (some h) with replyQueue := s.replyQueue ++ [r] } k =
        if j = k ∧ j < 4 then some h else s.slot k := fun k => slot_setSlot s j k (some h)
    rcases hx with rfl | hx
    · exact ⟨j, h, rfl, hj, by rw [slot, if_pos ⟨rfl, hj⟩], ha⟩
    · obtain ⟨k, g, rfl, hk, hs, ho⟩ := held x hx
      exact ⟨k, g, rfl, hk, by rw [slot, if_neg (by rintro ⟨rfl, -⟩; exact fresh hx), hs], ho⟩
  constructor
  case replies => exact replies
  case idle => exact fun _ => transmitNext_idle _
  case reports => exact (formReply_length r (s.setSlot j (some h))).trans
  case counted => exact callsCounted_congr (by simp [SameCalls]) (by simp [State.group])
  all_goals simp [State.ParamsInRange, State.RoutesApart, State.NumbersUnique, State.AttemptsLawful, State.route,
    State.entry, State.group]

theorem slot_formReply (r : Reply) (s : State) (j : Nat) : (formReply r s).slot j = s.slot j := by simp [State.slot]

theorem Keeps.answerDeferred (kind : Byte) (i : Nat) (st : Status) (body : List Byte) (s : State) :
    Keeps s (answerDeferred kind i st body s) := by
  rcases answerDeferred_spec kind i st body s with ⟨-, e⟩ | ⟨j, h, -, hj, hs, -, ha, e⟩ <;> rw [e]
  · exact .refl s
  · refine ⟨.formReply hj rfl rfl (by simp [hs, ha]), fun k hk => ?_⟩
    rw [slot_formReply, slot_setSlot, if_neg (by rintro ⟨rfl, -⟩; simp [hs] at hk), hk]

/-! ### Calls and legs -/

theorem evaluateCall_law (s : State) (c : Call) : (s.evaluateCall c).law = c.law := by
  simp [Call.law, evaluateCall_keeps s c]

theorem Keeps.evaluateCalls (s : State) : Keeps s (evaluateCalls s) := by
  have calls : SameCalls s { s with calls := s.calls.map s.evaluateCall } := by
    simp [SameCalls, Function.comp_def, evaluateCall_law]
  exact Keeps.trans (t := { s with calls := s.calls.map s.evaluateCall })
    (.of_same ⟨rfl, rfl, rfl, rfl, rfl⟩ ⟨rfl, rfl, id, id, id, rfl⟩ calls (fun _ => rfl) rfl id) (.queueReports _ _)

theorem Keeps.noticeRunning (k : Nat) (b : Bool) (s : State) : Keeps s (noticeRunning k b s) := by
  rcases noticeRunning_spec k b s with e | e <;> rw [e]
  · exact .refl s
  · exact .evaluateCalls s

theorem Keeps.updateOpen (k : Nat) (f : OpenLeg → OpenLeg) (s : State) : Keeps s (s.updateOpen k f) :=
  .of_same (by simp [SameLink]) (by simp [SettingsKept]) (by simp [SameCalls]) (by simp [SameEntries, State.entry]) (by simp)
    (by simp)

/-- Jobs offered to a queue with a place, and legs, are all that an offer changes. -/
theorem Keeps.offerEpoch (k : Nat) (d : Direction) (s : State) : Keeps s (offerEpoch k d s) := by
  refine .of_same (by simp [SameLink]) (by simp [SettingsKept]) (by simp [SameCalls]) (by simp [SameEntries, State.entry])
    (by simp) (fun h => ?_)
  rcases offerEpoch_jobs k d s with e | ⟨_, _, _, e⟩ <;> rw [e]
  · exact h
  · simp; omega

theorem Keeps.retryEpoch (k : Nat) (d : Direction) (s : State) : Keeps s (retryEpoch k d s) := by
  refine .of_same (by simp [SameLink]) (by simp [SettingsKept]) (by simp [SameCalls]) (by simp [SameEntries, State.entry])
    (by simp) (fun h => ?_)
  rcases retryEpoch_jobs k d s with e | ⟨_, _, _, e⟩ <;> rw [e]
  · exact h
  · simp; omega

theorem Keeps.offerSession (k : Nat) (s : State) : Keeps s (offerSession k s) := by
  refine .of_same (by simp [SameLink]) (by simp [SettingsKept]) (by simp [SameCalls]) (by simp [SameEntries, State.entry])
    (by simp) (fun h => ?_)
  rcases offerSession_jobs k s with e | ⟨_, _, _, e⟩ <;> rw [e]
  · exact h
  · simp; omega

theorem Keeps.directionChanged (k : Nat) (d : Direction) (before o : OpenLeg) (s : State) :
    Keeps s (directionChanged k d before o s) := by
  unfold Machine.directionChanged
  dsimp only
  refine (Keeps.updateOpen k (fun _ => o) s).trans (.trans ?_ ((Keeps.offerEpoch k d _).trans (.noticeRunning _ _ _)))
  split
  · exact .queueReport _ _
  · exact .refl _

theorem Keeps.openTheLeg (k : Nat) (o : Owner) (c : Nat) (g : Option Key) (s : State) : Keeps s (openTheLeg k o c g s) := by
  have opened : ∀ l : Leg, Keeps s ((s.setLeg k l).setRouting c (.leg k)) := fun l =>
    .of_same (by simp [SameLink]) (by simp [SettingsKept]) (by simp [SameCalls]) (by simp [SameEntries]) (by simp) (by simp)
  unfold Machine.openTheLeg
  dsimp only
  split
  · exact (opened _).trans (.offerSession _ _)
  · exact (opened _).trans ((Keeps.offerEpoch _ _ _).trans (.offerEpoch _ _ _))

end Sys2Proof.Machine
end

section
/-! PROOFS. Calls created, answered and removed, and entries withdrawn, keep the laws. -/

namespace Sys2Proof.Machine

/-! ### What the leg and call operations leave in an entry -/

/-- An entry replaced by one with the same fields under the laws leaves every entry's such fields. -/
theorem law_setEntry {s : State} {i : Nat} {e : Entry} (h : e.law = (s.entry i).law) (j : Nat) :
    ((s.setEntry i e).entry j).law = (s.entry j).law := by
  rw [entry_setEntry]
  split
  next hi => exact hi.1 ▸ h
  next => rfl

@[simp] theorem endScreening_law (i : Nat) (s : State) (j : Nat) : ((endScreening i s).entry j).law = (s.entry j).law :=
  law_setEntry (by rfl) j

@[simp] theorem leaveStack_law (r i : Nat) (s : State) (j : Nat) : ((leaveStack r i s).entry j).law = (s.entry j).law :=
  law_setEntry (by rfl) j

@[simp] theorem freeTheLeg_law (k : Nat) (s : State) (j : Nat) : ((freeTheLeg k s).entry j).law = (s.entry j).law := by
  rw [State.entry, freeTheLeg_directory]
  split
  next i _ => exact law_setEntry (s := s) (i := i) (e := { s.entry i with ownedLeg := none }) rfl j
  next => rfl

@[simp] theorem reserveLeg_law (o : Owner) (s : State) (j : Nat) :
    ((reserveLeg o s).1.entry j).law = (s.entry j).law := by
  rcases reserveLeg_spec o s with ⟨-, e⟩ | ⟨k, -, -, -, -, -, e⟩
  · rw [e]
  · rw [State.entry, e]
    split
    next i => exact law_setEntry (s := s) (i := i) (e := { s.entry i with ownedLeg := some k }) rfl j
    next => rfl

@[simp] theorem reserveIf_law (b : Bool) (o : Owner) (s : State) (j : Nat) :
    ((reserveIf b o s).1.entry j).law = (s.entry j).law := by
  unfold reserveIf
  split <;> simp

@[simp] theorem freeHeldLeg_law (k : Option Nat) (s : State) (j : Nat) :
    ((freeHeldLeg k s).entry j).law = (s.entry j).law := by
  unfold freeHeldLeg
  split <;> simp

@[simp] theorem releaseCallerLeg_law (a : Nat) (s : State) (j : Nat) :
    ((releaseCallerLeg a s).entry j).law = (s.entry j).law := by
  unfold releaseCallerLeg
  (repeat' split) <;> simp

@[simp] theorem closeIfEmptied_law (i : Nat) (before : List StackItem) (r : Nat) (s : State) (j : Nat) :
    ((closeIfEmptied i before r s).entry j).law = (s.entry j).law := by
  unfold closeIfEmptied
  (repeat' split) <;> simp

@[simp] theorem transferLeg_law (k i : Nat) (s : State) (j : Nat) : ((transferLeg k i s).entry j).law = (s.entry j).law :=
  law_setEntry (by rfl) j

@[simp] theorem settleCallee_law (c : Call) (i : Nat) (p : LegPlan) (s : State) (j : Nat) :
    ((settleCallee c i p s).entry j).law = (s.entry j).law := by
  unfold settleCallee
  (repeat' split) <;> simp

@[simp] theorem settleBSide_law (c : Call) (p : LegPlan) (s : State) (j : Nat) :
    ((settleBSide c p s).entry j).law = (s.entry j).law := by
  unfold settleBSide
  split <;> simp

@[simp] theorem pushCallee_law (c : Call) (s : State) (j : Nat) : ((pushCallee c s).entry j).law = (s.entry j).law := by
  unfold pushCallee
  split
  · exact law_setEntry (by rfl) j
  · rfl

@[simp] theorem entry_updateCall (r : Nat) (f : Call → Call) (s : State) (j : Nat) :
    (s.updateCall r f).entry j = s.entry j := rfl

@[simp] theorem entry_setGroup (g : Nat) (r : Group) (s : State) (j : Nat) : (s.setGroup g r).entry j = s.entry j := rfl

theorem entry_evaluateCalls (s : State) (j : Nat) : (evaluateCalls s).entry j = s.entry j := by simp [State.entry]

/-- A field update that leaves the directory leaves each entry. -/
theorem entry_of_directory {s t : State} (h : t.directory = s.directory) (j : Nat) : t.entry j = s.entry j := by
  rw [State.entry, h, State.entry]

/-! ### Freed and reserved legs -/

theorem Keeps.freeTheLeg (k : Nat) (s : State) : Keeps s (freeTheLeg k s) :=
  .of_same (by simp [SameLink]) (by simp [SettingsKept]) (by simp [SameCalls]) (fun i => freeTheLeg_law k s i) (by simp)
    (by simp)

/-- The call table with one call's fields written keeps each call's reference and B party. -/
theorem updateCall_sameCalls (r : Nat) (f : Call → Call) (s : State) (h : ∀ c, (f c).law = c.law) :
    SameCalls s (s.updateCall r f) := by
  simp [SameCalls, Function.comp_def, apply_ite Call.law, h]

theorem settleCallee_sameCalls (c : Call) (i : Nat) (p : LegPlan) (s : State) : SameCalls s (settleCallee c i p s) := by
  have law : ∀ x : Call, Call.law { x with bReservation := none } = x.law := fun _ => rfl
  have updated : ∀ r, SameCalls s (s.updateCall r (fun x => { x with bReservation := none })) :=
    fun r => updateCall_sameCalls r _ s law
  have transferred : ∀ k (u : State), SameCalls s u → SameCalls s (transferLeg k i u) :=
    fun k u h => by simpa [SameCalls] using h
  unfold settleCallee
  split
  · exact transferred _ _ (updated _)
  · exact transferred _ _ (updated _)
  · exact transferred _ _ ⟨rfl, rfl⟩
  · split
    · simpa [SameCalls] using updated c.ref
    · exact ⟨rfl, rfl⟩

theorem settleBSide_sameCalls (c : Call) (p : LegPlan) (s : State) : SameCalls s (settleBSide c p s) := by
  unfold settleBSide
  split
  · exact settleCallee_sameCalls c _ p s
  · exact ⟨rfl, rfl⟩

theorem Keeps.openPlanned (p : LegPlan) (o : Owner) (c : Option Nat) (s : State) : Keeps s (openPlanned p o c s) := by
  unfold Machine.openPlanned
  split
  · exact .openTheLeg _ _ _ _ _
  · exact .refl s

theorem Keeps.answerCall (c : Call) (pa pb : LegPlan) (ca cb : Option Nat) (t : Long) (s : State) :
    Keeps s (answerCall c pa pb ca cb t s) := by
  unfold Machine.answerCall
  dsimp only
  refine .trans (.trans ?_ ((Keeps.openPlanned _ _ _ _).trans (.openPlanned _ _ _ _))) (.evaluateCalls _)
  have talking := updateCall_sameCalls c.ref
    (fun x => { x with state := .talking, tieNumber := if c.tieLeg.isSome then some t else none }) s (fun _ => rfl)
  obtain ⟨sameLaw, sameCounter⟩ := settleBSide_sameCalls c pb (pushCallee c (s.updateCall c.ref
    (fun x => { x with state := .talking, tieNumber := if c.tieLeg.isSome then some t else none })))
  refine .of_same (by simp [SameLink]) (by simp [SettingsKept]) ⟨?_, ?_⟩ (fun i => by simp) (by simp) (by simp)
  · rw [sameLaw]; simpa using talking.1
  · rw [sameCounter]; simp

/-! ### Calls created and removed -/

theorem CallsCounted.of_removed {s t : State} {c : Call} (hc : c ∈ s.calls) (calls : t.calls = s.calls.filter (fun x => x.ref != c.ref))
    (counter : t.referenceCounter = s.referenceCounter)
    (group : ∀ g, (t.group g).active = if c.b = .group g then (s.group g).active - 1 else (s.group g).active)
    (h : s.CallsCounted) : t.CallsCounted := by
  obtain ⟨h1, h2, h3, h4, h5, h6⟩ := h
  refine ⟨counter ▸ h1, counter ▸ h2, calls ▸ (List.length_filter_le _ _).trans h3,
    calls ▸ h4.sublist (List.filter_sublist.map _), fun x hx => h5 x (List.mem_of_mem_filter (calls ▸ hx)), fun g hg => ?_⟩
  have removed : t.callsToGroup g = if c.b = .group g then s.callsToGroup g - 1 else s.callsToGroup g := by
    have split : s.calls.Perm (c :: s.calls.filter (fun x => x.ref != c.ref)) := by
      have nodup : s.calls.Nodup := h4.of_map _
      refine (List.perm_ext_iff_of_nodup nodup (List.nodup_cons.mpr ⟨by simp, nodup.filter _⟩)).mpr fun x => ?_
      by_cases hx : x.ref = c.ref
      · simp only [List.mem_cons, List.mem_filter, hx, bne_self_eq_false, Bool.false_eq_true, and_false, or_false]
        exact ⟨fun m => List.inj_on_of_nodup_map h4 m hc hx, fun e => e ▸ hc⟩
      · have : x ≠ c := fun e => hx (e ▸ rfl)
        simp [hx, this]
    have count := (split.filter (fun x => x.b == .group g)).length_eq
    rw [List.filter_cons] at count
    rw [State.callsToGroup, State.callsToGroup, calls, count]
    by_cases hb : c.b = .group g <;> simp [hb]
  rw [group, removed, h6 g hg]

theorem mem_of_call {s : State} {r : Nat} {c : Call} (h : s.call r = some c) : c ∈ s.calls ∧ c.ref = r := by
  refine ⟨List.mem_of_find?_eq_some h, ?_⟩
  simpa using List.find?_some h

/-- The state in which the calls are evaluated at a removal (R144, steps 2 to 9). -/
def callRemoved (c : Call) (s0 : State) : State :=
  let s := leaveStack c.ref c.a s0
  let s := match c.b with
    | .extension i => leaveStack c.ref i s
    | _ => s
  let s := freeHeldLeg c.tieLeg (freeHeldLeg c.bReservation s)
  let s := match c.b with
    | .group g => s.setGroup g { s.group g with active := (s.group g).active - 1 }
    | _ => s
  let s := closeIfEmptied c.a (s0.entry c.a).stack c.ref (releaseCallerLeg c.a s)
  let s := match c.b with
    | .extension i => closeIfEmptied i (s0.entry i).stack c.ref s
    | _ => s
  { s with calls := s.calls.filter (fun x => x.ref != c.ref) }

theorem takeOut_eq (c : Call) (s : State) : takeOut c s = evaluateCalls (callRemoved c s) := rfl

/-- A removal leaves the records of the other blocks but for legs, channels, stacks, calls and groups. -/
theorem callRemoved_frame (c : Call) (s : State) :
    SameLink s (callRemoved c s) ∧ SettingsKept s (callRemoved c s) ∧ (callRemoved c s).jobs = s.jobs ∧
      (callRemoved c s).referenceCounter = s.referenceCounter ∧
      (callRemoved c s).calls = s.calls.filter (fun x => x.ref != c.ref) := by
  unfold callRemoved SameLink SettingsKept
  cases c.b <;> simp

theorem callRemoved_law (c : Call) (s : State) (i : Nat) : ((callRemoved c s).entry i).law = (s.entry i).law := by
  unfold callRemoved
  cases c.b
  case extension e => exact (closeIfEmptied_law ..).trans (by simp)
  all_goals exact (closeIfEmptied_law ..).trans (by simp)

/-- A group whose record is replaced by one that differs in the active count alone. -/
theorem group_setGroup_active (s : State) (g n : Nat) (f : Nat → Nat) (h0 : f 0 = 0 ∨ g < 16) :
    (s.setGroup g { s.group g with active := f (s.group g).active }).group n =
      if g = n then { s.group n with active := f (s.group n).active } else s.group n := by
  rw [group_setGroup]
  by_cases hn : g = n
  · subst hn
    by_cases hg : g < 16
    · simp [hg]
    · have := h0.resolve_right hg
      simp [hg, State.group, readAt_of_le _ _ _ (Nat.le_of_not_lt hg), Group.atReset, this]
  · simp [hn]

theorem callRemoved_group (c : Call) (s : State) (n : Nat) : (callRemoved c s).group n =
    if c.b = .group n then { s.group n with active := (s.group n).active - 1 } else s.group n := by
  unfold callRemoved
  cases hb : c.b with
  | group g =>
    have active := group_setGroup_active s g n (· - 1) (.inl rfl)
    simpa [State.group] using active
  | extension i => simp [State.group]
  | service v => simp [State.group]

theorem Keeps.takeOut {c : Call} {s : State} (hc : c ∈ s.calls) : Keeps s (takeOut c s) := by
  obtain ⟨link, settings, jobs, counter, calls⟩ := callRemoved_frame c s
  refine .trans (.of_records link settings (by rw [jobs]; exact id) (fun h => ?_) (fun j _ => .of_law (callRemoved_law c s j))
    (CallsCounted.of_removed hc calls counter (fun g => ?_)) (fun g => ?_)) (.evaluateCalls (callRemoved c s))
  · exact calls ▸ (List.length_filter_le _ _).trans h
  · rw [callRemoved_group, apply_ite Group.active]
  · rw [callRemoved_group, apply_ite Group.tieKeyUsed]
    simp

theorem takeOut_law (c : Call) (s : State) (i : Nat) : ((takeOut c s).entry i).law = (s.entry i).law := by
  rw [takeOut_eq, entry_evaluateCalls, callRemoved_law]

theorem Keeps.removeCall (r : Nat) (why : Option Reason) (s : State) : Keeps s (removeCall r why s) := by
  unfold Machine.removeCall
  split
  · exact .refl s
  next c hc =>
    have inTable := (mem_of_call hc).1
    cases why with
    | none => exact .takeOut inTable
    | some w => exact (Keeps.queueReport _ s).trans (.takeOut (by simpa using inTable))

theorem removeCall_law (r : Nat) (why : Option Reason) (s : State) (i : Nat) :
    ((removeCall r why s).entry i).law = (s.entry i).law := by
  unfold removeCall
  split
  · rfl
  · rw [takeOut_law]
    split
    · exact congrArg Entry.law (entry_of_directory (by simp) i)
    · rfl

/-! ### A new reference -/

/-- The reference offered after `x` others, from `r` on (R134). -/
def offeredReference (r : Nat) : Nat → Nat
  | 0 => r
  | x + 1 => nextReference (offeredReference r x)

theorem nextReference_range {r : Nat} (h : 1 ≤ r) : 1 ≤ nextReference r ∧ nextReference r ≤ 65535 := by
  unfold nextReference
  split <;> omega

theorem offeredReference_range {r : Nat} (h : 1 ≤ r) (h' : r ≤ 65535) (x : Nat) :
    1 ≤ offeredReference r x ∧ offeredReference r x ≤ 65535 := by
  induction x with
  | zero => exact ⟨h, h'⟩
  | succ x ih => exact nextReference_range ih.1

theorem offeredReference_succ (r x : Nat) : offeredReference r (x + 1) = offeredReference (nextReference r) x := by
  induction x with
  | zero => rfl
  | succ x ih => rw [offeredReference, ih, offeredReference]

/-- The references offered one after another, told by their number. -/
theorem offeredReference_eq {r : Nat} (h : 1 ≤ r) (h' : r ≤ 65535) (x : Nat) :
    offeredReference r x = (r - 1 + x) % 65535 + 1 := by
  induction x with
  | zero => rw [offeredReference, Nat.add_zero, Nat.mod_eq_of_lt (by omega)]; omega
  | succ x ih =>
    rw [offeredReference, ih, nextReference]
    split <;> omega

/-- The search ends at the first reference offered that is not held, or at the last one tried. -/
theorem freeReference_eq (held : List Nat) (fuel r m : Nat) (hm : m ≤ fuel) (before : ∀ x < m, offeredReference r x ∈ held)
    (last : m < fuel → offeredReference r m ∉ held) : freeReference held fuel r = offeredReference r m := by
  induction fuel generalizing r m with
  | zero => obtain rfl : m = 0 := by omega
            rfl
  | succ fuel ih =>
    rw [freeReference]
    cases m with
    | zero => rw [if_neg (by simpa [offeredReference] using last (by omega))]; rfl
    | succ m =>
      have first : offeredReference r 0 ∈ held := before 0 (by omega)
      rw [if_pos (by simpa [offeredReference] using first), offeredReference_succ]
      refine ih (nextReference r) m (by omega) (fun x hx => ?_) (fun hlt => ?_)
      · exact offeredReference_succ r x ▸ before (x + 1) (by omega)
      · exact offeredReference_succ r m ▸ last (by omega)

/-- Among 96 references offered one is free while fewer than 96 are held. -/
theorem exists_free_reference {r : Nat} (h : 1 ≤ r) (h' : r ≤ 65535) {held : List Nat} (few : held.length < 96) :
    ∃ m < 96, offeredReference r m ∉ held ∧ ∀ x < m, offeredReference r x ∈ held := by
  have found : ∃ m, m < 96 ∧ offeredReference r m ∉ held := by
    by_contra all
    push Not at all
    have inj : Set.InjOn (offeredReference r) (Finset.range 96) := by
      intro x hx y hy e
      simp only [Finset.coe_range, Set.mem_Iio] at hx hy
      rw [offeredReference_eq h h', offeredReference_eq h h'] at e
      omega
    have sub : (Finset.range 96).image (offeredReference r) ⊆ held.toFinset := by
      intro y hy
      obtain ⟨x, hx, rfl⟩ := Finset.mem_image.mp hy
      exact List.mem_toFinset.mpr (all x (Finset.mem_range.mp hx))
    have count := Finset.card_le_card sub
    rw [Finset.card_image_of_injOn inj, Finset.card_range] at count
    have := held.toFinset_card_le
    omega
  classical
  refine ⟨Nat.find found, (Nat.find_spec found).1, (Nat.find_spec found).2, fun x hx => ?_⟩
  have before := Nat.find_min found hx
  have := (Nat.find_spec found).1
  by_contra free
  exact before ⟨by omega, free⟩

/-- A new reference is a free one in its range (R134). -/
theorem newReference_spec {s : State} (h : 1 ≤ s.referenceCounter) (h' : s.referenceCounter ≤ 65535)
    (few : s.calls.length < 96) :
    s.newReference ∉ s.calls.map (fun c => c.ref) ∧ 1 ≤ s.newReference ∧ s.newReference ≤ 65535 := by
  obtain ⟨m, hm, free, before⟩ := exists_free_reference h h' (held := s.calls.map (fun c => c.ref)) (by simpa using few)
  have found : s.newReference = offeredReference s.referenceCounter m :=
    freeReference_eq _ 96 _ m (by omega) before (fun _ => free)
  rw [found]
  exact ⟨free, offeredReference_range h h' m⟩

theorem CallsCounted.of_created {s t : State} {c : Call} (few : s.calls.length < 96) (ref : c.ref = s.newReference)
    (calls : t.calls = s.calls ++ [c]) (counter : t.referenceCounter = nextReference s.newReference)
    (group : ∀ g < 16, (t.group g).active = if c.b = .group g then (s.group g).active + 1 else (s.group g).active)
    (h : s.CallsCounted) : t.CallsCounted := by
  obtain ⟨h1, h2, h3, h4, h5, h6⟩ := h
  obtain ⟨free, low, high⟩ := newReference_spec h1 h2 few
  obtain ⟨n1, n2⟩ := nextReference_range low
  refine ⟨counter ▸ n1, counter ▸ n2, by rw [calls]; simp; omega, ?_, fun x hx => ?_, fun g hg => ?_⟩
  · rw [calls, List.map_append, List.map_singleton, ref]
    exact List.nodup_append_comm.mp (List.nodup_cons.mpr ⟨free, h4⟩)
  · rcases List.mem_append.mp (calls ▸ hx) with hx | hx
    · exact h5 x hx
    · rw [List.mem_singleton.mp hx, ref]; exact ⟨low, high⟩
  · rw [group g hg, h6 g hg, State.callsToGroup, State.callsToGroup, calls, List.filter_append, List.length_append]
    by_cases hb : c.b = .group g <;> simp [hb]

/-- The tie leg of a new call, and the state that reserves it (R136). -/
def tieReserved (h : HandOver) (s : State) : State × Option Nat :=
  reserveIf (s.toTieGroup h.b) (.tieCall s.newReference) s

/-- The caller's leg of a new call, reserved after the tie leg. -/
def ownReserved (h : HandOver) (s : State) : State × Option Nat :=
  reserveIf (s.callerNeedsLeg h) (.extension h.a) (tieReserved h s).1

/-- The callee's leg of a new call, reserved last. -/
def farReserved (h : HandOver) (s : State) : State × Option Nat :=
  reserveIf (s.calleeNeedsLeg h) (.bSide s.newReference) (ownReserved h s).1

/-- The record of a new call (R137). -/
def newCall (h : HandOver) (s : State) : Call where
  ref := s.newReference
  a := h.a
  b := h.b
  forwarded := h.forwarded
  tieNumber := none
  tieLeg := (tieReserved h s).2
  service := h.service
  state := .alerting
  requiresSecure := h.requiresSecure
  status :=
    if (s.callerNeedsLeg h && (ownReserved h s).2.isNone) || (s.calleeNeedsLeg h && (farReserved h s).2.isNone) then
      .clearByCapacity
    else .notSecure
  bReservation := (farReserved h s).2
  grace := none

/-- The state in which the calls are evaluated when a call is created (R136, R137). -/
def callCreated (h : HandOver) (s0 : State) : State :=
  let s := (farReserved h s0).1
  let s := { s with calls := s.calls ++ [newCall h s0], referenceCounter := nextReference s0.newReference }
  let s := s.setEntry h.a { s.entry h.a with stack := pushStack s0.newReference (s.entry h.a).stack }
  match h.b with
  | .group g => s.setGroup g { s.group g with active := (s.group g).active + 1 }
  | _ => s

theorem createCall_eq (h : HandOver) (s : State) : createCall h s = evaluateCalls (callCreated h s) := rfl

theorem callCreated_frame (h : HandOver) (s : State) :
    SameLink s (callCreated h s) ∧ SettingsKept s (callCreated h s) ∧ (callCreated h s).jobs = s.jobs ∧
      (callCreated h s).referenceCounter = nextReference s.newReference ∧
      (callCreated h s).calls = s.calls ++ [newCall h s] := by
  unfold callCreated SameLink SettingsKept farReserved ownReserved tieReserved
  cases h.b <;> simp

theorem callCreated_law (h : HandOver) (s : State) (i : Nat) : ((callCreated h s).entry i).law = (s.entry i).law := by
  have reserved : ((farReserved h s).1.entry i).law = (s.entry i).law := by
    simp [farReserved, ownReserved, tieReserved]
  refine .trans ?_ reserved
  unfold callCreated
  cases h.b <;> exact law_setEntry (by rfl) i

theorem callCreated_group (h : HandOver) (s : State) (n : Nat) (hn : n < 16) : (callCreated h s).group n =
    if h.b = .group n then { s.group n with active := (s.group n).active + 1 } else s.group n := by
  have reserved : (farReserved h s).1.groups = s.groups := by simp [farReserved, ownReserved, tieReserved]
  unfold callCreated
  cases hb : h.b with
  | group g =>
    by_cases hg : g < 16
    · simpa [State.group, reserved] using group_setGroup_active s g n (· + 1) (.inr hg)
    · have : g ≠ n := by omega
      simp [State.group, reserved, this]
  | extension i => simp [State.group, reserved]
  | service v => simp [State.group, reserved]

theorem tieKeyUsed_callCreated (h : HandOver) (s : State) (g : Nat) (hu : (s.group g).tieKeyUsed = true) :
    ((callCreated h s).group g).tieKeyUsed = true := by
  by_cases hg : g < 16
  · rw [callCreated_group h s g hg, apply_ite Group.tieKeyUsed]
    simpa using hu
  · simp [State.group, readAt_of_le _ _ _ (Nat.le_of_not_lt hg), Group.atReset] at hu

theorem Keeps.createCall {h : HandOver} {s : State} (few : s.calls.length < 96) : Keeps s (createCall h s) := by
  obtain ⟨link, settings, jobs, counter, calls⟩ := callCreated_frame h s
  refine .trans (.of_records link settings (by rw [jobs]; exact id) (fun _ => ?_) (fun j _ => .of_law (callCreated_law h s j))
    (CallsCounted.of_created few rfl calls counter (fun g hg => ?_)) (tieKeyUsed_callCreated h s)) (.evaluateCalls (callCreated h s))
  · rw [calls]; simp; omega
  · rw [callCreated_group h s g hg, apply_ite Group.active]; rfl

/-! ### Admission and screening -/

theorem Keeps.endScreening (i : Nat) (s : State) : Keeps s (endScreening i s) := .setEntry (.of_law rfl)

/-- An entry's calls removed top first with reason WITHDRAWN (R103). -/
def callsWithdrawn (stack : List StackItem) (s : State) : State :=
  stack.foldl (fun s x => removeCall x.call (some .withdrawn) s) s

/-- A withdrawal up to the removal of the calls: WITHDRAWN, the screening dropped, the session key discarded (R103). -/
def withdrawalBegun (i : Nat) (why : Reason) (s : State) : State :=
  let u := endScreening i (queueReport (.withdrawn i why (s.entry i).stack.length) s)
  u.setEntry i { u.entry i with sk := none }

/-- A withdrawal before the entry takes its next state. -/
def callsEnded (i : Nat) (why : Reason) (s : State) : State := callsWithdrawn (s.entry i).stack (withdrawalBegun i why s)

theorem withdrawEntry_eq (i : Nat) (why : Reason) (next : EntryState) (s : State) : withdrawEntry i why next s =
    (callsEnded i why s).setEntry i { (callsEnded i why s).entry i with state := next } := rfl

theorem callsWithdrawn_law (l : List StackItem) (s : State) (i : Nat) :
    ((callsWithdrawn l s).entry i).law = (s.entry i).law := by
  induction l generalizing s with
  | nil => rfl
  | cons x l ih => exact (ih _).trans (removeCall_law _ _ _ _)

theorem withdrawalBegun_law (i : Nat) (why : Reason) (s : State) (j : Nat) :
    ((withdrawalBegun i why s).entry j).law = (s.entry j).law := by
  have reported : ((queueReport (.withdrawn i why (s.entry i).stack.length) s).entry j).law = (s.entry j).law :=
    congrArg Entry.law (entry_of_directory (by simp) j)
  exact (law_setEntry (by rfl) j).trans ((endScreening_law i _ j).trans reported)

theorem callsEnded_law (i : Nat) (why : Reason) (s : State) (j : Nat) :
    ((callsEnded i why s).entry j).law = (s.entry j).law :=
  (callsWithdrawn_law _ _ j).trans (withdrawalBegun_law i why s j)

theorem Keeps.callsWithdrawn (l : List StackItem) (s : State) : Keeps s (callsWithdrawn l s) :=
  .foldl (fun s (x : StackItem) => Machine.removeCall x.call (some .withdrawn) s) (fun s _ => .removeCall _ _ s) l s

theorem Keeps.withdrawalBegun (i : Nat) (why : Reason) (s : State) : Keeps s (withdrawalBegun i why s) :=
  (Keeps.queueReport _ s).trans ((Keeps.endScreening i _).trans (.setEntry (.of_law (by rfl))))

theorem Keeps.callsEnded (i : Nat) (why : Reason) (s : State) : Keeps s (callsEnded i why s) :=
  (Keeps.withdrawalBegun i why s).trans (.callsWithdrawn _ _)

/-- An entry in use that is not LOCKED_OUT may go to any other such state. -/
theorem Entry.Stays.of_state {limit : Nat} {old new : Entry} (hs : old.state ≠ .vacant) (hl : old.state ≠ .lockedOut)
    (hn : new.number = old.number) (ha : new.attempts = old.attempts) (hv : new.level = old.level)
    (hnew : new.state ≠ .vacant) : old.Stays limit new :=
  ⟨fun _ => ⟨hs, hn⟩, fun _ _ ⟨h1, h2, h3, _⟩ => ⟨hv ▸ h1, ha ▸ h2, fun _ => ha ▸ h3 hl, fun h => absurd h hnew⟩⟩

/-- An entry in use whose count falls to 0 may go to any state in use. -/
theorem Entry.Stays.of_cleared {limit : Nat} {old new : Entry} (hs : old.state ≠ .vacant)
    (hn : new.number = old.number) (ha : new.attempts = 0) (hv : new.level ≤ old.level) : old.Stays limit new :=
  ⟨fun _ => ⟨hs, hn⟩, fun hlim _ ⟨h1, _⟩ => ⟨hv.trans h1, by omega, fun _ => by omega, fun _ => ha⟩⟩

theorem state_eq_of_law {e f : Entry} (h : e.law = f.law) : e.state = f.state := congrArg Prod.fst h

theorem Keeps.withdrawEntry {i : Nat} {why : Reason} {next : EntryState} {s : State}
    (admitted : (s.entry i).state = .admitted) (hn : next ≠ .vacant) : Keeps s (withdrawEntry i why next s) := by
  rw [withdrawEntry_eq]
  have now : ((Machine.callsEnded i why s).entry i).state = .admitted :=
    (state_eq_of_law (callsEnded_law i why s i)).trans admitted
  exact (Keeps.callsEnded i why s).trans
    (.setEntry (.of_state (by rw [now]; decide) (by rw [now]; decide) rfl rfl rfl hn))

end Sys2Proof.Machine
end

section
/-! PROOFS. The requests of the directory, of admission, screening, classes and routes keep the laws. -/

namespace Sys2Proof.Machine

/-! ### The requests -/

/-- An owning block's answer keeps the laws, with what it does after the reply is formed. -/
def Settles (s : State) (r : State × Answer) : Prop :=
  Keeps s r.1 ∧ ∀ st body rest, r.2 = .nowThen st body rest → ∀ u : State, u.directory = r.1.directory → LawsKept u (rest u)

namespace Settles

theorem now {s t : State} (st : Status) (body : List Byte) (h : Keeps s t) : Settles s (t, .now st body) :=
  ⟨h, fun _ _ _ e => by cases e⟩

theorem later {s t : State} (i : Nat) (h : Keeps s t) : Settles s (t, .deferred i) := ⟨h, fun _ _ _ e => by cases e⟩

theorem accept {s t : State} (h : Keeps s t) : Settles s (accept t) := now _ _ h

theorem refuse (st : Status) (s : State) : Settles s (refuse st s) := now _ _ (.refl s)

theorem refuseEntry (st : Status) (entry : Word) (s : State) : Settles s (refuseEntry st entry s) := now _ _ (.refl s)

/-- A test of a handler: each outcome is settled where it is reached. -/
theorem ite {s : State} {c : Prop} [Decidable c] {a b : State × Answer} (ha : c → Settles s a) (hb : ¬c → Settles s b) :
    Settles s (if c then a else b) := by
  split
  · exact ha ‹_›
  · exact hb ‹_›

/-- A test that refuses. -/
theorem test {s : State} {c : Prop} [Decidable c] {st : Status} {b : State × Answer} (hb : ¬c → Settles s b) :
    Settles s (if c then Machine.refuse st s else b) := ite (fun _ => refuse st s) hb

/-- A test of the admission unit that refuses. -/
theorem testEntry {s : State} {c : Prop} [Decidable c] {st : Status} {entry : Word} {b : State × Answer}
    (hb : ¬c → Settles s b) : Settles s (if c then Machine.refuseEntry st entry s else b) :=
  ite (fun _ => refuseEntry st entry s) hb

end Settles

/-! #### The directory -/

/-- An entry that was VACANT is ENROLLED with a number that none holds and without failed attempts. -/
theorem Keeps.enrolled {s : State} {i : Nat} {e : Entry} (free : s.lookupNumber e.number = none) (ha : e.attempts = 0)
    (hl : e.level = 0) : Keeps s (s.setEntry i e) := by
  have unheld := (lookupNumber_eq_none s e.number).mp free
  have numbers : s.NumbersUnique → (s.setEntry i e).NumbersUnique := fun h a b hA hB hab => by
    rw [entry_setEntry, entry_setEntry]
    have differs : ∀ k < 512, (s.entry k).state ≠ .vacant → (s.entry k).number ≠ e.number :=
      fun k hk hv => (unheld k hk).resolve_left hv
    split <;> split
    next h1 h2 => exact absurd (h1.1.symm.trans h2.1) hab
    next => exact fun _ hv => (differs b hB hv).symm
    next => exact fun hv _ => differs a hA hv
    next => exact h a b hA hB hab
  have attempts : s.AttemptsLawful → (s.setEntry i e).AttemptsLawful := fun ⟨h1, h15, h⟩ => ⟨h1, h15, fun j hj => by
    rw [entry_setEntry]
    split
    next =>
      have : s.params.attemptLimit ≤ 15 := h15
      refine ⟨by omega, by omega, fun _ => ?_, fun _ => ha⟩
      rw [ha, setEntry_params]
      exact h1
    next => exact h j hj⟩
  have counted : s.CallsCounted → (s.setEntry i e).CallsCounted := callsCounted_congr (by simp [SameCalls]) (by simp)
  constructor
  · constructor
    case numbers => exact numbers
    case attempts => exact attempts
    case counted => exact counted
    all_goals simp [State.RepliesHoldSlots, State.replySlots, State.IdleHasNothingWaiting, State.ParamsInRange,
      State.RoutesApart]
  · simp

theorem takeEnroll_settles (records : List EnrollRecord) (s : State) : Settles s (takeEnroll records s) := by
  suffices h : ∀ done, Settles s (enrollRecords done records s) from h 0
  induction records generalizing s with
  | nil => exact fun done => .now _ _ (.refl s)
  | cons r rest ih =>
    intro done
    unfold enrollRecords
    split
    · exact .now _ _ (.refl s)
    next x _ =>
      split
      · exact .now _ _ (.refl s)
      next passed =>
        have free : s.lookupNumber x.number = none := by
          unfold State.enrollRefusal at passed
          split at passed
          · cases passed
          · split at passed
            · cases passed
            · simpa using ‹¬(s.lookupNumber x.number).isSome = true›
        have first : Keeps s (s.setEntry x.index (enrolledEntry s.mode (s.entry x.index) x)) :=
          .enrolled free rfl rfl
        obtain ⟨keeps, after⟩ := ih (s.setEntry x.index (enrolledEntry s.mode (s.entry x.index) x)) (done + 1)
        exact ⟨first.trans keeps, after⟩

theorem takeSetSecret_settles (entry : Word) (secret : Key) (s : State) : Settles s (takeSetSecret entry secret s) :=
  .test fun _ => .test fun _ => .test fun _ => .test fun _ => .accept (.setEntry (.of_law rfl))

theorem stays_vacant (limit : Nat) (old : Entry) (stamp : Byte) :
    old.Stays limit { Entry.vacant with stamp := stamp } :=
  ⟨fun h => absurd rfl h, fun h1 _ _ => ⟨Nat.zero_le _, Nat.zero_le _, fun _ => h1, fun _ => rfl⟩⟩

theorem takeRemove_settles (entry : Word) (s : State) : Settles s (takeRemove entry s) :=
  .test fun _ => .test fun _ => .test fun _ => .accept (.setEntry (stays_vacant _ _ _))

theorem takeSetClass_settles (entry : Word) (cls : Byte) (s : State) : Settles s (takeSetClass entry cls s) :=
  .test fun _ => .test fun _ => .test fun _ => .accept (.setEntry (.of_law rfl))

theorem takeUnbar_settles (entry : Word) (s : State) : Settles s (takeUnbar entry s) :=
  .test fun _ => .test fun barred => .accept (.setEntry (by
    have now : (s.entry entry.toNat).state = .barred := by simpa using barred
    exact .of_state (by simp [now]) (by simp [now]) rfl rfl rfl (by simp)))

/-- A deferred reply touches no directory entry. -/
theorem cancelReply_entry (i : Nat) (s : State) (j : Nat) : (cancelReply i s).entry j = s.entry j :=
  entry_of_directory (by simp) j

theorem Keeps.cancelReply (i : Nat) (s : State) : Keeps s (cancelReply i s) := by
  unfold Machine.cancelReply
  split
  · exact .answerDeferred _ _ _ _ s
  · exact .answerDeferred _ _ _ _ s
  · exact .refl s

theorem inAdmission_iff (e : Entry) : e.inAdmission = true ↔ e.state = .challenged ∨ e.state = .checking := by
  simp [Entry.inAdmission]

theorem Keeps.cancelAdmission {next : EntryState} {i : Nat} {s : State} (h : (s.entry i).inAdmission = true)
    (hn : next ≠ .vacant) : Keeps s (cancelAdmission next i s) := by
  refine (Keeps.cancelReply i s).trans (.setEntry ?_)
  rw [cancelReply_entry]
  rcases (inAdmission_iff _).mp h with now | now <;>
    exact .of_state (by simp [now]) (by simp [now]) rfl rfl rfl hn

theorem Keeps.barEntry {i : Nat} {s : State} (inUse : (s.entry i).state ≠ .vacant) : Keeps s (barEntry i s) := by
  unfold Machine.barEntry
  dsimp only
  split
  next now => exact .cancelAdmission ((inAdmission_iff _).mpr (.inl now)) (by decide)
  next now => exact .cancelAdmission ((inAdmission_iff _).mpr (.inr now)) (by decide)
  next now => exact .withdrawEntry now (by decide)
  next => exact .setEntry (.of_cleared inUse rfl rfl le_rfl)
  next notLocked => exact .setEntry (.of_state inUse notLocked rfl rfl rfl (by simp))

theorem takeBar_settles (entry : Word) (s : State) : Settles s (takeBar entry s) :=
  .test fun _ => .test fun inUse => .accept (.barEntry fun v => inUse (.inl v))

theorem takeReadExtension_settles (name : ExtensionName) (s : State) : Settles s (takeReadExtension name s) := by
  unfold takeReadExtension
  split
  · exact .test fun _ => .now _ _ (.refl s)
  · split
    · exact .refuse _ s
    · split
      · exact .refuse _ s
      · exact .now _ _ (.refl s)

/-! #### Admission -/

theorem jobPlace_iff (s : State) : s.jobPlace = true ↔ s.jobs.length < 32 :=
  decide_eq_true_iff

theorem takeAdmitBegin_settles (entry : Word) (s : State) : Settles s (takeAdmitBegin entry s) := by
  refine .testEntry fun _ => .testEntry fun _ => .testEntry fun _ => .testEntry fun _ => .testEntry fun enrolled => ?_
  have now : (s.entry entry.toNat).state = .enrolled := by simpa using enrolled
  split
  · exact .refuseEntry _ _ s
  next key _ =>
    refine .testEntry fun place => .later _ ?_
    have room := (jobPlace_iff s).mp (by simpa using place)
    refine .trans (t := s.setEntry entry.toNat { s.entry entry.toNat with
        state := .challenged, stamp := (s.entry entry.toNat).stamp + 1, pending := none, timer := none })
      (.setEntry (.of_state (by simp [now]) (by simp [now]) rfl rfl rfl (by simp))) ?_
    exact .of_same ⟨rfl, rfl, rfl, rfl, rfl⟩ ⟨rfl, rfl, id, id, id, rfl⟩ ⟨rfl, rfl⟩ (fun _ => rfl) rfl (by simp; omega)

theorem challenged_of_windowRuns {e : Entry} (h : e.windowRuns = true) : e.state = .challenged := by
  simp only [Entry.windowRuns, Bool.and_eq_true, beq_iff_eq] at h
  exact h.1

theorem takeAdmitAnswer_settles (entry first second : Word) (s : State) :
    Settles s (takeAdmitAnswer entry first second s) := by
  refine .testEntry fun _ => .testEntry fun _ => .testEntry fun runs => .testEntry fun place => ?_
  have now := challenged_of_windowRuns (e := s.entry entry.toNat) (by simpa using runs)
  have room := (jobPlace_iff s).mp (by simpa using place)
  split
  · refine .later _ (.trans (t := s.setEntry entry.toNat { s.entry entry.toNat with state := .checking, timer := none })
      (.setEntry (.of_state (by simp [now]) (by simp [now]) rfl rfl rfl (by simp))) ?_)
    exact .of_same ⟨rfl, rfl, rfl, rfl, rfl⟩ ⟨rfl, rfl, id, id, id, rfl⟩ ⟨rfl, rfl⟩ (fun _ => rfl) rfl (by simp; omega)
  · exact .refuseEntry _ _ s

theorem Keeps.endLockout {i : Nat} {why : Reason} {s : State} (locked : (s.entry i).state = .lockedOut) :
    Keeps s (endLockout i why s) := by
  have inUse : (s.entry i).state ≠ .vacant := by simp [locked]
  have freed : Keeps s (s.setEntry i { s.entry i with state := .enrolled, attempts := 0, timer := none }) :=
    .setEntry (.of_cleared inUse rfl rfl le_rfl)
  exact freed.trans (.queueReport _ _)

theorem takeClearLockout_settles (entry : Word) (s : State) : Settles s (takeClearLockout entry s) :=
  .test fun _ => .test fun locked => .accept (.endLockout (by simpa using locked))

theorem takeWithdraw_settles (entry : Word) (s : State) : Settles s (takeWithdraw entry s) := by
  refine .test fun _ => .test fun admitted => ⟨.refl s, fun st body rest e u same => ?_⟩
  cases e
  exact (Keeps.withdrawEntry (by rw [entry_of_directory same]; simpa using admitted) (by decide)).toLawsKept

/-! #### Screening, classes and routes -/

theorem takeDialStart_settles (entry : Word) (s : State) : Settles s (takeDialStart entry s) :=
  .test fun _ => .test fun _ => .test fun _ => .test fun _ => .test fun _ => .accept (.setEntry (.of_law rfl))

theorem takeDialAbort_settles (entry : Word) (s : State) : Settles s (takeDialAbort entry s) :=
  .test fun _ => .test fun _ => .test fun _ => .accept (.endScreening _ s)

/-- A hand-over is made only to a call table with a place (R135). -/
theorem calls_lt_of_decision {s : State} {i : Nat} {r : Route} {digits : List Nat} {h : HandOver}
    (ok : s.decision i r digits = .ok h) : s.calls.length < 96 := by
  have place : ∀ g : HandOver, s.handOverRefusal g = none → s.calls.length < 96 := fun g none => by
    by_contra full
    simp [State.handOverRefusal, Config.callCapacity, Nat.not_lt.mp full] at none
  unfold State.decision at ok
  dsimp only at ok
  (repeat' split at ok) <;> cases ok
  exact place _ ‹_›

theorem decideCall_settles (i n : Nat) (r : Route) (digits : List Nat) (s : State) :
    Settles s (decideCall i n r digits s) := by
  unfold decideCall
  split
  · exact .now _ _ (.endScreening i s)
  next ok =>
    exact .now _ _ ((Keeps.endScreening i s).trans (.createCall (by simpa using calls_lt_of_decision ok)))

theorem takeDigit_settles (entry : Word) (value : Byte) (s : State) : Settles s (takeDigit entry value s) := by
  refine .test fun _ => .test fun _ => .test fun _ => ?_
  have kept : Keeps s (s.setEntry entry.toNat { s.entry entry.toNat with
      register := (s.entry entry.toNat).register ++ [value.toNat]
      interdigit := some (.setFor s.params.interdigitTime) }) := .setEntry (.of_law rfl)
  dsimp only
  split
  · obtain ⟨keeps, after⟩ := decideCall_settles entry.toNat _ _ ((s.entry entry.toNat).register ++ [value.toNat])
      (s.setEntry entry.toNat { s.entry entry.toNat with
        register := (s.entry entry.toNat).register ++ [value.toNat]
        interdigit := some (.setFor s.params.interdigitTime) })
    exact ⟨kept.trans keeps, after⟩
  · exact .now _ _ (kept.trans (.endScreening _ _))
  · exact .now _ _ kept

theorem takeWriteClass_settles (cls limit : Byte) (legalities : List Byte) (s : State) :
    Settles s (takeWriteClass cls limit legalities s) := by
  refine .test fun _ => .test fun _ => ?_
  split
  · exact .refuse _ s
  · exact .accept (.of_same (by simp [SameLink]) (by simp [SettingsKept]) (by simp [SameCalls]) (fun _ => rfl) (by simp)
      (by simp))

theorem takeReadClass_settles (cls : Byte) (s : State) : Settles s (takeReadClass cls s) :=
  .test fun _ => .now _ _ (.refl s)

theorem takeReadRoute_settles (route : Byte) (s : State) : Settles s (takeReadRoute route s) :=
  .test fun _ => .now _ _ (.refl s)

/-- The model's test for a conflict is that of the two ranges, the shorter's taken first (R114). -/
theorem conflicts_iff (a b : Route) : a.conflicts b = true ↔
    (digitsValue a.low / 10 ^ (a.low.length - min a.low.length b.low.length) ≤
        digitsValue b.high / 10 ^ (b.low.length - min a.low.length b.low.length)) ∧
      digitsValue b.low / 10 ^ (b.low.length - min a.low.length b.low.length) ≤
        digitsValue a.high / 10 ^ (a.low.length - min a.low.length b.low.length) :=
  decide_eq_true_iff

theorem conflicts_of_rangesMeet {a b : Route} (h : RangesMeet a b) : a.conflicts b = true ∧ b.conflicts a = true := by
  obtain ⟨le, h1, h2⟩ := h
  rw [conflicts_iff, conflicts_iff, Nat.min_eq_left le, Nat.min_eq_right le, Nat.sub_self, Nat.pow_zero, Nat.div_one,
    Nat.div_one]
  exact ⟨⟨h1, h2⟩, h2, h1⟩

theorem rangesMeet_of_conflicts {a b : Route} (h : a.conflicts b = true) : RangesMeet a b ∨ RangesMeet b a := by
  rw [conflicts_iff] at h
  rcases Nat.le_total a.low.length b.low.length with le | le
  · rw [Nat.min_eq_left le, Nat.sub_self, Nat.pow_zero, Nat.div_one, Nat.div_one] at h
    exact .inl ⟨le, h.1, h.2⟩
  · rw [Nat.min_eq_right le, Nat.sub_self, Nat.pow_zero, Nat.div_one, Nat.div_one] at h
    exact .inr ⟨le, h.2, h.1⟩

theorem route_lt {s : State} {n : Nat} {r : Route} (h : s.route n = some r) : n < 64 := by
  by_contra hn
  rw [State.route, readAt_of_le _ _ _ (by omega)] at h
  cases h

/-- WRITE ROUTE's test for a conflict with another occupied entry (R115). -/
theorem routeConflict_iff (s : State) (n : Nat) (r : Route) : s.routeConflict n r = true ↔
    ∃ m a, m ≠ n ∧ s.route m = some a ∧ (RangesMeet r a ∨ RangesMeet a r) := by
  simp only [State.routeConflict, Config.routeEntries, List.any_eq_true, List.mem_range, Bool.and_eq_true, bne_iff_ne]
  constructor
  · rintro ⟨m, -, ne, h⟩
    cases occupied : s.route m with
    | none => simp [occupied] at h
    | some a => exact ⟨m, a, ne, occupied, rangesMeet_of_conflicts (by simpa [occupied] using h)⟩
  · rintro ⟨m, a, ne, occupied, h⟩
    refine ⟨m, route_lt occupied, ne, ?_⟩
    rw [occupied]
    exact h.elim (fun h => (conflicts_of_rangesMeet h).1) (fun h => (conflicts_of_rangesMeet h).2)

theorem Keeps.setRoute {s : State} {n : Nat} {r : Option Route} (apart : ∀ q, r = some q → s.routeConflict n q = false) :
    Keeps s (s.setRoute n r) := by
  have routes : s.RoutesApart → (s.setRoute n r).RoutesApart := fun h a b qa qb ne ha hb meet => by
    have free : ∀ q, r = some q → ∀ m w, m ≠ n → s.route m = some w → ¬ RangesMeet q w ∧ ¬ RangesMeet w q := by
      intro q hq m w hm hw
      have none := apart q hq
      rw [← Bool.not_eq_true, routeConflict_iff] at none
      exact ⟨fun hc => none ⟨m, w, hm, hw, .inl hc⟩, fun hc => none ⟨m, w, hm, hw, .inr hc⟩⟩
    rw [route_setRoute] at ha hb
    split at ha <;> split at hb
    next h1 h2 => exact ne (h1.1.symm.trans h2.1)
    next h1 h2 => exact (free qa ha b qb (fun e => h2 ⟨e.symm, h1.2⟩) hb).1 meet
    next h1 h2 => exact (free qb hb a qa (fun e => h1 ⟨e.symm, h2.2⟩) ha).2 meet
    next => exact h a b qa qb ne ha hb meet
  have counted : s.CallsCounted → (s.setRoute n r).CallsCounted := callsCounted_congr (by simp [SameCalls]) (by simp)
  constructor
  · constructor
    case routes => exact routes
    case counted => exact counted
    all_goals simp [State.RepliesHoldSlots, State.replySlots, State.IdleHasNothingWaiting, State.ParamsInRange,
      State.NumbersUnique, State.AttemptsLawful]
  · simp

theorem takeWriteRoute_settles (route : Byte) (fields : RouteFields) (s : State) :
    Settles s (takeWriteRoute route fields s) := by
  refine .test fun _ => .test fun _ => ?_
  split
  · exact .refuse _ s
  · exact .test fun free => .accept (.setRoute fun q e => by cases e; simpa using free)

theorem takeClearRoute_settles (route : Byte) (s : State) : Settles s (takeClearRoute route s) :=
  .test fun _ => .test fun _ => .accept (.setRoute fun q e => by cases e)

end Sys2Proof.Machine
end

section
/-! PROOFS. The requests of calls, groups, legs, the key unit and supervision keep the laws. -/

namespace Sys2Proof.Machine

/-! #### Calls, groups and legs -/

theorem takeAnswer_settles (ref : Word) (a b : Byte) (t : Long) (s : State) : Settles s (takeAnswer ref a b t s) := by
  refine .test fun _ => .test fun _ => ?_
  split
  · exact .refuse _ s
  · refine .test fun _ => ?_
    split
    · exact .refuse _ s
    · dsimp only
      split
      · exact .refuse _ s
      · exact .now _ _ (.answerCall _ _ _ _ _ _ s)

theorem answerStack_settles (i : Nat) (stack : List StackItem) (s : State) : Settles s (answerStack i stack s) :=
  .now _ _ (.setEntry (.of_law rfl))

theorem takeHold_settles (entry : Word) (s : State) : Settles s (takeHold entry s) := by
  refine .test fun _ => .test fun _ => ?_
  split
  · exact .refuse _ s
  · exact .test fun _ => answerStack_settles _ _ s

theorem takeRetrieve_settles (entry : Word) (s : State) : Settles s (takeRetrieve entry s) := by
  refine .test fun _ => .test fun _ => ?_
  split
  · exact .refuse _ s
  · exact .ite (fun _ => answerStack_settles _ _ s) fun _ => .refuse _ s

theorem takeSwap_settles (entry : Word) (s : State) : Settles s (takeSwap entry s) := by
  refine .test fun _ => .test fun _ => ?_
  split
  · exact answerStack_settles _ _ s
  · exact .refuse _ s

theorem takeEnd_settles (ref : Word) (s : State) : Settles s (takeEnd ref s) := by
  refine .test fun _ => ?_
  split
  · exact .refuse _ s
  · exact .accept (.removeCall _ _ s)

theorem takeReadCall_settles (ref : Word) (s : State) : Settles s (takeReadCall ref s) := by
  refine .test fun _ => ?_
  split
  · exact .refuse _ s
  · exact .now _ _ (.refl s)

/-- A group's record replaced, its active count kept and its used mark not taken back. -/
theorem Keeps.setGroup {s : State} {g : Nat} {r : Group} (active : r.active = (s.group g).active)
    (used : (s.group g).tieKeyUsed = true → r.tieKeyUsed = true) : Keeps s (s.setGroup g r) := by
  refine .of_records (by simp [SameLink]) (by simp [SettingsKept]) (by simp) (by simp) (fun _ _ => .of_law rfl)
    (callsCounted_congr (by simp [SameCalls]) fun n => ?_) (fun n => ?_) <;> rw [group_setGroup] <;> split
  next h => exact h.1 ▸ active
  next => rfl
  next h => exact h.1 ▸ used
  next => exact id

theorem takeWriteGroup_settles (group kind tieEnd budget : Byte) (s : State) :
    Settles s (takeWriteGroup group kind tieEnd budget s) := by
  refine .test fun _ => .test fun _ => ?_
  split
  · exact .test fun _ => .test fun _ => .now _ _ (.setGroup rfl id)
  · exact .refuse _ s

theorem takeSetTieKey_settles (group : Byte) (key : Key) (s : State) : Settles s (takeSetTieKey group key s) :=
  .test fun _ => .test fun _ => .test fun _ => .test fun _ => .accept (.setGroup rfl fun h => by simp [h])

theorem takeReadGroup_settles (group : Byte) (s : State) : Settles s (takeReadGroup group s) :=
  .test fun _ => .now _ _ (.refl s)

theorem takeLoopStart_settles (channel : Byte) (key : Key) (s : State) : Settles s (takeLoopStart channel key s) := by
  refine .test fun _ => .test fun _ => .test fun _ => .test fun _ => ?_
  split
  · exact .refuse _ s
  · exact .now _ _ (.openTheLeg _ _ _ _ s)

theorem takeLoopStop_settles (leg : Byte) (s : State) : Settles s (takeLoopStop leg s) :=
  .test fun _ => .test fun _ => .accept (.freeTheLeg _ s)

theorem takeReadLeg_settles (leg : Byte) (s : State) : Settles s (takeReadLeg leg s) :=
  .test fun _ => .now _ _ (.refl s)

/-! #### The key unit and supervision -/

theorem takeSetDeviceKey_settles (key : Key) (start : Long) (s : State) : Settles s (takeSetDeviceKey key start s) :=
  .test fun _ => .test fun _ => .test fun _ => .accept
    (.of_same ⟨rfl, rfl, rfl, rfl, rfl⟩ ⟨rfl, rfl, id, fun h => by simp [h], id, rfl⟩ ⟨rfl, rfl⟩ (fun _ => rfl) rfl id)

theorem takeConfigLock_settles (s : State) : Settles s (takeConfigLock s) :=
  .accept (.of_same ⟨rfl, rfl, rfl, rfl, rfl⟩ ⟨rfl, rfl, fun _ => rfl, id, id, rfl⟩ ⟨rfl, rfl⟩ (fun _ => rfl) rfl id)

theorem takeAlive_settles (token : Byte) (s : State) : Settles s (takeAlive token s) := by
  refine .test fun _ => .test fun _ => ?_
  dsimp only
  split
  · refine .accept (.trans ?_ (.queueReport _ _))
    exact .of_same ⟨rfl, rfl, rfl, rfl, rfl⟩ ⟨rfl, rfl, id, id, id, rfl⟩ ⟨rfl, rfl⟩ (fun _ => rfl) rfl id
  · exact .accept (.of_same ⟨rfl, rfl, rfl, rfl, rfl⟩ ⟨rfl, rfl, id, id, id, rfl⟩ ⟨rfl, rfl⟩ (fun _ => rfl) rfl id)

/-- The whole directory passed through a function, where the laws ask no more of each entry. -/
theorem Keeps.mapDirectory {s : State} (f : Entry → Entry)
    (h : ∀ i < 512, (s.entry i).Stays s.params.attemptLimit (f (s.entry i))) :
    Keeps s { s with directory := mapTable f s.directory } := by
  refine .of_records ⟨rfl, rfl, rfl, rfl, rfl⟩ ⟨rfl, rfl, id, id, id, rfl⟩ id id (fun i hi => ?_)
    (callsCounted_congr ⟨rfl, rfl⟩ fun _ => rfl) (fun _ => id)
  have new : State.entry { s with directory := mapTable f s.directory } i = f (s.entry i) :=
    readAt_mapTable f s.directory Entry.vacant _ i hi
  exact new ▸ h i hi

/-- An entry of another index is not touched by a cancellation. -/
theorem entry_cancelAdmission_ne (next : EntryState) {i j : Nat} (h : i ≠ j) (s : State) :
    (cancelAdmission next i s).entry j = s.entry j :=
  (entry_setEntry_ne _ i j _ h).trans (cancelReply_entry i s j)

/-- Admissions cancelled one after another, each entry of the list being in admission and named once. -/
theorem Keeps.cancelList {l : List Nat} {s : State} (nodup : l.Nodup)
    (h : ∀ i ∈ l, (s.entry i).inAdmission = true) :
    Keeps s (l.foldl (fun s i => Machine.cancelAdmission .enrolled i s) s) := by
  induction l generalizing s with
  | nil => exact .refl s
  | cons i l ih =>
    obtain ⟨fresh, nodup⟩ := List.nodup_cons.mp nodup
    refine (Keeps.cancelAdmission (h i (by simp)) (by decide)).trans (ih nodup fun j hj => ?_)
    rw [entry_cancelAdmission_ne .enrolled (by rintro rfl; exact fresh hj)]
    exact h j (by simp [hj])

theorem mem_admissions (s : State) (i : Nat) : i ∈ s.admissions ↔ i < 512 ∧ (s.entry i).inAdmission = true :=
  mem_places _ Entry.vacant s.directory i

theorem admissions_nodup (s : State) : s.admissions.Nodup :=
  (placesFrom_sorted _ _ _).imp (fun h => Nat.ne_of_lt h)

theorem Keeps.cancelAdmissions (s : State) : Keeps s (cancelAdmissions s) :=
  .cancelList (admissions_nodup s) fun i hi => ((mem_admissions s i).mp hi).2

theorem maintenanceEntry_stays (limit : Nat) (e : Entry) : e.Stays limit (maintenanceEntry e) := by
  unfold maintenanceEntry
  split
  next now => exact .of_state (by simp [now]) (by simp [now]) rfl rfl rfl (by simp)
  next => exact .of_law rfl

theorem takeMaintEnter_settles (s : State) : Settles s (takeMaintEnter s) := by
  refine .test fun _ => .test fun _ => .test fun _ => .now _ _ (.trans ?_ (.trans (.cancelAdmissions _)
    (.mapDirectory maintenanceEntry fun i _ => maintenanceEntry_stays _ _)))
  exact .of_same ⟨rfl, rfl, rfl, rfl, rfl⟩ ⟨rfl, rfl, id, id, id, rfl⟩ ⟨rfl, rfl⟩ (fun _ => rfl) rfl id

theorem takeMaintExit_settles (s : State) : Settles s (takeMaintExit s) := by
  refine .test fun _ => .now _ _ (.trans (.foldl (fun s k => freeTheLeg k s) (fun s k => .freeTheLeg k s) s.loopLegs s) ?_)
  exact .of_same ⟨rfl, rfl, rfl, rfl, rfl⟩ ⟨rfl, rfl, id, id, id, rfl⟩ ⟨rfl, rfl⟩ (fun _ => rfl) rfl id

/-- Parameters replaced by others in range, with the directory as the laws then ask. -/
theorem Keeps.of_params {s t : State} (link : SameLink s t)
    (marks : t.routes = s.routes ∧ t.calls = s.calls ∧ t.referenceCounter = s.referenceCounter ∧ t.jobs = s.jobs ∧
      t.groups = s.groups ∧ t.lock = s.lock ∧ t.deviceKeyUsed = s.deviceKeyUsed ∧
      (s.silenceUsed = true → t.silenceUsed = true) ∧ t.strapCode = s.strapCode)
    (params : s.ParamsInRange → t.ParamsInRange) (attempts : s.AttemptsLawful → t.AttemptsLawful)
    (numbers : s.NumbersUnique → t.NumbersUnique) : Keeps s t := by
  obtain ⟨buffer, replyQ, reportQ, sending, mask⟩ := link
  obtain ⟨routes, calls, counter, jobs, groups, lock, device, silence, straps⟩ := marks
  have group : ∀ g, t.group g = s.group g := fun g => by rw [State.group, groups, State.group]
  have slot : ∀ j, t.slot j = s.slot j := fun j => by rw [State.slot, buffer, State.slot]
  constructor
  · constructor
    case params => exact params
    case attempts => exact attempts
    case numbers => exact numbers
    case silenceUsed => exact silence
    case counted => exact callsCounted_congr ⟨by rw [calls], counter⟩ fun g => by rw [group]
    all_goals simp [State.RepliesHoldSlots, State.replySlots, State.IdleHasNothingWaiting, State.RoutesApart, State.route, *]
  · simp [slot]

/-- The attempts under a new limit: a count that the limit no longer allows becomes one below it (R101). -/
theorem limitedEntry_lawful {limit old : Nat} {e : Entry} (h1 : 1 ≤ limit) (h15 : limit ≤ 15) (h : e.Lawful old) :
    (limitedEntry limit e).Lawful limit := by
  obtain ⟨hl, ha, hs, hv⟩ := h
  unfold limitedEntry
  split
  next c =>
    obtain ⟨c1, c2, c3⟩ := c
    exact ⟨hl, by simp; omega, fun _ => by simp; omega, fun v => absurd v c1⟩
  next c =>
    refine ⟨hl, ha, fun unlocked => ?_, hv⟩
    by_cases v : e.state = .vacant
    · rw [hv v]; exact h1
    · by_contra above
      exact c ⟨v, unlocked, by omega⟩

theorem limitedEntry_same (limit : Nat) (e : Entry) :
    (limitedEntry limit e).state = e.state ∧ (limitedEntry limit e).number = e.number := by
  unfold limitedEntry
  split <;> simp

theorem Params.set_inRange (s : State) {id v : Nat} (hid : id ≤ 10) (lo : (paramRange id).1 ≤ v)
    (hi : v ≤ (paramRange id).2) (h : s.ParamsInRange) : State.ParamsInRange { s with params := s.params.set id v } := by
  simp only [State.ParamsInRange] at h ⊢
  match id, hid with
  | 0, _ | 1, _ | 2, _ | 3, _ | 4, _ | 5, _ | 6, _ | 7, _ | 8, _ | 9, _ | 10, _ =>
    simp only [paramRange, Params.set] at lo hi ⊢
    omega

theorem Params.set_attemptLimit (p : Params) {id : Nat} (v : Nat) (h : id ≠ 6) :
    (p.set id v).attemptLimit = p.attemptLimit := by
  unfold Params.set
  split <;> simp_all

theorem Keeps.setParam (s : State) {id v : Nat} (hid : id ≤ 10) (lo : (paramRange id).1 ≤ v) (hi : v ≤ (paramRange id).2) :
    Keeps s (afterParam id v { s with params := s.params.set id v }) := by
  have inRange := Params.set_inRange s hid lo hi
  unfold afterParam
  split
  next six =>
    subst six
    have entries : ∀ i < 512, State.entry { s with
        params := s.params.set 6 v, directory := mapTable (limitedEntry v) s.directory } i = limitedEntry v (s.entry i) :=
      fun i hi => readAt_mapTable (limitedEntry v) s.directory Entry.vacant _ i hi
    refine .of_params ⟨rfl, rfl, rfl, rfl, rfl⟩ ⟨rfl, rfl, rfl, rfl, rfl, rfl, rfl, id, rfl⟩ inRange (fun h => ?_)
      (numbersUnique_of_stays (limit := 0) fun i hi => ?_)
    · exact ⟨lo, hi, fun i hlt => by rw [entries i hlt]; exact limitedEntry_lawful lo hi (h.2.2 i hlt)⟩
    · rw [entries i hi]
      obtain ⟨state, number⟩ := limitedEntry_same v (s.entry i)
      exact ⟨fun hv => ⟨state ▸ hv, number⟩, fun none => absurd none (by decide)⟩
  next notSix =>
    have limit := Params.set_attemptLimit s.params v notSix
    have attempts : s.AttemptsLawful → State.AttemptsLawful { s with params := s.params.set id v } := by
      rw [attemptsLawful_iff, attemptsLawful_iff, limit]
      exact fun h => h
    split
    · exact .of_params ⟨rfl, rfl, rfl, rfl, rfl⟩ ⟨rfl, rfl, rfl, rfl, rfl, rfl, rfl, fun h => by simp [h], rfl⟩ inRange
        attempts fun h => h
    · exact .of_params ⟨rfl, rfl, rfl, rfl, rfl⟩ ⟨rfl, rfl, rfl, rfl, rfl, rfl, rfl, fun h => h, rfl⟩ inRange attempts fun h => h

theorem takeSetParam_settles (identifier : Byte) (value : Word) (s : State) :
    Settles s (takeSetParam identifier value s) := by
  refine .test fun known => .test fun _ => .test fun _ => .test fun _ => .now _ _ (.setParam s (by omega) ?_ ?_)
  · exact Nat.le_max_left _ _
  · have range : (paramRange identifier.toNat).1 ≤ (paramRange identifier.toNat).2 := by
      unfold paramRange
      split <;> decide
    exact Nat.max_le.mpr ⟨range, Nat.min_le_left _ _⟩

theorem restartedEntry_stays (limit : Nat) (e : Entry) : e.Stays limit (restartedEntry e) := by
  unfold restartedEntry
  dsimp only
  split
  next now => exact .of_state (by simp [now]) (by simp [now]) rfl rfl rfl (by simp)
  next now => exact .of_state (by simp [now]) (by simp [now]) rfl rfl rfl (by simp)
  next now => exact .of_state (by simp [now]) (by simp [now]) rfl rfl rfl (by simp)
  next => exact .of_law rfl

/-- After a RESTART no reply holds a slot, no call stands and no group counts one. -/
theorem Keeps.restartRecords (s : State) : Keeps s (restartRecords s) := by
  have entries : ∀ i < 512, (Machine.restartRecords s).entry i = restartedEntry (s.entry i) :=
    fun i hi => readAt_mapTable restartedEntry s.directory Entry.vacant _ i hi
  have group : ∀ g, (Machine.restartRecords s).group g = { s.group g with active := 0 } := fun g => by
    by_cases hg : g < 16
    · exact readAt_mapTable _ s.groups Group.atReset _ g hg
    · simp [State.group, readAt_of_le _ _ _ (Nat.le_of_not_lt hg), Group.atReset]
  have replies : (Machine.restartRecords s).replySlots = [] := by
    rcases h : s.transmitting with _ | ⟨_ | _⟩ <;> simp [State.replySlots, Machine.restartRecords, h, detached]
  constructor
  · constructor
    case replies => exact fun _ => ⟨by simp [replies], by simp [replies]⟩
    case idle => exact fun _ _ => ⟨rfl, rfl⟩
    case numbers => exact numbersUnique_of_stays (limit := 0) fun i hi => entries i hi ▸ restartedEntry_stays 0 (s.entry i)
    case attempts =>
      exact fun ⟨h1, h15, h⟩ => ⟨h1, h15, fun i hi => entries i hi ▸ (restartedEntry_stays _ _).2 h1 h15 (h i hi)⟩
    case counted =>
      exact fun ⟨h1, h2, _⟩ => ⟨h1, h2, Nat.zero_le _, List.nodup_nil, by simp [Machine.restartRecords], fun g _ => by
        rw [group]; rfl⟩
    case tieKeyUsed => exact fun g h => by rw [group]; exact h
    all_goals simp [Machine.restartRecords, State.ParamsInRange, State.RoutesApart, State.route]
  · intro j _
    simp only [State.slot, Machine.restartRecords, readAt_fillTable]
    split <;> rfl

theorem takeReadKeyUnit_settles (s : State) : Settles s (takeReadKeyUnit s) := .now _ _ (.refl s)

theorem takeReadSupervision_settles (s : State) : Settles s (takeReadSupervision s) := .now _ _ (.refl s)

theorem takeIdentify_settles (s : State) : Settles s (takeIdentify s) := .now _ _ (.refl s)

theorem takeRestart_settles (s : State) : Settles s (takeRestart s) := by
  refine ⟨.restartRecords s, fun st body rest e u _ => ?_⟩
  cases e
  exact (Keeps.queueReport _ u).toLawsKept

theorem takeReportMask_settles (mask : List Byte) (s : State) : Settles s (takeReportMask mask s) := by
  have enabled : ∀ m : BitVec 32, (m ||| 1).getLsbD 0 = true := by simp
  have replaced : ∀ m : BitVec 32, m.getLsbD 0 = true → Keeps s { s with reportMask := m } := fun m h => by
    refine ⟨?_, fun _ => id⟩
    constructor
    case ready => exact fun _ => h
    case strapCode => rfl
    case tieKeyUsed => exact fun _ => id
    all_goals exact id
  exact .now _ _ (replaced _ (enabled _))

end Sys2Proof.Machine
end

section
/-! PROOFS. The arrival of a request, the completions, the expiries and the highways keep the laws, and with them every step:
O55 to O60. -/

namespace Sys2Proof.Machine

/-! #### A request arrives -/

/-- Every kind's handler, whatever its payload. -/
theorem handlerOf_settles {kind : Nat} {p : List Byte} {h : Handler} (e : handlerOf kind p = some h) (s : State) :
    Settles s (h s) := by
  unfold handlerOf at e
  split at e <;> cases e
  · exact takeEnroll_settles _ s
  · exact takeSetSecret_settles _ _ s
  · exact takeRemove_settles _ s
  · exact takeSetClass_settles _ _ s
  · exact takeBar_settles _ s
  · exact takeUnbar_settles _ s
  · exact takeReadExtension_settles _ s
  · exact takeAdmitBegin_settles _ s
  · exact takeAdmitAnswer_settles _ _ _ s
  · exact takeClearLockout_settles _ s
  · exact takeWithdraw_settles _ s
  · exact takeDialStart_settles _ s
  · exact takeDigit_settles _ _ s
  · exact takeDialAbort_settles _ s
  · exact takeWriteClass_settles _ _ _ s
  · exact takeReadClass_settles _ s
  · exact takeWriteRoute_settles _ _ s
  · exact takeClearRoute_settles _ s
  · exact takeReadRoute_settles _ s
  · exact takeAnswer_settles _ _ _ _ s
  · exact takeHold_settles _ s
  · exact takeRetrieve_settles _ s
  · exact takeSwap_settles _ s
  · exact takeEnd_settles _ s
  · exact takeReadCall_settles _ s
  · exact takeWriteGroup_settles _ _ _ _ s
  · exact takeSetTieKey_settles _ _ s
  · exact takeReadGroup_settles _ s
  · exact takeLoopStart_settles _ _ s
  · exact takeLoopStop_settles _ s
  · exact takeReadLeg_settles _ s
  · exact takeSetDeviceKey_settles _ _ s
  · exact takeReadKeyUnit_settles s
  · exact takeSetParam_settles _ _ s
  · exact takeConfigLock_settles s
  · exact takeAlive_settles _ s
  · exact takeMaintEnter_settles s
  · exact takeMaintExit_settles s
  · exact takeRestart_settles s
  · exact takeReadSupervision_settles s
  · exact takeReportMask_settles _ s
  · exact takeIdentify_settles s

theorem linkTests_settles (kind tag : Byte) (len : Nat) {h : Handler} {s : State} (settles : Settles s (h s)) :
    Settles s (linkTests kind tag len h s) :=
  .test fun _ => .ite (fun _ => .refuse _ s) fun _ => settles

/-- An immediate answer from a slot that is empty keeps the laws. -/
theorem LawsKept.settleNow {j : Nat} {s : State} (hj : j < 4) (empty : s.slot j = none) (kind tag : Byte) (st : Status)
    (body : List Byte) : LawsKept s (settleNow j kind tag st body s) := by
  unfold Machine.settleNow
  split
  · split
    · exact .refl s
    · exact (Keeps.queueReport _ s).toLawsKept
  · exact .formReply hj rfl rfl (by simp [empty])

theorem settleNow_directory (j : Nat) (kind tag : Byte) (st : Status) (body : List Byte) (s : State) :
    (settleNow j kind tag st body s).directory = s.directory := by
  unfold settleNow
  (repeat' split) <;> simp

/-- A slot taken by a request whose reply is owed keeps the laws. -/
theorem LawsKept.setSlot {s : State} {j : Nat} {h : HeldRequest} (empty : s.slot j = none) :
    LawsKept s (s.setSlot j (some h)) := by
  have replies : s.RepliesHoldSlots → (s.setSlot j (some h)).RepliesHoldSlots := fun ⟨nodup, held⟩ => by
    refine ⟨by simpa [State.replySlots] using nodup, fun x hx => ?_⟩
    obtain ⟨k, g, e, hk, hs, ho⟩ := held x (by simpa [State.replySlots] using hx)
    refine ⟨k, g, e, hk, ?_, ho⟩
    rw [slot_setSlot, if_neg (by rintro ⟨rfl, -⟩; simp [empty] at hs), hs]
  constructor
  case replies => exact replies
  case counted => exact callsCounted_congr (by simp [SameCalls]) (by simp [State.group])
  all_goals simp [State.IdleHasNothingWaiting, State.ParamsInRange, State.RoutesApart, State.NumbersUnique,
    State.AttemptsLawful, State.route, State.entry, State.group]

theorem LawsKept.takeSlot (kind tag : Byte) {h : Handler} {s : State} (settles : Settles s (h s)) :
    LawsKept s (takeSlot kind tag h s) := by
  unfold Machine.takeSlot
  split
  · unfold unlessHeld
    split
    · exact .refl s
    · exact (Keeps.queueReport _ s).toLawsKept
  next j free =>
    obtain ⟨hj, empty, -⟩ := freeSlot_spec s j free
    obtain ⟨keeps, after⟩ := settles
    have empty := keeps.emptySlots j empty
    unfold settleRequest
    split
    · exact keeps.toLawsKept.trans (.setSlot empty)
    · exact keeps.toLawsKept.trans (.settleNow hj empty _ _ _ _)
    next st body rest e =>
      exact keeps.toLawsKept.trans (.trans (.settleNow hj empty _ _ _ _)
        (after st body rest e _ (settleNow_directory _ _ _ _ _ _)))

theorem LawsKept.requestArrives (kind tag : Byte) (len : Nat) {h : Handler} {s : State} (settles : Settles s (h s)) :
    LawsKept s (requestArrives kind tag len h s) :=
  .takeSlot kind tag (linkTests_settles kind tag len settles)

theorem LawsKept.frameArrives (kind tag : Byte) (p : List Byte) (s : State) : LawsKept s (frameArrives kind tag p s) := by
  unfold Machine.frameArrives
  split
  next e => exact .requestArrives _ _ _ (handlerOf_settles e s)
  next => exact .takeSlot _ _ (.now _ _ (.refl s))

/-! #### The receiver and the transmitter -/

theorem Keeps.setReceiver (r : Receiver) (s : State) : Keeps s { s with receiver := r } :=
  .of_same ⟨rfl, rfl, rfl, rfl, rfl⟩ ⟨rfl, rfl, id, id, id, rfl⟩ ⟨rfl, rfl⟩ (fun _ => rfl) rfl id

theorem Keeps.discardFrame (why : Reason) (len : Byte) (s : State) : Keeps s (discardFrame why len s) :=
  (Keeps.setReceiver _ s).trans (.queueReport _ _)

theorem LawsKept.receiveByte (s : State) (b : LineByte) : LawsKept s (receiveByte s b) := by
  unfold Machine.receiveByte
  split
  · unfold receiveGood
    split
    · split
      · exact (Keeps.setReceiver _ s).toLawsKept
      · exact .refl s
    · unfold receiveLength
      split
      · exact (Keeps.setReceiver _ s).toLawsKept
      · exact (Keeps.discardFrame _ _ s).toLawsKept
    · exact (Keeps.setReceiver _ s).toLawsKept
    · unfold receiveCheck
      split
      · exact (Keeps.setReceiver _ s).toLawsKept.trans (.frameArrives _ _ _ _)
      · exact (Keeps.discardFrame _ _ s).toLawsKept
  · unfold receiveFault
    split
    · exact .refl s
    · exact (Keeps.discardFrame _ _ s).toLawsKept

theorem LawsKept.receiveBytes (bytes : List LineByte) (s : State) : LawsKept s (receiveBytes bytes s) := by
  induction bytes generalizing s with
  | nil => exact .refl s
  | cons b bytes ih => exact (LawsKept.receiveByte s b).trans (ih _)

theorem Keeps.expireGap (s : State) : Keeps s (expireGap s) := by
  unfold Machine.expireGap
  split
  · exact .refl s
  · exact .discardFrame _ _ s

/-- The frame sent no longer holds its slot. -/
def transmissionEnded (s : State) : State :=
  match s.transmitting with
  | some (.reply ⟨some j, _, _, _, _⟩) => { s with transmitting := none }.setSlot j none
  | _ => { s with transmitting := none }

theorem completeTransmission_eq (s : State) : completeTransmission s =
    if s.transmitting = none then s else transmitNext (transmissionEnded s) := by
  unfold completeTransmission transmissionEnded
  rcases s.transmitting with _ | ⟨⟨slot, _, _, _, _⟩ | q⟩
  · rfl
  · cases slot <;> rfl
  · rfl

theorem repliesHoldSlots_transmissionEnded {s : State} (h : s.RepliesHoldSlots) :
    (transmissionEnded s).RepliesHoldSlots := by
  obtain ⟨nodup, held⟩ := h
  unfold transmissionEnded
  split
  next j _ _ _ _ sent =>
    have slots : s.replySlots = s.replyQueue.map (fun r => r.slot) ++ [some j] := by simp [State.replySlots, sent]
    rw [slots] at nodup held
    have left : (State.setSlot { s with transmitting := none } j none).replySlots = s.replyQueue.map (fun r => r.slot) := by
      simp [State.replySlots]
    rw [State.RepliesHoldSlots, left]
    refine ⟨nodup.sublist (List.sublist_append_left _ _), fun x hx => ?_⟩
    obtain ⟨k, g, rfl, hk, hs, ho⟩ := held x (List.mem_append_left _ hx)
    have other : j ≠ k := fun e => (List.nodup_append.mp nodup).2.2 _ hx (some j) (by simp) (by rw [e])
    refine ⟨k, g, rfl, hk, ?_, ho⟩
    rw [slot_setSlot, if_neg (fun c => other c.1)]
    exact hs
  next =>
    have sub : (State.replySlots { s with transmitting := none }).Sublist s.replySlots := by simp [State.replySlots]
    exact ⟨nodup.sublist sub, fun x hx => held x (sub.subset hx)⟩

theorem transmissionEnded_queues (s : State) : (transmissionEnded s).reportQueue = s.reportQueue := by
  unfold transmissionEnded
  split <;> simp

theorem LawsKept.completeTransmission (s : State) : LawsKept s (completeTransmission s) := by
  have sent : s.transmitting ≠ none → Machine.completeTransmission s = Machine.transmitNext (transmissionEnded s) :=
    fun h => by rw [completeTransmission_eq, if_neg h]
  by_cases idle : s.transmitting = none
  · rw [completeTransmission_eq, if_pos idle]
    exact .refl s
  · constructor
    case replies => exact fun h => sent idle ▸ (Keeps.transmitNext _).replies (repliesHoldSlots_transmissionEnded h)
    case idle => exact fun _ => sent idle ▸ transmitNext_idle _
    case reports => exact fun h => sent idle ▸ (transmitNext_length _).trans (transmissionEnded_queues s ▸ h)
    case counted => exact callsCounted_congr (by simp [SameCalls]) (by simp [State.group])
    all_goals simp [State.ParamsInRange, State.RoutesApart, State.NumbersUnique, State.AttemptsLawful, State.route,
      State.entry, State.group]

/-! #### The key unit's completions -/

/-- A job taken from the queue keeps the laws. -/
theorem Keeps.dropJob (s : State) : Keeps s (dropJob s) :=
  .of_same ⟨rfl, rfl, rfl, rfl, rfl⟩ ⟨rfl, rfl, id, id, id, rfl⟩ ⟨rfl, rfl⟩ (fun _ => rfl) rfl
    (fun h => by simp [Machine.dropJob]; omega)

theorem Keeps.deliverEpoch (k : Nat) (d : Direction) (e : Long) (key : Key) (s : State) :
    Keeps s (deliverEpoch k d e key s) := by
  unfold Machine.deliverEpoch
  split
  · exact .refl s
  · exact .directionChanged _ _ _ _ _

theorem Keeps.completeChallenge (s : State) : Keeps s (completeChallenge s) := by
  unfold Machine.completeChallenge
  split
  · refine (Keeps.dropJob s).trans ?_
    dsimp only
    split
    · exact .trans (.setEntry (.of_law (by rfl))) (.answerDeferred _ _ _ _ _)
    · exact .refl _
  · exact .refl s

/-- A failed attempt of an entry that is in admission (R96, R98). -/
theorem failedEntry_stays {start : Nat → TimerCount} {p : Params} {e : Entry} (h : e.inAdmission = true) :
    e.Stays p.attemptLimit (failedEntry start p e) := by
  have notVacant : e.state ≠ .vacant := by rcases (inAdmission_iff e).mp h with now | now <;> simp [now]
  have notLocked : e.state ≠ .lockedOut := by rcases (inAdmission_iff e).mp h with now | now <;> simp [now]
  unfold failedEntry locksOut
  split
  · refine ⟨fun _ => ⟨notVacant, rfl⟩, fun _ h15 ⟨_, _, below, _⟩ => ?_⟩
    have := below notLocked
    exact ⟨Nat.min_le_right _ _, by simp; omega, fun locked => absurd rfl locked, fun v => by simp at v⟩
  next under =>
    refine ⟨fun _ => ⟨notVacant, rfl⟩, fun _ h15 ⟨low, _, _, _⟩ => ?_⟩
    simp only [decide_eq_true_eq, Nat.not_le] at under
    exact ⟨low, by simp; omega, fun _ => under, fun v => by simp at v⟩

theorem Keeps.reportLockout (i : Nat) (e : Entry) (s : State) : Keeps s (reportLockout i e s) := by
  unfold Machine.reportLockout
  split
  · exact .queueReport _ s
  · exact .refl s

theorem Keeps.completeCheck (s : State) : Keeps s (completeCheck s) := by
  unfold Machine.completeCheck
  split
  · refine (Keeps.dropJob s).trans ?_
    dsimp only
    split
    next i stamp _ _ expected =>
      have checking : ((Machine.dropJob s).entry i).state = .checking := by
        simp only [State.expectsCheck, Bool.and_eq_true, beq_iff_eq] at expected
        exact expected.2
      have admission := (inAdmission_iff _).mpr (.inr checking)
      have inUse : ((Machine.dropJob s).entry i).state ≠ .vacant := by rw [checking]; decide
      split
      · exact .trans (.setEntry (.of_cleared inUse (by rfl) (by rfl) (Nat.zero_le _)))
          (.answerDeferred _ _ _ _ _)
      · exact .trans (.setEntry (failedEntry_stays admission)) ((Keeps.answerDeferred _ _ _ _ _).trans (.reportLockout _ _ _))
    next => exact .refl _
  · exact .refl s

theorem Keeps.completeSession (s : State) : Keeps s (completeSession s) := by
  unfold Machine.completeSession
  split
  · refine (Keeps.dropJob s).trans ?_
    dsimp only
    split
    · exact (Keeps.updateOpen _ _ _).trans ((Keeps.offerEpoch _ _ _).trans (.offerEpoch _ _ _))
    · exact .refl _
  · exact .refl s

/-- An EPOCH job replaced by one for the epoch now wanted takes the place of the job that has left (R44). -/
theorem Keeps.settleEpoch (sk : Key) (e : Long) (k : Nat) (d : Direction) (o : OpenLeg) {s : State} {j : Job} {rest : List Job}
    (oldest : s.jobs = j :: rest) : Keeps s (settleEpoch sk e k d o (Machine.dropJob s)) := by
  have replaced : ∀ x, Keeps s (pushJob x (Machine.dropJob s)) := fun x =>
    .of_same ⟨rfl, rfl, rfl, rfl, rfl⟩ ⟨rfl, rfl, id, id, id, rfl⟩ ⟨rfl, rfl⟩ (fun _ => rfl) rfl
      (fun h => by simpa [pushJob, Machine.dropJob, oldest] using h)
  unfold Machine.settleEpoch
  split
  · exact .dropJob s
  · split
    · exact (Keeps.dropJob s).trans (.deliverEpoch _ _ _ _ _)
    · split
      · exact replaced _
      · exact .dropJob s

theorem Keeps.completeEpoch (s : State) : Keeps s (completeEpoch s) := by
  unfold Machine.completeEpoch
  split
  next oldest =>
    dsimp only
    split
    · split
      · exact .settleEpoch _ _ _ _ _ oldest
      · exact .dropJob s
    · exact .dropJob s
  next => exact .refl s

theorem Keeps.retryLeg (k : Nat) (s : State) : Keeps s (retryLeg k s) := by
  have session : Keeps s (match s.openLeg? k with
      | some o => if o.sessionWanted then Machine.offerSession k s else s
      | none => s) := by
    split
    · split
      · exact .offerSession _ s
      · exact .refl s
    · exact .refl s
  exact session.trans ((Keeps.retryEpoch _ _ _).trans (.retryEpoch _ _ _))

theorem Keeps.retryJobs (s : State) : Keeps s (retryJobs s) :=
  .foldl (fun s k => Machine.retryLeg k s) (fun s k => .retryLeg k s) _ s

/-! #### The timers' expiries -/

theorem Keeps.failureCascade (w : Owner) (s : State) : Keeps s (failureCascade w s) := by
  unfold Machine.failureCascade
  split
  · split
    next admitted => exact .withdrawEntry admitted (by decide)
    next => exact .refl s
  · exact .removeCall _ _ s
  · exact .refl s
  · exact .refl s

theorem Keeps.failLeg (k : Nat) (s : State) : Keeps s (failLeg k s) := by
  unfold Machine.failLeg
  split
  · split
    · exact (Keeps.queueReport _ s).trans ((Keeps.freeTheLeg _ _).trans (.failureCascade _ _))
    · exact .refl s
  · exact .refl s

theorem Keeps.expireWindow (i : Nat) (s : State) : Keeps s (expireWindow i s) := by
  unfold Machine.expireWindow
  dsimp only
  split
  next due =>
    exact .trans (.setEntry (failedEntry_stays ((inAdmission_iff _).mpr (.inl due.1))))
      ((Keeps.queueReport _ _).trans (.reportLockout _ _ _))
  next => exact .refl s

theorem Keeps.expireLockout (i : Nat) (s : State) : Keeps s (expireLockout i s) := by
  unfold Machine.expireLockout
  split
  next due => exact .endLockout due.1
  next => exact .refl s

theorem Keeps.expireInterdigit (i : Nat) (s : State) : Keeps s (expireInterdigit i s) := by
  unfold Machine.expireInterdigit
  split
  · exact (Keeps.endScreening i s).trans (.queueReport _ _)
  · exact .refl s

theorem Keeps.expireGrace (r : Nat) (s : State) : Keeps s (expireGrace r s) := by
  unfold Machine.expireGrace
  split
  · split
    · exact .removeCall _ _ s
    · exact .refl s
  · exact .refl s

theorem Keeps.enterStandalone (s : State) : Keeps s (enterStandalone s) := by
  unfold Machine.enterStandalone
  split
  · refine .trans (t := { s with mode := .standalone, silence := .stopped }) ?_
      ((Keeps.queueReport _ _).trans (.cancelAdmissions _))
    exact .of_same ⟨rfl, rfl, rfl, rfl, rfl⟩ ⟨rfl, rfl, id, id, id, rfl⟩ ⟨rfl, rfl⟩ (fun _ => rfl) rfl id
  · exact .refl s

theorem tickEntry_law (e : Entry) : (tickEntry e).law = e.law := rfl

theorem Keeps.passTick (s : State) : Keeps s (passTick s) := by
  have entries : SameEntries s (Machine.passTick s) := fun i => by
    by_cases hi : i < 512
    · have counted : (Machine.passTick s).entry i = tickEntry (s.entry i) :=
        readAt_mapTable tickEntry s.directory Entry.vacant _ i hi
      rw [counted, tickEntry_law]
    · simp [State.entry, readAt_of_le _ _ _ (Nat.le_of_not_lt hi)]
  have calls : SameCalls s (Machine.passTick s) := by
    simp [SameCalls, Machine.passTick, countTimers, Function.comp_def, Call.law]
  exact .of_same ⟨rfl, rfl, rfl, rfl, rfl⟩ ⟨rfl, rfl, id, id, id, rfl⟩ calls entries rfl id

/-! #### The highways -/

/-- The records of the highway interface are none that a law speaks of. -/
theorem Keeps.highway {s t : State} (h : t = { s with
    frameReference := t.frameReference, watchRunning := t.watchRunning, routedAs := t.routedAs,
    heldInbound := t.heldInbound, heldOutbound := t.heldOutbound, portTransmit := t.portTransmit,
    matrixTransmit := t.matrixTransmit, afterFrame := t.afterFrame }) : Keeps s t := by
  rw [h]
  exact .of_same ⟨rfl, rfl, rfl, rfl, rfl⟩ ⟨rfl, rfl, id, id, id, rfl⟩ ⟨rfl, rfl⟩ (fun _ => rfl) rfl id

theorem Keeps.outboundEvent (k : Nat) (x : Byte) (s : State) : Keeps s (outboundEvent k x s).1 := by
  unfold Machine.outboundEvent
  split
  · exact .refl s
  · exact .directionChanged _ _ _ _ s

theorem Keeps.inboundEvent (k : Nat) (x : Byte) (s : State) : Keeps s (inboundEvent k x s).1 := by
  unfold Machine.inboundEvent
  split
  · exact .refl s
  · exact .directionChanged _ _ _ _ s

theorem Keeps.legFrame (k c : Nat) (port matrix : Byte) (s : State) : Keeps s (legFrame k c port matrix s).1 := by
  unfold Machine.legFrame
  dsimp only
  refine .trans (t := { s with heldInbound := writeAt s.heldInbound c none, heldOutbound := writeAt s.heldOutbound c none })
    (.highway rfl) ?_
  split
  · exact (Keeps.outboundEvent _ _ _).trans (.inboundEvent _ _ _)
  · exact (Keeps.outboundEvent _ _ _).trans (.inboundEvent _ _ _)

theorem Keeps.channelFrame (restored : Bool) (f : FrameSamples) (s : State) (c : Nat) :
    Keeps s (channelFrame restored f s c) := by
  unfold Machine.channelFrame
  dsimp only
  split
  · exact .highway rfl
  · exact (Keeps.legFrame _ _ _ _ s).trans (.highway rfl)

theorem Keeps.runFrame (restored : Bool) (f : FrameSamples) (s : State) : Keeps s (runFrame restored f s) := by
  have channels := Keeps.foldl (Machine.channelFrame restored f) (fun s c => .channelFrame restored f s c) frameOrder s
  unfold Machine.runFrame
  generalize frameOrder.foldl (Machine.channelFrame restored f) s = t at channels ⊢
  exact channels.trans (.highway rfl)

theorem Keeps.acceptPulse (f : FrameSamples) (s : State) : Keeps s (acceptPulse f s) := by
  have present : Keeps s { s with frameReference := .present, watchRunning := true } := .highway rfl
  unfold Machine.acceptPulse
  split
  · exact .trans (t := { s with watchRunning := true }) (.highway rfl) (.runFrame _ _ _)
  · exact present.trans ((Keeps.queueReport _ _).trans (.runFrame _ _ _))

theorem Keeps.lossHunt (k : Nat) (s : State) : Keeps s (lossHunt k s) := by
  unfold Machine.lossHunt
  split
  · exact .refl s
  · exact .directionChanged _ _ _ _ s

theorem Keeps.loseReference (s : State) : Keeps s (loseReference s) := by
  have lost : Keeps s { s with frameReference := .lost } := .highway rfl
  unfold Machine.loseReference
  split
  · exact .refl s
  · exact lost.trans ((Keeps.queueReport _ _).trans (.foldl (fun s k => Machine.lossHunt k s) (fun s k => .lossHunt k s) _ _))

/-! ### Every command, and every step -/

theorem LawsKept.unlessHeld {f : State → State} {s : State} (h : LawsKept s (f s)) : LawsKept s (unlessHeld f s) := by
  unfold Machine.unlessHeld
  split
  · exact .refl s
  · exact h

/-- Every command but the release of a hard reset keeps the laws and the marks. -/
theorem exec_lawsKept {c : Instr} {s t : State} (run : exec c s = .next t)
    (noReset : ∀ straps, c ≠ .hardReset (.released straps)) : LawsKept s t := by
  cases c with
  | enroll tag records => cases run; exact .requestArrives _ _ _ (takeEnroll_settles _ s)
  | setSecret tag entry secret => cases run; exact .requestArrives _ _ _ (takeSetSecret_settles _ _ s)
  | remove tag entry => cases run; exact .requestArrives _ _ _ (takeRemove_settles _ s)
  | setClass tag entry cls => cases run; exact .requestArrives _ _ _ (takeSetClass_settles _ _ s)
  | bar tag entry => cases run; exact .requestArrives _ _ _ (takeBar_settles _ s)
  | unbar tag entry => cases run; exact .requestArrives _ _ _ (takeUnbar_settles _ s)
  | readExtension tag name => cases run; exact .requestArrives _ _ _ (takeReadExtension_settles _ s)
  | admitBegin tag entry => cases run; exact .requestArrives _ _ _ (takeAdmitBegin_settles _ s)
  | admitAnswer tag entry first second => cases run; exact .requestArrives _ _ _ (takeAdmitAnswer_settles _ _ _ s)
  | clearLockout tag entry => cases run; exact .requestArrives _ _ _ (takeClearLockout_settles _ s)
  | withdraw tag entry => cases run; exact .requestArrives _ _ _ (takeWithdraw_settles _ s)
  | dialStart tag entry => cases run; exact .requestArrives _ _ _ (takeDialStart_settles _ s)
  | digit tag entry value => cases run; exact .requestArrives _ _ _ (takeDigit_settles _ _ s)
  | dialAbort tag entry => cases run; exact .requestArrives _ _ _ (takeDialAbort_settles _ s)
  | writeClass tag cls limit legalities => cases run; exact .requestArrives _ _ _ (takeWriteClass_settles _ _ _ s)
  | readClass tag cls => cases run; exact .requestArrives _ _ _ (takeReadClass_settles _ s)
  | writeRoute tag route fields => cases run; exact .requestArrives _ _ _ (takeWriteRoute_settles _ _ s)
  | clearRoute tag route => cases run; exact .requestArrives _ _ _ (takeClearRoute_settles _ s)
  | readRoute tag route => cases run; exact .requestArrives _ _ _ (takeReadRoute_settles _ s)
  | answer tag call a b t => cases run; exact .requestArrives _ _ _ (takeAnswer_settles _ _ _ _ s)
  | hold tag entry => cases run; exact .requestArrives _ _ _ (takeHold_settles _ s)
  | retrieve tag entry => cases run; exact .requestArrives _ _ _ (takeRetrieve_settles _ s)
  | swap tag entry => cases run; exact .requestArrives _ _ _ (takeSwap_settles _ s)
  | endCall tag call => cases run; exact .requestArrives _ _ _ (takeEnd_settles _ s)
  | readCall tag call => cases run; exact .requestArrives _ _ _ (takeReadCall_settles _ s)
  | writeGroup tag group kind tieEnd budget => cases run; exact .requestArrives _ _ _ (takeWriteGroup_settles _ _ _ _ s)
  | setTieKey tag group key => cases run; exact .requestArrives _ _ _ (takeSetTieKey_settles _ _ s)
  | readGroup tag group => cases run; exact .requestArrives _ _ _ (takeReadGroup_settles _ s)
  | loopStart tag channel key => cases run; exact .requestArrives _ _ _ (takeLoopStart_settles _ _ s)
  | loopStop tag leg => cases run; exact .requestArrives _ _ _ (takeLoopStop_settles _ s)
  | readLeg tag leg => cases run; exact .requestArrives _ _ _ (takeReadLeg_settles _ s)
  | setDeviceKey tag key start => cases run; exact .requestArrives _ _ _ (takeSetDeviceKey_settles _ _ s)
  | readKeyUnit tag => cases run; exact .requestArrives _ _ _ (takeReadKeyUnit_settles s)
  | setParam tag identifier value => cases run; exact .requestArrives _ _ _ (takeSetParam_settles _ _ s)
  | configLock tag => cases run; exact .requestArrives _ _ _ (takeConfigLock_settles s)
  | alive tag token => cases run; exact .requestArrives _ _ _ (takeAlive_settles _ s)
  | maintEnter tag => cases run; exact .requestArrives _ _ _ (takeMaintEnter_settles s)
  | maintExit tag => cases run; exact .requestArrives _ _ _ (takeMaintExit_settles s)
  | restart tag => cases run; exact .requestArrives _ _ _ (takeRestart_settles s)
  | readSupervision tag => cases run; exact .requestArrives _ _ _ (takeReadSupervision_settles s)
  | reportMask tag mask => cases run; exact .requestArrives _ _ _ (takeReportMask_settles _ s)
  | identify tag => cases run; exact .requestArrives _ _ _ (takeIdentify_settles s)
  | hardReset pin =>
    cases pin with
    | held =>
      cases run
      have held : Keeps s { s with resetHeld := true } :=
        .of_same ⟨rfl, rfl, rfl, rfl, rfl⟩ ⟨rfl, rfl, id, id, id, rfl⟩ ⟨rfl, rfl⟩ (fun _ => rfl) rfl id
      exact held.toLawsKept
    | released straps => exact absurd rfl (noReset straps)
  | frameReceived bytes => cases run; exact .unlessHeld (.receiveBytes _ s)
  | gapExpiry => cases run; exact .unlessHeld (Keeps.expireGap s).toLawsKept
  | transmitComplete => cases run; exact .unlessHeld (.completeTransmission s)
  | framePulse f => cases run; exact .unlessHeld (Keeps.acceptPulse f s).toLawsKept
  | frameReferenceLoss => cases run; exact .unlessHeld (Keeps.loseReference s).toLawsKept
  | frameReferenceRestore f => cases run; exact .unlessHeld (Keeps.acceptPulse f s).toLawsKept
  | challengeCompletion => cases run; exact .unlessHeld (Keeps.completeChallenge s).toLawsKept
  | checkCompletion => cases run; exact .unlessHeld (Keeps.completeCheck s).toLawsKept
  | tieSessionCompletion => cases run; exact .unlessHeld (Keeps.completeSession s).toLawsKept
  | epochCompletion => cases run; exact .unlessHeld (Keeps.completeEpoch s).toLawsKept
  | jobRetryTick => cases run; exact .unlessHeld (Keeps.retryJobs s).toLawsKept
  | huntTimerExpiry leg => cases run; exact .unlessHeld (Keeps.failLeg _ s).toLawsKept
  | admissionWindowExpiry entry => cases run; exact .unlessHeld (Keeps.expireWindow _ s).toLawsKept
  | lockoutExpiry entry => cases run; exact .unlessHeld (Keeps.expireLockout _ s).toLawsKept
  | interdigitExpiry entry => cases run; exact .unlessHeld (Keeps.expireInterdigit _ s).toLawsKept
  | graceTimerExpiry call => cases run; exact .unlessHeld (Keeps.expireGrace _ s).toLawsKept
  | silenceTimerExpiry => cases run; exact .unlessHeld (Keeps.enterStandalone s).toLawsKept

/-- The laws of a device with empty tables: the part as a hard reset leaves it, whatever waits to be taken. -/
structure MeetsLaws (t : State) : Prop where
  capacity : t.WithinCapacity
  params : t.ParamsInRange
  ready : t.reportMask.getLsbD 0 = true
  routes : t.RoutesApart
  numbers : t.NumbersUnique
  replies : t.RepliesHoldSlots
  idle : t.IdleHasNothingWaiting
  attempts : t.AttemptsLawful
  counted : t.CallsCounted

theorem afterHardReset_meetsLaws (straps : BitVec 2) : MeetsLaws (State.afterHardReset straps) := by
  have entry : ∀ i, (State.afterHardReset straps).entry i = Entry.vacant := fun i => by
    simp [State.entry, State.afterHardReset, readAt_fillTable]
  have route : ∀ n, (State.afterHardReset straps).route n = none := fun n => by
    simp [State.route, State.afterHardReset, readAt_fillTable]
  have group : ∀ g, (State.afterHardReset straps).group g = Group.atReset := fun g => by
    simp [State.group, State.afterHardReset, readAt_fillTable]
  have limit : 1 ≤ Params.default.attemptLimit ∧ Params.default.attemptLimit ≤ 15 := by decide
  constructor
  case capacity => exact ⟨Nat.zero_le _, Nat.zero_le _, Nat.zero_le _⟩
  case params => simp [State.ParamsInRange, State.afterHardReset, Params.default, Config.defaultIdle]
  case ready => simp [State.afterHardReset]
  case routes => exact fun a b qa qb _ ha _ => by rw [route] at ha; cases ha
  case numbers => exact fun i j _ _ _ hv => absurd (by rw [entry]; rfl) hv
  case replies => exact ⟨List.nodup_nil, fun x hx => by cases hx⟩
  case idle => exact fun h => by cases h
  case attempts =>
    refine ⟨limit.1, limit.2, fun i _ => ?_⟩
    rw [entry]
    exact ⟨Nat.zero_le _, Nat.zero_le _, fun _ => limit.1, fun _ => rfl⟩
  case counted =>
    refine ⟨le_refl 1, (by decide : 1 ≤ 65535), Nat.zero_le _, List.nodup_nil, by simp [State.afterHardReset], fun g _ => ?_⟩
    rw [group]
    rfl

/-- The laws speak of no waiting command. -/
theorem MeetsLaws.pending {s : State} (h : MeetsLaws s) (waiting : List Instr) : MeetsLaws { s with pending := waiting } := by
  obtain ⟨capacity, params, ready, routes, numbers, replies, idle, attempts, counted⟩ := h
  exact ⟨capacity, params, ready, routes, numbers, replies, idle, attempts, counted⟩

/-- A step keeps the laws: it is a command, a tick, or the release of a hard reset, which meets them all. -/
theorem step_lawsKept {s t : State} (run : step s = .next t) : LawsKept s t ∨ MeetsLaws t := by
  have queue : ∀ (waiting : List Instr), LawsKept s { s with pending := waiting } := fun waiting =>
    Keeps.toLawsKept (.of_same ⟨rfl, rfl, rfl, rfl, rfl⟩ ⟨rfl, rfl, id, id, id, rfl⟩ ⟨rfl, rfl⟩ (fun _ => rfl) rfl id)
  unfold step at run
  split at run
  next c rest _ =>
    by_cases reset : ∃ straps, c = .hardReset (.released straps)
    · obtain ⟨straps, rfl⟩ := reset
      cases run
      exact .inr ((afterHardReset_meetsLaws straps).pending rest)
    · exact .inl ((queue rest).trans (exec_lawsKept run fun straps e => reset ⟨straps, e⟩))
  next =>
    cases run
    exact .inl (.unlessHeld (Keeps.passTick s).toLawsKept)

/-! ### The five invariants -/

/-- Settles O55: every step keeps the queues within their places, the parameters in range and READY enabled. -/
theorem stepKeepsBounds : Obligations.StepKeepsBounds := by
  intro s t ⟨jobs, reports, calls⟩ params ready run
  rcases step_lawsKept run with kept | meets
  · exact ⟨⟨kept.jobs jobs, kept.reports reports, kept.calls calls⟩, kept.params params, kept.ready ready⟩
  · exact ⟨meets.capacity, meets.params, meets.ready⟩

/-- Settles O56: every step keeps the routes apart and the numbers unique. -/
theorem stepKeepsRoutesAndNumbers : Obligations.StepKeepsRoutesAndNumbers := by
  intro s t run
  rcases step_lawsKept run with kept | meets
  · exact ⟨kept.routes, kept.numbers⟩
  · exact ⟨fun _ => meets.routes, fun _ => meets.numbers⟩

/-- Replies on slots of their own are at most four. -/
theorem replyQueue_length_le {s : State} (h : s.RepliesHoldSlots) : s.replyQueue.length ≤ 4 := by
  obtain ⟨nodup, held⟩ := h
  have sub : s.replySlots.toFinset ⊆ (Finset.range 4).image some := fun x hx => by
    obtain ⟨j, -, rfl, hj, -⟩ := held x (List.mem_toFinset.mp hx)
    simp [hj]
  have count := (Finset.card_le_card sub).trans Finset.card_image_le
  rw [List.toFinset_card_of_nodup nodup, Finset.card_range] at count
  have : s.replyQueue.length ≤ s.replySlots.length := by simp [State.replySlots]
  omega

/-- Settles O57: every step keeps each formed reply on a slot of its own, and an idle transmitter without waiting frames. -/
theorem stepKeepsRepliesHoldSlots : Obligations.StepKeepsRepliesHoldSlots := by
  intro s t run
  have slots : s.RepliesHoldSlots → t.RepliesHoldSlots := by
    rcases step_lawsKept run with kept | meets
    · exact kept.replies
    · exact fun _ => meets.replies
  refine ⟨fun h => ⟨slots h, replyQueue_length_le (slots h)⟩, ?_⟩
  rcases step_lawsKept run with kept | meets
  · exact kept.idle
  · exact fun _ => meets.idle

/-- Settles O58: every step keeps the failed attempts below the limit and the lockout levels at most 4. -/
theorem stepKeepsAttemptsLawful : Obligations.StepKeepsAttemptsLawful := by
  intro s t lawful run
  rcases step_lawsKept run with kept | meets
  · exact kept.attempts lawful
  · exact meets.attempts

/-- Settles O59: every step keeps the references unique and each group's count equal to its calls. -/
theorem stepKeepsCallsCounted : Obligations.StepKeepsCallsCounted := by
  intro s t counted run
  rcases step_lawsKept run with kept | meets
  · exact kept.counted counted
  · exact meets.counted

/-- Settles O60: the part right after reset meets every law that the steps keep. -/
theorem resetMeetsTheLaws : Obligations.ResetMeetsTheLaws := by
  obtain ⟨capacity, params, ready, routes, numbers, replies, idle, attempts, counted⟩ := afterHardReset_meetsLaws 0
  exact ⟨capacity, params, ready, routes, numbers, replies, idle, attempts, counted⟩

end Sys2Proof.Machine
end

section
/-! PROOFS. The queue of commands and RESET_N (O1, O3), the configuration lock (O54), ALIVE (O50) and the refusals by mode (O52). -/

namespace Sys2Proof.Machine

/-! ### A request that reaches its handler -/

/-- A request of a known kind with a free slot is answered by its handler, and the link puts the answer into the slot. -/
theorem request_answered {kind tag : Byte} {len j : Nat} {take : Handler} {s t : State} {st : Status} {body : List Byte}
    (hs : s.freeSlot = some j) (answer : take s = (t, .now st body))
    (known : len ∈ allowedLengths kind.toNat ∧ (kind ≠ kindAdmitBegin ∧ kind ≠ kindAdmitAnswer) ∧
      replyKind kind = kind + 64 := by decide) :
    (Host.Outcome.next (requestArrives kind tag len take s) : Host.Outcome State Fault Refusal) =
      .next (answered j kind tag st body t) :=
  congrArg Host.Outcome.next (requestArrives_now j kind tag len take s t st body hs known.1 (.inr known.2.1) known.2.2 answer)

/-- An admission request that is not quiet is answered by its handler likewise. -/
theorem admission_answered {kind tag : Byte} {len j : Nat} {take : Handler} {s t : State} {st : Status} {body : List Byte}
    (hs : s.freeSlot = some j) (loud : tag ≠ 0) (answer : take s = (t, .now st body))
    (known : len ∈ allowedLengths kind.toNat ∧ replyKind kind = kind + 64 := by decide) :
    (Host.Outcome.next (requestArrives kind tag len take s) : Host.Outcome State Fault Refusal) =
      .next (answered j kind tag st body t) :=
  congrArg Host.Outcome.next (requestArrives_now j kind tag len take s t st body hs known.1 (.inl loud) known.2 answer)

theorem refuse_eq (st : Status) (s : State) : refuse st s = (s, .now st []) := rfl

theorem accept_eq (s : State) : accept s = (s, .now .ok []) := rfl

/-- A free slot is offered only while RESET_N is not held. -/
theorem resetHeld_of_freeSlot {s : State} {j : Nat} (hs : s.freeSlot = some j) : s.resetHeld = false :=
  (freeSlot_spec s j hs).2.2

theorem unlessHeld_of_running (f : State → State) {s : State} (h : s.resetHeld = false) : unlessHeld f s = f s := by
  simp [unlessHeld, h]

/-! ### The queue and RESET_N -/

/-- Settles O1: the step's own equation for a waiting command. -/
theorem stepTakesFrontCommand : Obligations.StepTakesFrontCommand := by
  intro s c rest waiting
  rw [step, waiting]

theorem unlessHeld_of_held (f : State → State) {s : State} (h : s.resetHeld = true) : unlessHeld f s = s := by
  simp [unlessHeld, h]

theorem requestArrives_of_held (kind tag : Byte) (len : Nat) (h : Handler) {s : State} (held : s.resetHeld = true) :
    requestArrives kind tag len h s = s := by
  simp [requestArrives, takeSlot, State.freeSlot, held, unlessHeld]

/-- While RESET_N is held the part takes no command but the pin (R185). -/
theorem exec_of_held {c : Instr} {s : State} (held : s.resetHeld = true) (noPin : ∀ pin, c ≠ .hardReset pin) :
    exec c s = .next s := by
  have request := fun kind tag len h => congrArg (Host.Outcome.next (φ := Fault) (ρ := Refusal))
    (requestArrives_of_held kind tag len h held)
  have event := fun f => congrArg (Host.Outcome.next (φ := Fault) (ρ := Refusal)) (unlessHeld_of_held f held)
  cases c with
  | hardReset pin => exact absurd rfl (noPin pin)
  | frameReceived bytes => exact event _
  | gapExpiry => exact event _
  | transmitComplete => exact event _
  | framePulse f => exact event _
  | frameReferenceLoss => exact event _
  | frameReferenceRestore f => exact event _
  | challengeCompletion => exact event _
  | checkCompletion => exact event _
  | tieSessionCompletion => exact event _
  | epochCompletion => exact event _
  | jobRetryTick => exact event _
  | huntTimerExpiry leg => exact event _
  | admissionWindowExpiry entry => exact event _
  | lockoutExpiry entry => exact event _
  | interdigitExpiry entry => exact event _
  | graceTimerExpiry call => exact event _
  | silenceTimerExpiry => exact event _
  | _ => exact request _ _ _ _

theorem onPin_of_held {s : State} (held : s.resetHeld = true) (x : Option Byte) : s.onPin x = some 213 := by
  simp only [State.onPin, held, if_true]
  rfl

/-- What every pin carries after the release of a hard reset: the reference is LOST, the idle code its default (R34). -/
theorem onPin_afterHardReset (straps : BitVec 2) (waiting : List Instr) (x : Option Byte) :
    State.onPin { State.afterHardReset straps with pending := waiting } x = some 213 := rfl

theorem readAt_fill_of_lt {α : Type} {n i : Nat} (x d : α) (h : i < n) : readAt (fillTable n x) d i = x := by
  simp [readAt_fillTable, h]

theorem linkRate_eq (straps : BitVec 2) : linkRate straps = [115200, 460800, 921600, 921600].getD straps.toNat 0 := by
  have bound := straps.isLt
  match h : straps.toNat with
  | 0 => simp [linkRate, h]
  | 1 => simp [linkRate, h]
  | 2 => simp [linkRate, h]
  | 3 => simp [linkRate, h]
  | n + 4 => omega

/-- Settles O3: held, every command but the pin leaves the state; released, each record is its table's reset value. -/
theorem hardResetClearsEveryRecord : Obligations.HardResetClearsEveryRecord := by
  intro s
  refine ⟨rfl, fun held => ⟨by simp [State.sending, held], fun c _ => ⟨onPin_of_held held _, onPin_of_held held _⟩,
    fun n => onPin_of_held held _, fun empty => ?_, fun c noPin => exec_of_held held noPin⟩, fun straps => ?_⟩
  · rw [step, empty]
    exact congrArg Host.Outcome.next (unlessHeld_of_held _ held)
  · refine ⟨{ State.afterHardReset straps with pending := s.pending }, rfl, rfl, rfl, linkRate_eq straps, rfl,
      fun j hj => readAt_fill_of_lt _ _ hj, rfl, rfl, rfl, fun b hb => ?_, rfl, rfl, rfl,
      fun c hc => ⟨readAt_fill_of_lt _ _ hc, readAt_fill_of_lt _ _ hc, readAt_fill_of_lt _ _ hc, readAt_fill_of_lt _ _ hc,
        onPin_afterHardReset .., onPin_afterHardReset ..⟩,
      rfl, rfl, rfl, fun k hk => readAt_fill_of_lt _ _ hk, fun i hi => readAt_fill_of_lt _ _ hi, fun c hc => ?_,
      fun n hn => readAt_fill_of_lt _ _ hn, rfl, rfl, fun g hg => readAt_fill_of_lt _ _ hg, rfl, rfl, rfl, rfl, rfl, rfl,
      rfl, rfl⟩
    · exact (BitVec.getLsbD_allOnes (v := 32) (i := b)).trans (decide_eq_true hb)
    · have record : State.classRecord { State.afterHardReset straps with pending := s.pending } c = ClassRecord.atReset :=
        readAt_fill_of_lt _ _ hc
      rw [record]
      exact ⟨rfl, fun v hv => readAt_fill_of_lt _ _ hv⟩

/-! ### Supervision: the lock, ALIVE and the refusals by mode -/

theorem silenceAfterAlive_eq (mode : Mode) (interval : Nat) (t : SilenceTimer) : silenceAfterAlive mode interval t =
    if interval = 0 then t else if mode = .maintenance then .paused (100 * interval) else .running (setFor interval) := by
  cases mode <;> rfl

theorem takeAlive_of_counted {token : Byte} {s : State} (known : token = 60 ∨ token = 195) (new : s.lastToken ≠ some token) :
    takeAlive token s =
      let counted := { s with
        lastToken := some token
        silence := silenceAfterAlive s.mode s.params.silenceInterval s.silence }
      (if s.mode = .standalone then queueReport (.standaloneLeft token) { counted with mode := .normal } else counted,
        .now .ok []) := by
  rw [takeAlive, if_neg (by rcases known with rfl | rfl <;> decide), if_neg new]
  cases mode : s.mode <;> rfl

/-- Settles O50: the three outcomes of ALIVE in the order of its tests. -/
theorem lockAndAlive : Obligations.LockAndAlive := by
  intro s j tag token hs
  refine ⟨request_answered hs rfl, fun not60 not195 => request_answered hs (if_pos ⟨not60, not195⟩),
    fun known again => request_answered hs ?_, fun known new => request_answered hs ?_⟩
  · rw [takeAlive, if_neg (by rcases known with rfl | rfl <;> decide), if_pos again, refuse_eq]
  · rw [takeAlive_of_counted known new, silenceAfterAlive_eq]

theorem allLegsFree_iff (s : State) : s.allLegsFree = true ↔ ∀ k < 48, (s.leg k).use = .free := by
  have isFree : ∀ u : LegUse, u.isFree = true ↔ u = .free := fun u => by cases u <;> simp [LegUse.isFree]
  rw [State.allLegsFree, toList_eq_map_readAt s.legs Leg.atReset]
  simp [List.all_eq_true, isFree, State.leg]

theorem channelOf_inRange {channel : Byte} (h : ChannelOrNone channel) : ¬ 127 < (channelOf channel).getD 0 := by
  rcases h with h | rfl
  · unfold channelOf
    split
    · decide
    · exact Nat.not_lt.mpr h
  · decide

/-- Settles O52: in each mode the handler's test of the mode is the first that its operands do not pass. -/
theorem modeRefusals : Obligations.ModeRefusals := by
  intro s j tag entry first second value hs inRange digit
  refine ⟨fun mode => ⟨fun loud => admission_answered hs loud ?_, request_answered hs ?_,
      fun ref a b t named inA inB => request_answered hs ?_, request_answered hs ?_⟩,
    fun mode => ⟨fun loud => ⟨admission_answered hs loud ?_, admission_answered hs loud ?_⟩, request_answered hs ?_,
      request_answered hs ?_, request_answered hs ?_, request_answered hs ?_⟩,
    fun mode standing => request_answered hs ?_,
    fun mode => ⟨request_answered hs ?_, fun channel key => request_answered hs ?_⟩⟩
  · rw [takeAdmitBegin, if_neg (by omega), if_pos mode, refuseEntry]
  · rw [takeDialStart, if_neg (by omega), if_pos mode, refuse_eq]
  · rw [takeAnswer, if_neg (by
      rintro (h | h | h)
      exacts [named h, channelOf_inRange inA h, channelOf_inRange inB h]), if_pos mode, refuse_eq]
  · rw [takeMaintEnter, if_pos mode, refuse_eq]
  · rw [takeAdmitBegin, if_neg (by omega), if_neg (by simp [mode]), if_pos mode, refuseEntry]
  · rw [takeAdmitAnswer, if_neg (by omega), if_pos mode, refuseEntry]
  · rw [takeDialStart, if_neg (by omega), if_neg (by simp [mode]), if_pos mode, refuse_eq]
  · rw [takeDigit, if_neg (by omega), if_pos mode, refuse_eq]
  · rw [takeDialAbort, if_neg (by omega), if_pos mode, refuse_eq]
  · rw [takeMaintEnter, if_neg (by simp [mode]), if_pos mode, refuse_eq]
  · have occupied : s.calls ≠ [] ∨ (!s.allLegsFree) = true := standing.imp id fun ⟨k, hk, held⟩ => by
      rw [Bool.not_eq_true', ← Bool.not_eq_true, allLegsFree_iff]
      exact fun free => held (free k hk)
    rw [takeMaintEnter, if_neg (by simp [mode]), if_neg (by simp [mode]), if_pos occupied, refuse_eq]
  · rw [takeMaintExit, if_pos mode, refuse_eq]
  · rw [takeLoopStart, if_pos mode, refuse_eq]

theorem writeRouteLength_of_wellFormed {f : RouteFields} (h : f.wellFormed = true) : writeRouteLength f = 45 := by
  simp only [RouteFields.wellFormed, DigitsField.wellFormed, Bool.and_eq_true, beq_iff_eq] at h
  obtain ⟨⟨low, high⟩, insert⟩ := h
  simp [writeRouteLength, low, high, insert]

/-- Settles O54: the guarded requests test the lock before all but their index and identifier; that nothing but a hard reset
takes a mark back is a part of what every command keeps. -/
theorem lockHolds : Obligations.LockHolds := by
  refine ⟨fun s j tag a b c bytes f key value start hs lock mode => ?_, fun c s t run noReset => ?_⟩
  · have locked := lockRefuses_of_locked s lock mode
    refine ⟨fun length => ?_, fun wellFormed => ?_, request_answered hs (if_pos locked),
      fun d => request_answered hs (if_pos locked), fun inRange => request_answered hs ?_, request_answered hs (if_pos locked),
      fun inRange => request_answered hs ?_⟩
    · exact request_answered hs (if_pos locked) ⟨by rw [length]; decide, by decide, rfl⟩
    · exact request_answered hs (if_pos locked) ⟨by rw [writeRouteLength_of_wellFormed wellFormed]; decide, by decide, rfl⟩
    · rw [takeSetTieKey, if_neg (by omega), if_pos locked, refuse_eq]
    · rw [takeSetParam, if_neg (by omega), if_pos locked, refuse_eq]
  · have kept := exec_lawsKept run noReset
    exact ⟨kept.lock, kept.deviceKeyUsed, kept.silenceUsed, kept.strapCode, kept.tieKeyUsed⟩

end Sys2Proof.Machine
end

section
/-! PROOFS. The control mode changes only at its events (O53). -/

namespace Sys2Proof.Machine

/-! ### What changes the control mode -/

/-- An owning block's answer leaves the control mode, with what it does after the reply is formed. -/
def ModeKept (s : State) (r : State × Answer) : Prop :=
  r.1.mode = s.mode ∧ ∀ st body rest, r.2 = .nowThen st body rest → ∀ u : State, (rest u).mode = u.mode

namespace ModeKept

theorem now {s t : State} (st : Status) (body : List Byte) (h : t.mode = s.mode) : ModeKept s (t, .now st body) :=
  ⟨h, fun _ _ _ e => by cases e⟩

theorem later {s t : State} (i : Nat) (h : t.mode = s.mode) : ModeKept s (t, .deferred i) := ⟨h, fun _ _ _ e => by cases e⟩

theorem refuse (st : Status) (s : State) : ModeKept s (refuse st s) := now _ _ rfl

/-- A test that refuses, or goes on to what keeps the mode. -/
theorem test {s : State} {c : Prop} [Decidable c] {st : Status} {b : State × Answer} (hb : ModeKept s b) :
    ModeKept s (if c then Machine.refuse st s else b) := by
  split
  · exact refuse _ s
  · exact hb

theorem testEntry {s : State} {c : Prop} [Decidable c] {st : Status} {entry : Word} {b : State × Answer}
    (hb : ModeKept s b) : ModeKept s (if c then Machine.refuseEntry st entry s else b) := by
  split
  · exact now _ _ rfl
  · exact hb

end ModeKept

theorem enrollRecords_modeKept (done : Nat) (records : List EnrollRecord) (s : State) :
    ModeKept s (enrollRecords done records s) := by
  induction records generalizing done s with
  | nil => exact .now _ _ rfl
  | cons r rest ih =>
    unfold enrollRecords
    split
    · exact .now _ _ rfl
    · split
      · exact .now _ _ rfl
      · obtain ⟨mode, after⟩ := ih (done + 1) (s.setEntry _ (enrolledEntry s.mode (s.entry _) _))
        exact ⟨mode, after⟩

theorem barEntry_mode (i : Nat) (s : State) : (barEntry i s).mode = s.mode := by
  unfold barEntry
  dsimp only
  split <;> simp

theorem takeReadExtension_modeKept (name : ExtensionName) (s : State) : ModeKept s (takeReadExtension name s) := by
  unfold takeReadExtension
  split
  · exact .test (.now _ _ rfl)
  · split
    · exact .refuse _ s
    · split
      · exact .refuse _ s
      · exact .now _ _ rfl

theorem takeAdmitBegin_modeKept (entry : Word) (s : State) : ModeKept s (takeAdmitBegin entry s) := by
  refine .testEntry (.testEntry (.testEntry (.testEntry (.testEntry ?_))))
  split
  · exact .now _ _ rfl
  · exact .testEntry (.later _ rfl)

theorem takeAdmitAnswer_modeKept (entry first second : Word) (s : State) :
    ModeKept s (takeAdmitAnswer entry first second s) := by
  refine .testEntry (.testEntry (.testEntry (.testEntry ?_)))
  split
  · exact .later _ rfl
  · exact .now _ _ rfl

theorem takeWithdraw_modeKept (entry : Word) (s : State) : ModeKept s (takeWithdraw entry s) :=
  .test (.test ⟨rfl, fun _ _ _ e u => by cases e; simp⟩)

theorem takeDigit_modeKept (entry : Word) (value : Byte) (s : State) : ModeKept s (takeDigit entry value s) := by
  refine .test (.test (.test ?_))
  dsimp only
  split
  · unfold decideCall
    split
    · exact .now _ _ (by simp)
    · exact .now _ _ (by simp)
  · exact .now _ _ (by simp)
  · exact .now _ _ (by simp)

theorem takeWriteClass_modeKept (cls limit : Byte) (legalities : List Byte) (s : State) :
    ModeKept s (takeWriteClass cls limit legalities s) := by
  refine .test (.test ?_)
  split
  · exact .refuse _ s
  · exact .now _ _ rfl

theorem takeWriteRoute_modeKept (route : Byte) (fields : RouteFields) (s : State) :
    ModeKept s (takeWriteRoute route fields s) := by
  refine .test (.test ?_)
  split
  · exact .refuse _ s
  · exact .test (.now _ _ rfl)

theorem takeAnswer_modeKept (ref : Word) (a b : Byte) (t : Long) (s : State) : ModeKept s (takeAnswer ref a b t s) := by
  refine .test (.test ?_)
  split
  · exact .refuse _ s
  · refine .test ?_
    split
    · exact .refuse _ s
    · dsimp only
      split
      · exact .refuse _ s
      · exact .now _ _ (by simp)

theorem takeHold_modeKept (entry : Word) (s : State) : ModeKept s (takeHold entry s) := by
  refine .test (.test ?_)
  split
  · exact .refuse _ s
  · exact .test (.now _ _ rfl)

theorem takeRetrieve_modeKept (entry : Word) (s : State) : ModeKept s (takeRetrieve entry s) := by
  refine .test (.test ?_)
  split
  · exact .refuse _ s
  · split
    · exact .now _ _ rfl
    · exact .refuse _ s

theorem takeSwap_modeKept (entry : Word) (s : State) : ModeKept s (takeSwap entry s) := by
  refine .test (.test ?_)
  split
  · exact .now _ _ rfl
  · exact .refuse _ s

theorem takeEnd_modeKept (ref : Word) (s : State) : ModeKept s (takeEnd ref s) := by
  refine .test ?_
  split
  · exact .refuse _ s
  · exact .now _ _ (by simp)

theorem takeReadCall_modeKept (ref : Word) (s : State) : ModeKept s (takeReadCall ref s) := by
  refine .test ?_
  split
  · exact .refuse _ s
  · exact .now _ _ rfl

theorem takeWriteGroup_modeKept (group kind tieEnd budget : Byte) (s : State) :
    ModeKept s (takeWriteGroup group kind tieEnd budget s) := by
  refine .test (.test ?_)
  split
  · exact .test (.test (.now _ _ rfl))
  · exact .refuse _ s

theorem takeLoopStart_modeKept (channel : Byte) (key : Key) (s : State) : ModeKept s (takeLoopStart channel key s) := by
  refine .test (.test (.test (.test ?_)))
  split
  · exact .refuse _ s
  · exact .now _ _ (by simp)

theorem takeSetParam_modeKept (identifier : Byte) (value : Word) (s : State) :
    ModeKept s (takeSetParam identifier value s) := by
  refine .test (.test (.test (.test (.now _ _ ?_))))
  unfold afterParam
  (repeat' split) <;> rfl

/-- A request leaves the mode, or leaves it as its handler does. -/
theorem requestArrives_mode (kind tag : Byte) (len : Nat) {h : Handler} {s : State}
    (after : ∀ st body rest, (h s).2 = .nowThen st body rest → ∀ u : State, (rest u).mode = u.mode) :
    (requestArrives kind tag len h s).mode = s.mode ∨ (requestArrives kind tag len h s).mode = (h s).1.mode := by
  have settled : ∀ r : State × Answer, (∀ st body rest, r.2 = .nowThen st body rest → ∀ u : State, (rest u).mode = u.mode) →
      ∀ j, (settleRequest j kind tag r).mode = r.1.mode := fun r after j => by
    have immediate : ∀ st body u, (settleNow j kind tag st body u).mode = u.mode := fun st body u => by
      unfold settleNow
      (repeat' split) <;> simp
    unfold settleRequest
    split
    · rfl
    · exact immediate _ _ _
    next st body rest e => rw [after st body rest e, immediate]
  unfold requestArrives takeSlot
  split
  · exact .inl (by unfold unlessHeld; split <;> simp)
  · unfold linkTests
    split
    · exact .inl (settled _ (by simp [refuse]) _)
    · split
      · exact .inl (settled _ (by simp [refuse]) _)
      · exact .inr (settled _ after _)

theorem ModeKept.requestArrives {h : Handler} {s : State} (kept : ModeKept s (h s)) (kind tag : Byte) (len : Nat) :
    (requestArrives kind tag len h s).mode = s.mode :=
  (requestArrives_mode kind tag len kept.2).elim id (fun e => e.trans kept.1)

theorem unlessHeld_mode {f : State → State} {s : State} (h : (f s).mode = s.mode) : (unlessHeld f s).mode = s.mode := by
  unfold unlessHeld
  split
  · rfl
  · exact h

/-! ### The commands that change it -/

theorem takeAlive_mode (token : Byte) (s : State) :
    (takeAlive token s).1.mode = s.mode ∨ s.mode = .standalone ∧ (takeAlive token s).1.mode = .normal := by
  unfold takeAlive
  split
  · exact .inl rfl
  · split
    · exact .inl rfl
    · dsimp only
      split
      next standalone => exact .inr ⟨standalone, by simp [accept]⟩
      next => exact .inl rfl

theorem takeAlive_after (token : Byte) (s : State) (st : Status) (body : List Byte) (rest : State → State) :
    (takeAlive token s).2 ≠ .nowThen st body rest := by
  unfold takeAlive
  (repeat' split) <;> simp [refuse, accept]

theorem takeMaintEnter_mode (s : State) :
    (takeMaintEnter s).1.mode = s.mode ∨ s.mode = .normal ∧ (takeMaintEnter s).1.mode = .maintenance := by
  unfold takeMaintEnter
  split
  · exact .inl rfl
  next notStandalone =>
    split
    · exact .inl rfl
    next notMaintenance =>
      split
      · exact .inl rfl
      · refine .inr ⟨?_, by simp⟩
        cases mode : s.mode <;> simp_all

theorem takeMaintEnter_after (s : State) (st : Status) (body : List Byte) (rest : State → State) :
    (takeMaintEnter s).2 ≠ .nowThen st body rest := by
  unfold takeMaintEnter
  (repeat' split) <;> simp [refuse]

theorem takeMaintExit_mode (s : State) :
    (takeMaintExit s).1.mode = s.mode ∨ s.mode = .maintenance ∧ (takeMaintExit s).1.mode = .normal := by
  unfold takeMaintExit
  split
  · exact .inl rfl
  next maintenance => exact .inr ⟨by simpa using maintenance, rfl⟩

theorem takeMaintExit_after (s : State) (st : Status) (body : List Byte) (rest : State → State) :
    (takeMaintExit s).2 ≠ .nowThen st body rest := by
  unfold takeMaintExit
  split <;> simp [refuse]

theorem takeRestart_mode (s : State) :
    (takeRestart s).1.mode = s.mode ∨ s.mode = .standalone ∧ (takeRestart s).1.mode = .normal := by
  cases mode : s.mode <;> simp [takeRestart, restartRecords, mode, modeAfterRestart]

theorem enterStandalone_mode (s : State) :
    (enterStandalone s).mode = s.mode ∨ s.mode = .normal ∧ (enterStandalone s).mode = .standalone := by
  unfold enterStandalone
  split
  next normal => exact .inr ⟨normal.1, by simp⟩
  next => exact .inl rfl

/-- A request whose handler moves the mode in one way alone moves it in that way alone. -/
theorem requestArrives_moves {kind tag : Byte} {len : Nat} {h : Handler} {s : State} {a b : Mode}
    (moves : (h s).1.mode = s.mode ∨ s.mode = a ∧ (h s).1.mode = b)
    (after : ∀ st body rest, (h s).2 = .nowThen st body rest → ∀ u : State, (rest u).mode = u.mode)
    (changed : (requestArrives kind tag len h s).mode ≠ s.mode) :
    s.mode = a ∧ (requestArrives kind tag len h s).mode = b := by
  have handled := (requestArrives_mode kind tag len after).resolve_left changed
  rw [handled] at changed ⊢
  exact moves.resolve_left changed

/-- Settles O53: each command but six keeps the mode; those six move it as their handlers do. -/
theorem modeChangesOnlyAtItsEvents : Obligations.ModeChangesOnlyAtItsEvents := by
  intro c s t run noFrame changed
  cases c with
  | silenceTimerExpiry =>
    cases run
    refine .inl ⟨rfl, ?_⟩
    have running : s.resetHeld = false := by
      by_contra held
      exact changed (congrArg State.mode (unlessHeld_of_held enterStandalone (by simpa using held)))
    rw [unlessHeld_of_running enterStandalone running] at changed ⊢
    exact (enterStandalone_mode s).resolve_left changed
  | alive tag token =>
    cases run
    exact .inr (.inl ⟨⟨tag, token, rfl⟩, requestArrives_moves (takeAlive_mode token s)
      (fun st body rest e => absurd e (takeAlive_after token s st body rest)) changed⟩)
  | restart tag =>
    cases run
    exact .inr (.inr (.inl ⟨⟨tag, rfl⟩, requestArrives_moves (takeRestart_mode s)
      (fun st body rest e u => by cases e; simp) changed⟩))
  | maintEnter tag =>
    cases run
    exact .inr (.inr (.inr (.inl ⟨⟨tag, rfl⟩, requestArrives_moves (takeMaintEnter_mode s)
      (fun st body rest e => absurd e (takeMaintEnter_after s st body rest)) changed⟩)))
  | maintExit tag =>
    cases run
    exact .inr (.inr (.inr (.inr (.inl ⟨⟨tag, rfl⟩, requestArrives_moves (takeMaintExit_mode s)
      (fun st body rest e => absurd e (takeMaintExit_after s st body rest)) changed⟩))))
  | hardReset pin =>
    cases pin with
    | held => cases run; exact absurd rfl changed
    | released straps => cases run; exact .inr (.inr (.inr (.inr (.inr ⟨⟨straps, rfl⟩, rfl⟩))))
  | frameReceived bytes => exact absurd rfl (noFrame bytes)
  | enroll tag records => cases run; exact absurd ((enrollRecords_modeKept 0 records s).requestArrives ..) changed
  | setSecret tag entry secret =>
    cases run
    have kept : ModeKept s (takeSetSecret entry secret s) := .test (.test (.test (.test (.now _ _ rfl))))
    exact absurd (kept.requestArrives ..) changed
  | remove tag entry =>
    cases run
    have kept : ModeKept s (takeRemove entry s) := .test (.test (.test (.now _ _ rfl)))
    exact absurd (kept.requestArrives ..) changed
  | setClass tag entry cls =>
    cases run
    have kept : ModeKept s (takeSetClass entry cls s) := .test (.test (.test (.now _ _ rfl)))
    exact absurd (kept.requestArrives ..) changed
  | bar tag entry =>
    cases run
    have kept : ModeKept s (takeBar entry s) := .test (.test (.now _ _ (barEntry_mode _ s)))
    exact absurd (kept.requestArrives ..) changed
  | unbar tag entry =>
    cases run
    have kept : ModeKept s (takeUnbar entry s) := .test (.test (.now _ _ rfl))
    exact absurd (kept.requestArrives ..) changed
  | readExtension tag name => cases run; exact absurd ((takeReadExtension_modeKept _ s).requestArrives ..) changed
  | admitBegin tag entry => cases run; exact absurd ((takeAdmitBegin_modeKept _ s).requestArrives ..) changed
  | admitAnswer tag entry first second => cases run; exact absurd ((takeAdmitAnswer_modeKept _ _ _ s).requestArrives ..) changed
  | clearLockout tag entry =>
    cases run
    have kept : ModeKept s (takeClearLockout entry s) := .test (.test (.now _ _ (by simp)))
    exact absurd (kept.requestArrives ..) changed
  | withdraw tag entry => cases run; exact absurd ((takeWithdraw_modeKept _ s).requestArrives ..) changed
  | dialStart tag entry =>
    cases run
    have kept : ModeKept s (takeDialStart entry s) := .test (.test (.test (.test (.test (.now _ _ rfl)))))
    exact absurd (kept.requestArrives ..) changed
  | digit tag entry value => cases run; exact absurd ((takeDigit_modeKept _ _ s).requestArrives ..) changed
  | dialAbort tag entry =>
    cases run
    have kept : ModeKept s (takeDialAbort entry s) := .test (.test (.test (.now _ _ rfl)))
    exact absurd (kept.requestArrives ..) changed
  | writeClass tag cls limit legalities => cases run; exact absurd ((takeWriteClass_modeKept _ _ _ s).requestArrives ..) changed
  | readClass tag cls =>
    cases run
    have kept : ModeKept s (takeReadClass cls s) := .test (.now _ _ rfl)
    exact absurd (kept.requestArrives ..) changed
  | writeRoute tag route fields => cases run; exact absurd ((takeWriteRoute_modeKept _ _ s).requestArrives ..) changed
  | clearRoute tag route =>
    cases run
    have kept : ModeKept s (takeClearRoute route s) := .test (.test (.now _ _ rfl))
    exact absurd (kept.requestArrives ..) changed
  | readRoute tag route =>
    cases run
    have kept : ModeKept s (takeReadRoute route s) := .test (.now _ _ rfl)
    exact absurd (kept.requestArrives ..) changed
  | answer tag call a b t => cases run; exact absurd ((takeAnswer_modeKept _ _ _ _ s).requestArrives ..) changed
  | hold tag entry => cases run; exact absurd ((takeHold_modeKept _ s).requestArrives ..) changed
  | retrieve tag entry => cases run; exact absurd ((takeRetrieve_modeKept _ s).requestArrives ..) changed
  | swap tag entry => cases run; exact absurd ((takeSwap_modeKept _ s).requestArrives ..) changed
  | endCall tag call => cases run; exact absurd ((takeEnd_modeKept _ s).requestArrives ..) changed
  | readCall tag call => cases run; exact absurd ((takeReadCall_modeKept _ s).requestArrives ..) changed
  | writeGroup tag group kind tieEnd budget =>
    cases run
    exact absurd ((takeWriteGroup_modeKept _ _ _ _ s).requestArrives ..) changed
  | setTieKey tag group key =>
    cases run
    have kept : ModeKept s (takeSetTieKey group key s) := .test (.test (.test (.test (.now _ _ rfl))))
    exact absurd (kept.requestArrives ..) changed
  | readGroup tag group =>
    cases run
    have kept : ModeKept s (takeReadGroup group s) := .test (.now _ _ rfl)
    exact absurd (kept.requestArrives ..) changed
  | loopStart tag channel key => cases run; exact absurd ((takeLoopStart_modeKept _ _ s).requestArrives ..) changed
  | loopStop tag leg =>
    cases run
    have kept : ModeKept s (takeLoopStop leg s) := .test (.test (.now _ _ (by simp)))
    exact absurd (kept.requestArrives ..) changed
  | readLeg tag leg =>
    cases run
    have kept : ModeKept s (takeReadLeg leg s) := .test (.now _ _ rfl)
    exact absurd (kept.requestArrives ..) changed
  | setDeviceKey tag key start =>
    cases run
    have kept : ModeKept s (takeSetDeviceKey key start s) := .test (.test (.test (.now _ _ rfl)))
    exact absurd (kept.requestArrives ..) changed
  | readKeyUnit tag => cases run; exact absurd ((ModeKept.now _ _ rfl : ModeKept s (takeReadKeyUnit s)).requestArrives ..) changed
  | setParam tag identifier value => cases run; exact absurd ((takeSetParam_modeKept _ _ s).requestArrives ..) changed
  | configLock tag => cases run; exact absurd ((ModeKept.now _ _ rfl : ModeKept s (takeConfigLock s)).requestArrives ..) changed
  | readSupervision tag =>
    cases run
    exact absurd ((ModeKept.now _ _ rfl : ModeKept s (takeReadSupervision s)).requestArrives ..) changed
  | reportMask tag mask =>
    cases run
    exact absurd ((ModeKept.now _ _ rfl : ModeKept s (takeReportMask mask s)).requestArrives ..) changed
  | identify tag => cases run; exact absurd ((ModeKept.now _ _ rfl : ModeKept s (takeIdentify s)).requestArrives ..) changed
  | gapExpiry =>
    cases run
    refine absurd (unlessHeld_mode ?_) changed
    unfold expireGap discardFrame
    split <;> simp
  | transmitComplete => cases run; exact absurd (unlessHeld_mode (by simp)) changed
  | framePulse f => cases run; exact absurd (unlessHeld_mode (by simp)) changed
  | frameReferenceLoss => cases run; exact absurd (unlessHeld_mode (by simp)) changed
  | frameReferenceRestore f => cases run; exact absurd (unlessHeld_mode (by simp)) changed
  | challengeCompletion => cases run; exact absurd (unlessHeld_mode (by simp)) changed
  | checkCompletion => cases run; exact absurd (unlessHeld_mode (by simp)) changed
  | tieSessionCompletion => cases run; exact absurd (unlessHeld_mode (by simp)) changed
  | epochCompletion => cases run; exact absurd (unlessHeld_mode (by simp)) changed
  | jobRetryTick => cases run; exact absurd (unlessHeld_mode (by simp)) changed
  | huntTimerExpiry leg => cases run; exact absurd (unlessHeld_mode (by simp)) changed
  | admissionWindowExpiry entry => cases run; exact absurd (unlessHeld_mode (by simp)) changed
  | lockoutExpiry entry => cases run; exact absurd (unlessHeld_mode (by simp)) changed
  | interdigitExpiry entry => cases run; exact absurd (unlessHeld_mode (by simp)) changed
  | graceTimerExpiry call => cases run; exact absurd (unlessHeld_mode (by simp)) changed

end Sys2Proof.Machine
end

section
/-! PROOFS. The control link: the request buffer full (O5), the receiver (O7), its refusals (O8), the transmitter and the line (O9)
and the report mask (O10). -/

namespace Sys2Proof.Machine

/-! ### All slots held -/

/-- A request command is the arrival of its good frame (R166). -/
theorem exec_of_requestFrame {c : Instr} {f : RequestFrame} (request : requestFrame c = some f) :
    ∃ len h, ∀ s, exec c s = .next (requestArrives f.kind f.tag len h s) := by
  cases c <;> cases request <;> exact ⟨_, _, fun _ => rfl⟩

theorem freeSlot_of_all_held {s : State} (held : ∀ j < 4, s.slot j ≠ none) : s.freeSlot = none := by
  cases free : s.freeSlot with
  | none => rfl
  | some j =>
    obtain ⟨hj, empty, -⟩ := freeSlot_spec s j free
    exact absurd empty (held j hj)

/-- Settles O5: without a free slot the link reports the frame discarded and hands nothing on. -/
theorem requestDiscardedWhenFull : Obligations.RequestDiscardedWhenFull := by
  intro c f s running request held
  obtain ⟨len, h, run⟩ := exec_of_requestFrame request
  rw [run, requestArrives, takeSlot, freeSlot_of_all_held held]
  exact congrArg Host.Outcome.next (unlessHeld_of_running _ running)

/-! ### The receiver -/

theorem exec_frameReceived_single {s : State} (running : s.resetHeld = false) (x : LineByte) :
    exec (.frameReceived [x]) s = .next (receiveByte s x) :=
  congrArg Host.Outcome.next (unlessHeld_of_running _ running)

theorem exec_gapExpiry {s : State} (running : s.resetHeld = false) : exec .gapExpiry s = .next (expireGap s) :=
  congrArg Host.Outcome.next (unlessHeld_of_running _ running)

theorem receiveByte_good (s : State) (b : Byte) : receiveByte s ⟨b, true⟩ = receiveGood b s := rfl

theorem receiveByte_fault (s : State) (b : Byte) : receiveByte s ⟨b, false⟩ = receiveFault s := rfl

/-- Settles O7: the receiver's table, one row after another. -/
theorem receiverTakesOneByte : Obligations.ReceiverTakesOneByte := by
  intro s b running
  simp only [exec_frameReceived_single running, exec_gapExpiry running, receiveByte_good, receiveByte_fault,
    Host.Outcome.next.injEq]
  refine ⟨fun r => ?_, fun r low high => ?_, fun r out => ?_, fun len kept r short => ?_, fun len kept r last => ?_,
    fun len kept r bad => ?_, fun len kind tag payload r good => ?_, fun r => ?_, fun r => ?_⟩
  · rw [receiveGood, r]
  · rw [receiveGood, r]
    exact if_pos ⟨low, high⟩
  · rw [receiveGood, r]
    exact if_neg (by omega)
  · rw [receiveGood, r]
    simp only [receiveBody, List.length_append, List.length_singleton, if_neg short]
  · rw [receiveGood, r]
    simp only [receiveBody, List.length_append, List.length_singleton, if_pos last]
  · rw [receiveGood, r]
    exact if_neg bad
  · rw [receiveGood, r]
    exact if_pos good
  · rw [expireGap, receiveFault, r]
    exact ⟨rfl, rfl⟩
  · cases state : s.receiver with
    | waitStart => exact absurd state r
    | length | body _ _ | check _ _ =>
      rw [expireGap, receiveFault, state]
      exact ⟨rfl, rfl⟩

/-! ### The refusals of the link -/

theorem handlerOf_eq_none {kind : Nat} (p : List Byte) (unknown : kind = 0 ∨ 42 < kind) : handlerOf kind p = none := by
  unfold handlerOf
  split
  case h_43 => rfl
  all_goals omega

theorem exists_handlerOf {kind : Nat} (p : List Byte) (low : 1 ≤ kind) (high : kind ≤ 42) : ∃ h, handlerOf kind p = some h := by
  interval_cases kind <;> exact ⟨_, rfl⟩

/-- A quiet request that is refused forms no reply: QUIET_REFUSED tells of it (R169). -/
theorem settleRequest_quiet {j : Nat} {kind : Byte} {st : Status} (body : List Byte) (s : State) (h : quietlyDone st = false) :
    settleRequest j kind 0 (s, .now st body) = queueReport (.quietRefused kind st) s := by
  simp [settleRequest, settleNow, h]

theorem replyKind_of_known {kind : Byte} (low : 1 ≤ kind.toNat) (high : kind.toNat ≤ 63) : replyKind kind = kind + 64 :=
  if_pos ⟨low, high⟩

/-- Settles O8: the link's tests in their order, each a refusal before the owning block is reached. -/
theorem linkRefusals : Obligations.LinkRefusals := by
  intro s j kind tag payload hs
  refine ⟨fun unknown loud => ?_, fun unknown => ?_, fun low high length => ?_, fun quiet => ?_⟩
  · rw [frameArrives, handlerOf_eq_none payload unknown]
    simp only [takeSlot, hs, refuseUnknown, settleRequest, settleNow, if_neg loud, replyKind]
    have same : (1 ≤ kind.toNat ∧ kind.toNat ≤ 63) ↔ (43 ≤ kind.toNat ∧ kind.toNat ≤ 63) := by omega
    simp only [same]
    split <;> rfl
  · rw [frameArrives, handlerOf_eq_none payload unknown]
    simp only [takeSlot, hs, refuseUnknown]
    exact settleRequest_quiet _ s rfl
  · obtain ⟨h, known⟩ := exists_handlerOf payload low high
    simp only [frameArrives, known, requestArrives, takeSlot, hs, linkTests]
    rw [if_pos (by simpa using length)]
    exact settleRequest_now j kind tag .badLength [] s (replyKind_of_known low (by omega))
  · rcases quiet with ⟨rfl, length⟩ | ⟨rfl, length⟩
    · simp only [frameArrives, handlerOf, requestArrives, takeSlot, hs, length]
      exact settleRequest_quiet [] s rfl
    · simp only [frameArrives, handlerOf, requestArrives, takeSlot, hs, length]
      exact settleRequest_quiet [] s rfl

/-! ### The transmitter and the line -/

theorem transmitNext_of_busy {s : State} (busy : s.transmitting ≠ none) : transmitNext s = s := by
  obtain ⟨x, e⟩ := Option.ne_none_iff_exists'.mp busy
  rw [transmitNext, e]

theorem transmitNext_of_reply {s : State} {r : Reply} {rest : List Reply} (idle : s.transmitting = none)
    (oldest : s.replyQueue = r :: rest) :
    transmitNext s = { s with transmitting := some (.reply r), replyQueue := rest } := by
  rw [transmitNext, idle, oldest]

theorem transmitNext_of_report {s : State} {q : QueuedReport} {rest : List QueuedReport} (idle : s.transmitting = none)
    (noReply : s.replyQueue = []) (oldest : s.reportQueue = q :: rest) :
    transmitNext s = { s with transmitting := some (.report q), reportQueue := rest } := by
  rw [transmitNext, idle, noReply, oldest]

theorem transmitNext_of_nothing {s : State} (noReply : s.replyQueue = []) (noReport : s.reportQueue = []) :
    transmitNext s = s := by
  unfold transmitNext
  split
  · rfl
  · simp [noReply, noReport]

/-- What a byte's bits sum to is the byte (R161). -/
theorem byte_of_bits (b : Byte) :
    BitVec.ofNat 8 ((List.range 8).map (fun i => (b.getLsbD i).toNat * 2 ^ i)).sum = b := by
  apply BitVec.eq_of_toNat_eq
  have bound := b.isLt
  simp only [BitVec.getLsbD, Nat.toNat_testBit, List.range, List.range.loop, List.map, List.sum_cons, List.sum_nil,
    BitVec.toNat_ofNat]
  omega

theorem lineBits_eq (b : Byte) : lineBits b = [false, b.getLsbD 0, b.getLsbD 1, b.getLsbD 2, b.getLsbD 3, b.getLsbD 4,
    b.getLsbD 5, b.getLsbD 6, b.getLsbD 7, true] := rfl

theorem lineByteOf_lineBits (b : Byte) : lineByteOf (lineBits b) = some ⟨b, true⟩ := by
  have value := byte_of_bits b
  simpa [lineByteOf, lineBits_eq, List.range, List.range.loop] using value

theorem exec_transmitComplete {s : State} (running : s.resetHeld = false) :
    exec .transmitComplete s = .next (completeTransmission s) :=
  congrArg Host.Outcome.next (unlessHeld_of_running _ running)

theorem completeTransmission_of_busy {s : State} (busy : s.transmitting ≠ none) :
    completeTransmission s = transmitNext (transmissionEnded s) := by
  rw [completeTransmission_eq, if_neg busy]

/-- A report that the mask enables, with a place in the queue, joins it (R172). -/
theorem queueReport_admitted {s : State} {q : Report} (enabled : s.reportMask.getLsbD (q.kind - 128) = true)
    (room : s.reportQueue.length < 32) : queueReport q s =
      transmitNext { s with reportQueue := s.reportQueue ++ [⟨q, s.lostFlag⟩], lostFlag := false } := by
  rw [queueReport, if_pos (show s.reportEnabled q = true from enabled), if_pos (by exact room)]

/-- Settles O9: at a frame's end the transmitter takes what `transmitNext` takes of the state with the slot freed; what is
formed or queued while it is idle with nothing waiting is that one frame. -/
theorem transmitterTakesRepliesFirst : Obligations.TransmitterTakesRepliesFirst := by
  refine ⟨fun s running => ⟨fun idle => ?_, fun x sent => ?_⟩, fun s r q => ?_, fun b => ?_⟩
  · rw [exec_transmitComplete running, completeTransmission_eq, if_pos idle]
  · intro freed
    have busy : s.transmitting ≠ none := by simp [sent]
    have ended : transmissionEnded s = { freed with transmitting := none } := by
      rw [transmissionEnded, sent]
      rcases x with ⟨slot, _, _, _, _⟩ | q
      · cases slot <;> rfl
      · rfl
    have queues : freed.replyQueue = s.replyQueue ∧ freed.reportQueue = s.reportQueue := by
      rcases x with ⟨slot, _, _, _, _⟩ | q
      · cases slot <;> exact ⟨rfl, rfl⟩
      · exact ⟨rfl, rfl⟩
    have next : exec .transmitComplete s = .next (transmitNext { freed with transmitting := none }) := by
      rw [exec_transmitComplete running, completeTransmission_of_busy busy, ended]
    refine ⟨fun r rest oldest => ?_, fun q rest noReply oldest => ?_, fun noReply noReport => ?_⟩
    · exact next.trans (congrArg Host.Outcome.next (transmitNext_of_reply (by rfl) (queues.1.trans oldest)))
    · exact next.trans (congrArg Host.Outcome.next
        (transmitNext_of_report (by rfl) (queues.1.trans noReply) (queues.2.trans oldest)))
    · exact next.trans (congrArg Host.Outcome.next
        (transmitNext_of_nothing (queues.1.trans noReply) (queues.2.trans noReport)))
  · refine ⟨fun idle noReply => ?_, fun busy => transmitNext_of_busy (by exact busy), fun masked => ?_,
      fun enabled => ⟨fun idle noReply noReport => ?_, fun busy room => ?_, fun full => ?_⟩⟩
    · have taken := transmitNext_of_reply (s := { s with replyQueue := s.replyQueue ++ [r] }) (r := r) (rest := []) idle
        (by simp [noReply])
      exact taken.trans (by rw [← noReply])
    · exact if_neg (by simp [State.reportEnabled, masked])
    · have taken := transmitNext_of_report (s := { s with
        reportQueue := s.reportQueue ++ [⟨q, s.lostFlag⟩], lostFlag := false }) (q := ⟨q, s.lostFlag⟩) (rest := [])
        idle noReply (by simp [noReport])
      rw [queueReport_admitted enabled (by simp [noReport]), taken, ← noReport]
    · rw [queueReport_admitted enabled room, transmitNext_of_busy (by exact busy)]
    · rw [queueReport, if_pos (show s.reportEnabled q = true from enabled), if_neg (by simpa [Config.reportCapacity] using full)]
  · exact ⟨rfl, rfl, fun i hi => by interval_cases i <;> rfl, rfl, lineByteOf_lineBits b⟩

/-! ### The report mask -/

/-- The mask of four bytes, the first the least significant. -/
def maskOf (b0 b1 b2 b3 : Byte) : BitVec 32 :=
  BitVec.ofNat 32 (b3.toNat * 16777216 + b2.toNat * 65536 + b1.toNat * 256 + b0.toNat)

/-- A byte within a number, bit by bit. -/
theorem testBit_of_byte {n p b : Nat} {x : Byte} (hx : n / 2 ^ p % 2 ^ 8 = x.toNat) (hb : b < 8) :
    n.testBit (p + b) = x.getLsbD b := by
  rw [BitVec.getLsbD, ← hx, Nat.testBit_mod_two_pow, decide_eq_true hb, Bool.true_and, Nat.testBit_div_two_pow, Nat.add_comm]

theorem maskOf_getLsbD (b0 b1 b2 b3 : Byte) {b : Nat} (hb : b < 8) :
    (maskOf b0 b1 b2 b3).getLsbD b = b0.getLsbD b ∧ (maskOf b0 b1 b2 b3).getLsbD (8 + b) = b1.getLsbD b ∧
      (maskOf b0 b1 b2 b3).getLsbD (16 + b) = b2.getLsbD b ∧ (maskOf b0 b1 b2 b3).getLsbD (24 + b) = b3.getLsbD b := by
  have h0 := b0.isLt
  have h1 := b1.isLt
  have h2 := b2.isLt
  have h3 := b3.isLt
  have bit : ∀ {p : Nat} {x : Byte}, p + b < 32 →
      (b3.toNat * 16777216 + b2.toNat * 65536 + b1.toNat * 256 + b0.toNat) / 2 ^ p % 2 ^ 8 = x.toNat →
      (maskOf b0 b1 b2 b3).getLsbD (p + b) = x.getLsbD b := fun inside hx => by
    rw [maskOf, BitVec.getLsbD_ofNat, testBit_of_byte hx hb]
    simp [inside]
  refine ⟨?_, bit (by omega) (by norm_num; omega), bit (by omega) (by norm_num; omega), bit (by omega) (by norm_num; omega)⟩
  simpa using bit (p := 0) (x := b0) (by omega) (by norm_num; omega)

/-- A byte of a mask as the reply shows it. -/
theorem byteOf_mask (m : BitVec 32) (p : Nat) {x : Byte} (h : ∀ b < 8, m.getLsbD (p + b) = x.getLsbD b) :
    byteOf (m.toNat / 2 ^ p) = x := by
  apply BitVec.eq_of_getLsbD_eq
  intro b hb
  rw [byteOf, BitVec.getLsbD_ofNat, Nat.testBit_div_two_pow, ← h b hb, Nat.add_comm, BitVec.getLsbD]
  simp [hb]

/-- The four bytes of a mask as the reply shows it. -/
theorem maskBytes_eq {m : BitVec 32} {c0 c1 c2 c3 : Byte} (bits : ∀ b < 8, m.getLsbD b = c0.getLsbD b ∧
    m.getLsbD (8 + b) = c1.getLsbD b ∧ m.getLsbD (16 + b) = c2.getLsbD b ∧ m.getLsbD (24 + b) = c3.getLsbD b) :
    [byteOf m.toNat, byteOf (m.toNat / 256), byteOf (m.toNat / 65536), byteOf (m.toNat / 16777216)] = [c0, c1, c2, c3] := by
  have first := byteOf_mask m 0 (x := c0) fun b hb => by simpa using (bits b hb).1
  have second := byteOf_mask m 8 fun b hb => (bits b hb).2.1
  have third := byteOf_mask m 16 fun b hb => (bits b hb).2.2.1
  have fourth := byteOf_mask m 24 fun b hb => (bits b hb).2.2.2
  simp only [Nat.pow_zero, Nat.div_one] at first
  rw [first, ← second, ← third, ← fourth]
  norm_num

/-- The mask that REPORT MASK sets: the one sent, READY enabled. -/
theorem enabledMask_getLsbD (b0 b1 b2 b3 : Byte) {b : Nat} (hb : b < 8) :
    (maskOf b0 b1 b2 b3 ||| 1).getLsbD b = (b0 ||| 1).getLsbD b ∧
      (maskOf b0 b1 b2 b3 ||| 1).getLsbD (8 + b) = b1.getLsbD b ∧
      (maskOf b0 b1 b2 b3 ||| 1).getLsbD (16 + b) = b2.getLsbD b ∧
      (maskOf b0 b1 b2 b3 ||| 1).getLsbD (24 + b) = b3.getLsbD b := by
  obtain ⟨h0, h1, h2, h3⟩ := maskOf_getLsbD b0 b1 b2 b3 hb
  refine ⟨?_, ?_, ?_, ?_⟩ <;> rw [BitVec.getLsbD_or] <;> simp [h0, h1, h2, h3]

/-- Settles O10: the reply's bytes are those of the mask as it is applied. -/
theorem reportMaskReplaced : Obligations.ReportMaskReplaced := by
  intro s j tag b0 b1 b2 b3 hs
  have bits := fun b hb => enabledMask_getLsbD b0 b1 b2 b3 (b := b) hb
  refine ⟨maskOf b0 b1 b2 b3 ||| 1, ?_, ?_, fun b low hb => ?_, fun b hb => ⟨(bits b hb).2.1, (bits b hb).2.2.1, (bits b hb).2.2.2⟩⟩
  · refine request_answered hs ?_ ⟨List.mem_singleton.mpr rfl, by decide, rfl⟩
    rw [← maskBytes_eq bits]
    rfl
  · rw [(bits 0 (by omega)).1]
    simp
  · rw [(bits b hb).1]
    have : b ≠ 0 := by omega
    simp [this]

end Sys2Proof.Machine
end

section
/-! PROOFS. A request received as its frame is the request: the payload reading undoes the payload writing (O6). -/

namespace Sys2Proof.Machine

/-! ### Reading what was written (R189) -/

theorem byteAt_of_drop {p rest : List Byte} {o : Nat} {b : Byte} (h : p.drop o = b :: rest) : byteAt p o = b := by
  have at_o := congrArg (fun l : List Byte => l.getD 0 0) h
  simpa [byteAt, List.getD_eq_getElem?_getD] using at_o

theorem wordAt_of_drop {p rest : List Byte} {o : Nat} {w : Word} (h : p.drop o = wordBytes w.toNat ++ rest) :
    wordAt p o = w := by
  have low : p.drop (o + 1) = byteOf w.toNat :: rest := by
    rw [← List.drop_drop, h]
    rfl
  rw [wordAt, byteAt_of_drop h, byteAt_of_drop low]
  apply BitVec.eq_of_toNat_eq
  have bound := w.isLt
  simp only [byteOf, BitVec.toNat_ofNat]
  omega

theorem longAt_of_drop {p rest : List Byte} {o : Nat} {w : Long} (h : p.drop o = longBytes w.toNat ++ rest) :
    longAt p o = w := by
  have bound := w.isLt
  have high : p.drop o = wordBytes (BitVec.ofNat 16 (w.toNat / 65536)).toNat ++ (byteOf (w.toNat / 256) :: byteOf w.toNat :: rest) := by
    rw [h]
    simp only [longBytes, wordBytes, byteOf, BitVec.toNat_ofNat, List.cons_append, List.nil_append, List.cons.injEq, and_true]
    exact ⟨by congr 1; omega, by congr 1; omega⟩
  have low : p.drop (o + 2) = wordBytes (BitVec.ofNat 16 w.toNat).toNat ++ rest := by
    rw [← List.drop_drop, h]
    simp only [longBytes, wordBytes, byteOf, BitVec.toNat_ofNat, List.cons_append, List.nil_append, List.drop_succ_cons,
      List.drop_zero, List.cons.injEq, and_true]
    constructor <;> apply BitVec.eq_of_toNat_eq <;> simp only [BitVec.toNat_ofNat] <;> omega
  rw [longAt, wordAt_of_drop high, wordAt_of_drop low]
  apply BitVec.eq_of_toNat_eq
  simp only [BitVec.toNat_ofNat]
  omega

theorem keyAt_of_drop {p rest : List Byte} {o : Nat} {k : Key} (h : p.drop o = keyBytes k ++ rest) : keyAt p o = k := by
  have word : ∀ n, p.drop (o + n) = (keyBytes k ++ rest).drop n := fun n => by rw [← List.drop_drop, h]
  rw [keyAt, wordAt_of_drop h, wordAt_of_drop (word 2), wordAt_of_drop (word 4), wordAt_of_drop (word 6)]

theorem digitsAt_of_drop {p rest : List Byte} {o m : Nat} {f : DigitsField} (width : f.bytes.length = m)
    (h : p.drop o = digitsFieldBytes f ++ rest) : digitsAt p o m = f := by
  have bytes : p.drop (o + 1) = f.bytes ++ rest := by
    rw [← List.drop_drop, h]
    rfl
  rw [digitsAt, byteAt_of_drop h, bytes, ← width, List.take_left]

theorem enrollRecordAt_of_drop {p rest : List Byte} {o : Nat} {r : EnrollRecord} (wf : r.wellFormed = true)
    (h : p.drop o = enrollRecordBytes r ++ rest) : enrollRecordAt p o = r := by
  have width : r.number.bytes.length = 6 := by simpa [EnrollRecord.wellFormed, DigitsField.wellFormed] using wf
  have number : p.drop (o + 2) = digitsFieldBytes r.number ++ ([r.cls, r.secure] ++ keyBytes r.secret ++ rest) := by
    rw [← List.drop_drop, h]
    simp [enrollRecordBytes, wordBytes]
  have fields : p.drop (o + 9) = [r.cls, r.secure] ++ keyBytes r.secret ++ rest := by
    rw [show o + 9 = o + 2 + 7 from rfl, ← List.drop_drop, number, List.drop_append_of_le_length (by simp [digitsFieldBytes, width])]
    rw [List.drop_eq_nil_of_le (by simp [digitsFieldBytes, width]), List.nil_append]
  have secure : p.drop (o + 10) = r.secure :: (keyBytes r.secret ++ rest) := by
    rw [show o + 10 = o + 9 + 1 from rfl, ← List.drop_drop, fields]
    rfl
  have secret : p.drop (o + 11) = keyBytes r.secret ++ rest := by
    rw [show o + 11 = o + 9 + 2 from rfl, ← List.drop_drop, fields]
    rfl
  have entry : p.drop o = wordBytes r.entry.toNat ++ (digitsFieldBytes r.number ++ [r.cls, r.secure] ++ keyBytes r.secret ++ rest) := by
    rw [h]
    simp [enrollRecordBytes]
  rw [enrollRecordAt, wordAt_of_drop entry, digitsAt_of_drop width number, byteAt_of_drop fields, byteAt_of_drop secure,
    keyAt_of_drop secret]

theorem drop_enrollRecords {records : List EnrollRecord} (wf : records.all EnrollRecord.wellFormed = true) (n : Nat) :
    (records.flatMap enrollRecordBytes).drop (19 * n) = (records.drop n).flatMap enrollRecordBytes := by
  induction n generalizing records with
  | zero => rfl
  | succ n ih =>
    cases records with
    | nil => simp
    | cons r rest =>
      obtain ⟨first, others⟩ : r.wellFormed = true ∧ rest.all EnrollRecord.wellFormed = true := by
        simpa using wf
      have width := Laws.RequestLength.enrollRecordBytes_length r first
      rw [List.flatMap_cons, show 19 * (n + 1) = (enrollRecordBytes r).length + 19 * n by omega, ← List.drop_drop,
        List.drop_left, ih others, List.drop_succ_cons]

theorem enrollRecordsOf_payload {records : List EnrollRecord} (wf : records.all EnrollRecord.wellFormed = true) :
    enrollRecordsOf (records.flatMap enrollRecordBytes) = records := by
  have length := Laws.RequestLength.enroll_payload_length records wf
  apply List.ext_getElem
  · rw [enrollRecordsOf, List.length_map, List.length_range, length]
    omega
  · intro n h1 h2
    have record : (records.flatMap enrollRecordBytes).drop (19 * n) =
        enrollRecordBytes records[n] ++ (records.drop (n + 1)).flatMap enrollRecordBytes := by
      rw [drop_enrollRecords wf, List.drop_eq_getElem_cons h2, List.flatMap_cons]
    simp only [enrollRecordsOf, List.getElem_map, List.getElem_range]
    exact enrollRecordAt_of_drop (List.all_eq_true.mp wf _ (List.getElem_mem h2)) record

theorem extensionNameOf_payload {name : ExtensionName} (wf : name.wellFormed = true) :
    extensionNameOf (extensionNameBytes name) = name := by
  cases name with
  | byIndex entry => exact congrArg ExtensionName.byIndex (wordAt_of_drop (rest := []) rfl)
  | byNumber number =>
    have width : number.bytes.length = 6 := by simpa [ExtensionName.wellFormed, DigitsField.wellFormed] using wf
    rw [extensionNameOf, if_pos (by simp [extensionNameBytes, digitsFieldBytes, width]),
      digitsAt_of_drop (f := number) (rest := []) width (by simp [extensionNameBytes])]

theorem routeFieldsOf_payload {f : RouteFields} (route : Byte) (wf : f.wellFormed = true) :
    routeFieldsOf (route :: routeFieldBytes f) = f := by
  obtain ⟨⟨lowWidth, highWidth⟩, insertWidth⟩ : (f.low.bytes.length = 16 ∧ f.high.bytes.length = 16) ∧ f.insert.bytes.length = 4 := by
    simpa [RouteFields.wellFormed, DigitsField.wellFormed] using wf
  have low : (route :: routeFieldBytes f).drop 1 = digitsFieldBytes f.low ++ (digitsFieldBytes f.high ++
      ([f.kind, f.destination, f.service, f.secureRequired, f.strip] ++ digitsFieldBytes f.insert)) := by
    simp [routeFieldBytes]
  have high : (route :: routeFieldBytes f).drop 18 = digitsFieldBytes f.high ++
      ([f.kind, f.destination, f.service, f.secureRequired, f.strip] ++ digitsFieldBytes f.insert) := by
    rw [show 18 = 1 + (digitsFieldBytes f.low).length by simp [digitsFieldBytes, lowWidth], ← List.drop_drop, low, List.drop_left]
  have fields : (route :: routeFieldBytes f).drop 35 =
      [f.kind, f.destination, f.service, f.secureRequired, f.strip] ++ digitsFieldBytes f.insert := by
    rw [show 35 = 18 + (digitsFieldBytes f.high).length by simp [digitsFieldBytes, highWidth], ← List.drop_drop, high, List.drop_left]
  have field : ∀ n, (route :: routeFieldBytes f).drop (35 + n) =
      ([f.kind, f.destination, f.service, f.secureRequired, f.strip] ++ digitsFieldBytes f.insert).drop n := fun n => by
    rw [← List.drop_drop, fields]
  rw [routeFieldsOf, digitsAt_of_drop lowWidth low, digitsAt_of_drop highWidth high, byteAt_of_drop fields,
    byteAt_of_drop (field 1), byteAt_of_drop (field 2), byteAt_of_drop (field 3), byteAt_of_drop (field 4),
    digitsAt_of_drop insertWidth (rest := []) (by rw [field 5]; simp)]

theorem enrollLength_payload (records : List EnrollRecord) :
    enrollLength records = (records.flatMap enrollRecordBytes).length := by
  rw [enrollLength, List.length_flatMap]
  congr 1
  refine List.map_congr_left fun r _ => ?_
  simp [enrollRecordBytes, wordBytes, digitsFieldBytes, keyBytes]
  omega

theorem extensionNameLength_payload (name : ExtensionName) : extensionNameLength name = (extensionNameBytes name).length := by
  cases name with
  | byIndex entry => rfl
  | byNumber number => simp [extensionNameLength, extensionNameBytes, digitsFieldBytes, Nat.add_comm]

theorem writeRouteLength_payload (route : Byte) (f : RouteFields) :
    writeRouteLength f = (route :: routeFieldBytes f).length := by
  simp [writeRouteLength, routeFieldBytes, digitsFieldBytes]
  omega

/-! ### A request and its frame -/

/-- A well-formed request's payload is read into the request as its owning block takes it (R190). -/
theorem decode_request {c : Instr} {f : RequestFrame} (wf : c.wellFormed = true) (request : requestFrame c = some f) :
    ∃ h, handlerOf f.kind.toNat f.payload = some h ∧
      ∀ s, exec c s = .next (requestArrives f.kind f.tag f.payload.length h s) := by
  cases c with
  | enroll tag records =>
    cases request
    obtain ⟨-, all⟩ : (1 ≤ records.length ∧ records.length ≤ 4) ∧ records.all EnrollRecord.wellFormed = true := by
      simpa [Instr.wellFormed] using wf
    refine ⟨takeEnroll records, congrArg some ?_, fun s => ?_⟩
    · exact congrArg takeEnroll (enrollRecordsOf_payload all)
    · rw [← enrollLength_payload records]
      rfl
  | readExtension tag name =>
    cases request
    refine ⟨takeReadExtension name, congrArg some ?_, fun s => ?_⟩
    · exact congrArg takeReadExtension (extensionNameOf_payload wf)
    · rw [← extensionNameLength_payload name]
      rfl
  | writeClass tag cls limit legalities =>
    cases request
    refine ⟨takeWriteClass cls limit legalities, rfl, fun s => ?_⟩
    rw [List.length_cons, List.length_cons, Nat.add_assoc, Nat.add_comm]
    rfl
  | writeRoute tag route fields =>
    cases request
    refine ⟨takeWriteRoute route fields, congrArg some ?_, fun s => ?_⟩
    · exact congrArg (takeWriteRoute route) (routeFieldsOf_payload route wf)
    · rw [← writeRouteLength_payload route fields]
      rfl
  | setSecret tag entry secret =>
    cases request
    refine ⟨takeSetSecret entry secret, congrArg some ?_, fun _ => rfl⟩
    rw [wordAt_of_drop (w := entry) rfl, keyAt_of_drop (k := secret) (rest := []) rfl]
  | remove tag entry =>
    cases request
    refine ⟨takeRemove entry, congrArg some ?_, fun _ => rfl⟩
    rw [wordAt_of_drop (w := entry) rfl]
  | setClass tag entry cls =>
    cases request
    refine ⟨takeSetClass entry cls, congrArg some ?_, fun _ => rfl⟩
    rw [wordAt_of_drop (w := entry) rfl, byteAt_of_drop (b := cls) rfl]
  | bar tag entry =>
    cases request
    refine ⟨takeBar entry, congrArg some ?_, fun _ => rfl⟩
    rw [wordAt_of_drop (w := entry) rfl]
  | unbar tag entry =>
    cases request
    refine ⟨takeUnbar entry, congrArg some ?_, fun _ => rfl⟩
    rw [wordAt_of_drop (w := entry) rfl]
  | admitBegin tag entry =>
    cases request
    refine ⟨takeAdmitBegin entry, congrArg some ?_, fun _ => rfl⟩
    rw [wordAt_of_drop (w := entry) rfl]
  | admitAnswer tag entry first second =>
    cases request
    refine ⟨takeAdmitAnswer entry first second, congrArg some ?_, fun _ => rfl⟩
    rw [wordAt_of_drop (w := entry) rfl, wordAt_of_drop (w := first) rfl, wordAt_of_drop (w := second) rfl]
  | clearLockout tag entry =>
    cases request
    refine ⟨takeClearLockout entry, congrArg some ?_, fun _ => rfl⟩
    rw [wordAt_of_drop (w := entry) rfl]
  | withdraw tag entry =>
    cases request
    refine ⟨takeWithdraw entry, congrArg some ?_, fun _ => rfl⟩
    rw [wordAt_of_drop (w := entry) rfl]
  | dialStart tag entry =>
    cases request
    refine ⟨takeDialStart entry, congrArg some ?_, fun _ => rfl⟩
    rw [wordAt_of_drop (w := entry) rfl]
  | digit tag entry value =>
    cases request
    refine ⟨takeDigit entry value, congrArg some ?_, fun _ => rfl⟩
    rw [wordAt_of_drop (w := entry) rfl, byteAt_of_drop (b := value) rfl]
  | dialAbort tag entry =>
    cases request
    refine ⟨takeDialAbort entry, congrArg some ?_, fun _ => rfl⟩
    rw [wordAt_of_drop (w := entry) rfl]
  | readClass tag cls =>
    cases request
    exact ⟨takeReadClass cls, rfl, fun _ => rfl⟩
  | clearRoute tag route =>
    cases request
    exact ⟨takeClearRoute route, rfl, fun _ => rfl⟩
  | readRoute tag route =>
    cases request
    exact ⟨takeReadRoute route, rfl, fun _ => rfl⟩
  | answer tag call channelA channelB tieNumber =>
    cases request
    refine ⟨takeAnswer call channelA channelB tieNumber, congrArg some ?_, fun _ => rfl⟩
    rw [wordAt_of_drop (w := call) rfl, byteAt_of_drop (b := channelA) rfl,
      byteAt_of_drop (b := channelB) rfl, longAt_of_drop (w := tieNumber) (rest := []) rfl]
  | hold tag entry =>
    cases request
    refine ⟨takeHold entry, congrArg some ?_, fun _ => rfl⟩
    rw [wordAt_of_drop (w := entry) rfl]
  | retrieve tag entry =>
    cases request
    refine ⟨takeRetrieve entry, congrArg some ?_, fun _ => rfl⟩
    rw [wordAt_of_drop (w := entry) rfl]
  | swap tag entry =>
    cases request
    refine ⟨takeSwap entry, congrArg some ?_, fun _ => rfl⟩
    rw [wordAt_of_drop (w := entry) rfl]
  | endCall tag call =>
    cases request
    refine ⟨takeEnd call, congrArg some ?_, fun _ => rfl⟩
    rw [wordAt_of_drop (w := call) rfl]
  | readCall tag call =>
    cases request
    refine ⟨takeReadCall call, congrArg some ?_, fun _ => rfl⟩
    rw [wordAt_of_drop (w := call) rfl]
  | writeGroup tag group kind tieEnd budget =>
    cases request
    exact ⟨takeWriteGroup group kind tieEnd budget, rfl, fun _ => rfl⟩
  | setTieKey tag group key =>
    cases request
    refine ⟨takeSetTieKey group key, congrArg some ?_, fun _ => rfl⟩
    rw [byteAt_of_drop (b := group) rfl, keyAt_of_drop (k := key) (rest := []) rfl]
  | readGroup tag group =>
    cases request
    exact ⟨takeReadGroup group, rfl, fun _ => rfl⟩
  | loopStart tag channel key =>
    cases request
    refine ⟨takeLoopStart channel key, congrArg some ?_, fun _ => rfl⟩
    rw [byteAt_of_drop (b := channel) rfl, keyAt_of_drop (k := key) (rest := []) rfl]
  | loopStop tag leg =>
    cases request
    exact ⟨takeLoopStop leg, rfl, fun _ => rfl⟩
  | readLeg tag leg =>
    cases request
    exact ⟨takeReadLeg leg, rfl, fun _ => rfl⟩
  | setDeviceKey tag key counterStart =>
    cases request
    refine ⟨takeSetDeviceKey key counterStart, congrArg some ?_, fun _ => rfl⟩
    rw [keyAt_of_drop (k := key) rfl, longAt_of_drop (w := counterStart) (rest := []) rfl]
  | readKeyUnit tag =>
    cases request
    exact ⟨takeReadKeyUnit, rfl, fun _ => rfl⟩
  | setParam tag identifier value =>
    cases request
    refine ⟨takeSetParam identifier value, congrArg some ?_, fun _ => rfl⟩
    rw [byteAt_of_drop (b := identifier) rfl, wordAt_of_drop (w := value) rfl]
  | configLock tag =>
    cases request
    exact ⟨takeConfigLock, rfl, fun _ => rfl⟩
  | alive tag token =>
    cases request
    exact ⟨takeAlive token, rfl, fun _ => rfl⟩
  | maintEnter tag =>
    cases request
    exact ⟨takeMaintEnter, rfl, fun _ => rfl⟩
  | maintExit tag =>
    cases request
    exact ⟨takeMaintExit, rfl, fun _ => rfl⟩
  | restart tag =>
    cases request
    exact ⟨takeRestart, rfl, fun _ => rfl⟩
  | readSupervision tag =>
    cases request
    exact ⟨takeReadSupervision, rfl, fun _ => rfl⟩
  | reportMask tag mask =>
    cases request
    exact ⟨takeReportMask mask, rfl, fun _ => rfl⟩
  | identify tag =>
    cases request
    exact ⟨takeIdentify, rfl, fun _ => rfl⟩
  | _ => cases request

/-! ### The receiver takes a frame (R163) -/

/-- A byte of a frame on the line, with its stop bit. -/
def onLine (b : Byte) : LineByte := ⟨b, true⟩

theorem receive_body {len : Byte} {bytes kept : List Byte} {s : State} (some_ : bytes ≠ [])
    (length : kept.length + bytes.length = len.toNat) :
    (bytes.map onLine).foldl receiveByte { s with receiver := .body len kept } =
      { s with receiver := .check len (kept ++ bytes) } := by
  induction bytes generalizing kept with
  | nil => exact absurd rfl some_
  | cons b rest ih =>
    rw [List.map_cons, List.foldl_cons]
    simp only [onLine, receiveByte_good, receiveGood, receiveBody]
    rw [List.length_append, List.length_singleton]
    rw [List.length_cons] at length
    cases rest with
    | nil =>
      rw [if_pos (by simpa using length)]
      rfl
    | cons x rest =>
      rw [List.length_cons] at length
      rw [if_neg (by omega), show kept ++ b :: x :: rest = (kept ++ [b]) ++ x :: rest by simp]
      exact ih (kept := kept ++ [b]) (by simp) (by simp; omega)

/-- A frame received byte by byte in WAIT_START arrives. -/
theorem receive_frame {kind tag : Byte} {payload : List Byte} {s : State} (short : payload.length ≤ 248)
    (waiting : s.receiver = .waitStart) :
    receiveBytes ((frameBytes kind tag payload).map onLine) s = frameArrives kind tag payload s := by
  have len : (byteOf (payload.length + 2)).toNat = payload.length + 2 := by
    rw [byteOf, BitVec.toNat_ofNat]
    omega
  have sum : ((byteOf (payload.length + 2) :: kind :: tag :: payload) ++
      [checkByte (byteOf (payload.length + 2) :: kind :: tag :: payload)]).foldl (· + ·) 0 = (0 : Byte) := by
    rw [List.foldl_append, checkByte]
    simp
  have started : receiveByte s ⟨165, true⟩ = { s with receiver := .length } := by
    rw [receiveByte_good, receiveGood, waiting]
    rfl
  have counted : receiveByte { s with receiver := .length } (onLine (byteOf (payload.length + 2))) =
      { s with receiver := .body (byteOf (payload.length + 2)) [] } := by
    change receiveLength (byteOf (payload.length + 2)) _ = _
    rw [receiveLength, if_pos ⟨by omega, by omega⟩]
  have body := receive_body (len := byteOf (payload.length + 2)) (kept := []) (bytes := kind :: tag :: payload) (s := s)
    (by simp) (by simpa using len.symm)
  have checked : receiveByte { s with receiver := .check (byteOf (payload.length + 2)) (kind :: tag :: payload) }
      (onLine (checkByte (byteOf (payload.length + 2) :: kind :: tag :: payload))) =
      frameArrives kind tag payload { s with receiver := .waitStart } := if_pos sum
  rw [List.nil_append] at body
  rw [receiveBytes, frameBytes, List.cons_append, List.map_cons, List.foldl_cons, List.cons_append, List.map_cons,
    List.foldl_cons, List.map_append, List.foldl_append]
  rw [show onLine 165 = ⟨165, true⟩ from rfl, started, counted, body, List.map_singleton, List.foldl_cons, List.foldl_nil, checked,
    ← waiting]

/-- The longest payload is that of an ENROLL of four records (R190). -/
theorem payload_length_le {c : Instr} {f : RequestFrame} (wf : c.wellFormed = true)
    (request : requestFrame c = some f) : f.payload.length ≤ 76 := by
  cases c with
  | enroll tag records =>
    cases request
    obtain ⟨⟨-, four⟩, all⟩ : (1 ≤ records.length ∧ records.length ≤ 4) ∧ records.all EnrollRecord.wellFormed = true := by
      simpa [Instr.wellFormed] using wf
    have length := Laws.RequestLength.enroll_payload_length records all
    exact length.trans_le (by omega)
  | readExtension tag name =>
    cases request
    cases name with
    | byIndex entry => exact Nat.le_of_ble_eq_true rfl
    | byNumber number =>
      have width : number.bytes.length = 6 := by
        simpa [Instr.wellFormed, ExtensionName.wellFormed, DigitsField.wellFormed] using wf
      simp [extensionNameBytes, digitsFieldBytes, width]
  | writeClass tag cls limit legalities =>
    cases request
    have width : legalities.length = 32 := by simpa [Instr.wellFormed] using wf
    simp [width]
  | writeRoute tag route fields =>
    cases request
    exact (writeRouteLength_payload route fields).symm.trans_le (by rw [writeRouteLength_of_wellFormed wf]; decide)
  | reportMask tag mask =>
    cases request
    have width : mask.length = 4 := by simpa [Instr.wellFormed] using wf
    simp [width]
  | _ => cases request <;> exact Nat.le_of_ble_eq_true rfl

/-- Settles O6: the receiver takes the frame's bytes to its kind, tag and payload, and the payload is read as the request. -/
theorem frameReceivedIsItsRequest : Obligations.FrameReceivedIsItsRequest := by
  intro c f s wf request waiting
  obtain ⟨h, known, run⟩ := decode_request wf request
  rw [run s]
  by_cases held : s.resetHeld = true
  · rw [requestArrives_of_held _ _ _ _ held]
    exact congrArg Host.Outcome.next (unlessHeld_of_held _ held)
  · refine congrArg Host.Outcome.next ((unlessHeld_of_running _ (by simpa using held)).trans ?_)
    exact (receive_frame (by have := payload_length_le wf request; omega) waiting).trans (by rw [frameArrives, known])

end Sys2Proof.Machine
end

section
/-! PROOFS. The directory: ENROLL (O11), the writes of one entry (O12) and BAR (O13). -/

namespace Sys2Proof.Machine

/-! ### ENROLL (R81) -/

theorem weakKey_iff (key : Key) : weakKey key = true ↔ key.k3.toNat < 2 := decide_eq_true_iff

theorem not_weakKey {key : Key} (strong : 2 ≤ key.k3.toNat) : ¬ weakKey key = true :=
  fun weak => Nat.not_lt.mpr strong ((weakKey_iff key).mp weak)

theorem enrollLength_of_width {records : List EnrollRecord} (width : ∀ x ∈ records, x.number.bytes.length = 6) :
    enrollLength records = 19 * records.length := by
  induction records with
  | nil => rfl
  | cons r rest ih =>
    have others := ih fun x hx => width x (List.mem_cons_of_mem _ hx)
    simp only [enrollLength, List.map_cons, List.sum_cons, List.length_cons] at others ⊢
    rw [others, width r List.mem_cons_self]
    omega

/-- An ENROLL of one to four records of the width of R190 is answered by its handler. -/
theorem enroll_answered {records : List EnrollRecord} {j : Nat} {tag : Byte} {s t : State} {st : Status} {body : List Byte}
    (hs : s.freeSlot = some j) (width : ∀ x ∈ records, x.number.bytes.length = 6) (low : 1 ≤ records.length)
    (high : records.length ≤ 4) (answer : takeEnroll records s = (t, .now st body)) :
    exec (.enroll tag records) s = .next (answered j 1 tag st body t) := by
  have length := enrollLength_of_width width
  refine request_answered (len := enrollLength records) hs answer ⟨?_, by decide, rfl⟩
  rw [length]
  interval_cases records.length <;> decide

/-- What the range test of a record gives (R81, test 1). -/
def enrollmentFor (r : EnrollRecord) (digits : List Nat) : Enrollment :=
  ⟨r.entry.toNat, digits, r.cls.toNat, r.secure == 1, r.secret⟩

theorem flagOf_eq_some_iff (b : Byte) (v : Bool) : flagOf b = some v ↔ (b = 0 ∨ b = 1) ∧ v = (b == 1) := by
  unfold flagOf
  split
  next zero => subst zero; simp [eq_comm]
  next notZero =>
    split
    next one => subst one; simp [eq_comm]
    next notOne => exact ⟨nofun, fun h => (h.1.elim notZero notOne).elim⟩

theorem enrollmentOf_of_inRange {r : EnrollRecord} {digits : List Nat} (h : RecordInRange r digits) :
    enrollmentOf r = some (enrollmentFor r digits) := by
  obtain ⟨carried, low, high, entry, cls, secure⟩ := h
  have number := (digitsOf_eq_some_iff 3 6 6 r.number digits carried.2.1).mpr ⟨carried, low, high⟩
  have flag := (flagOf_eq_some_iff r.secure _).mpr ⟨secure, rfl⟩
  rw [enrollmentOf, number, flag]
  exact if_pos ⟨entry, cls⟩

theorem enrollmentOf_of_not_inRange {r : EnrollRecord} (width : r.number.bytes.length = 6)
    (h : ¬ ∃ digits, RecordInRange r digits) : enrollmentOf r = none := by
  unfold enrollmentOf
  split
  next number secure numberRead flagRead =>
    refine if_neg fun ⟨entry, cls⟩ => h ⟨number, ?_⟩
    obtain ⟨carried, low, high⟩ := (digitsOf_eq_some_iff 3 6 6 r.number number width).mp numberRead
    exact ⟨carried, low, high, entry, cls, ((flagOf_eq_some_iff _ _).mp flagRead).1⟩
  next => rfl

theorem numberHeld_iff (s : State) (digits : List Nat) : s.NumberHeld digits ↔ (s.lookupNumber digits).isSome = true := by
  rw [← not_iff_not, Bool.not_eq_true, Option.isSome_eq_false_iff, Option.isNone_iff_eq_none, lookupNumber_eq_none]
  simp only [State.NumberHeld, not_exists, not_and]
  exact forall_congr' fun i => ⟨fun h hi => or_iff_not_imp_left.mpr (h hi), fun h hi => or_iff_not_imp_left.mp (h hi)⟩

theorem enrollRecords_cons_of_inRange {r : EnrollRecord} {digits : List Nat} (h : RecordInRange r digits) (done : Nat)
    (rest : List EnrollRecord) (s : State) : enrollRecords done (r :: rest) s =
      match s.enrollRefusal (enrollmentFor r digits) with
      | some st => (s, .now st [byteOf done])
      | none => enrollRecords (done + 1) rest
          (s.setEntry r.entry.toNat (entryEnrolled (s.entry r.entry.toNat) s.mode r digits)) := by
  rw [enrollRecords, enrollmentOf_of_inRange h]
  rfl

/-- What the records do, and their answer, does not depend on the number already enrolled, which is added. -/
theorem enrollRecords_counts (records : List EnrollRecord) (s : State) :
    ∃ st n u, ∀ done, enrollRecords done records s = (u, .now st [byteOf (done + n)]) := by
  induction records generalizing s with
  | nil => exact ⟨.ok, 0, s, fun done => rfl⟩
  | cons r rest ih =>
    cases inRange : enrollmentOf r with
    | none => exact ⟨.badField, 0, s, fun done => by rw [enrollRecords, inRange]; rfl⟩
    | some x =>
      cases refused : s.enrollRefusal x with
      | some st => exact ⟨st, 0, s, fun done => by simp only [enrollRecords, inRange, refused]; rfl⟩
      | none =>
        obtain ⟨st, n, u, h⟩ := ih (s.setEntry x.index (enrolledEntry s.mode (s.entry x.index) x))
        refine ⟨st, n + 1, u, fun done => ?_⟩
        simp only [enrollRecords, inRange, refused]
        rw [h, Nat.add_assoc, Nat.add_comm 1 n]

/-- Settles O11: the first record's tests in their order; past them the rest are enrolled with one more counted. -/
theorem enrollStopsAtFirstRefusal : Obligations.EnrollStopsAtFirstRefusal := by
  intro s j tag r rest hs few width widths
  have all : ∀ x ∈ r :: rest, x.number.bytes.length = 6 := List.forall_mem_cons.mpr ⟨width, widths⟩
  have answer := fun {t st body} => enroll_answered (tag := tag) (t := t) (st := st) (body := body) hs all (by simp) (by simp; omega)
  refine ⟨fun outside => answer ?_, fun digits inRange => ?_⟩
  · rw [takeEnroll, enrollRecords, enrollmentOf_of_not_inRange width outside]
    rfl
  have refusal : ∀ st, s.enrollRefusal (enrollmentFor r digits) = some st →
      exec (.enroll tag (r :: rest)) s = .next (answered j 1 tag st [0] s) := fun st refused => answer (by
    rw [takeEnroll, enrollRecords_cons_of_inRange inRange, refused]
    rfl)
  have passes : (s.entry r.entry.toNat).state = .vacant → ¬ s.NumberHeld digits → 2 ≤ r.secret.k3.toNat →
      s.enrollRefusal (enrollmentFor r digits) = none := fun vacant free strong => by
    rw [numberHeld_iff] at free
    rw [State.enrollRefusal, if_neg (by simpa [enrollmentFor] using vacant), if_neg (by exact free),
      if_neg (by exact not_weakKey strong)]
  refine ⟨fun inUse => refusal _ ?_, fun vacant held => refusal _ ?_, fun vacant free weak => refusal _ ?_,
    fun vacant free strong => ?_, fun vacant free strong more => ?_⟩
  · rw [State.enrollRefusal, if_pos (by exact inUse)]
  · rw [State.enrollRefusal, if_neg (by simpa [enrollmentFor] using vacant), if_pos (by exact (numberHeld_iff s digits).mp held)]
  · rw [numberHeld_iff] at free
    rw [State.enrollRefusal, if_neg (by simpa [enrollmentFor] using vacant), if_neg (by exact free),
      if_pos (by simpa [weakKey, enrollmentFor] using weak)]
  · refine enroll_answered hs (by simpa using width) (by simp) (by simp) ?_
    rw [takeEnroll, enrollRecords_cons_of_inRange inRange, passes vacant free strong]
    rfl
  · obtain ⟨st, n, u, counts⟩ := enrollRecords_counts rest
      (s.setEntry r.entry.toNat (entryEnrolled (s.entry r.entry.toNat) s.mode r digits))
    refine ⟨st, n, u, enroll_answered ((freeSlot_setEntry ..).trans hs) widths (List.length_pos_iff.mpr more) (by omega) ?_,
      answer ?_⟩
    · rw [takeEnroll, counts, Nat.zero_add]
    · rw [takeEnroll, enrollRecords_cons_of_inRange inRange, passes vacant free strong]
      exact (counts _).trans (by rw [Nat.zero_add, Nat.add_comm])

/-! ### SET SECRET, REMOVE, SET CLASS and UNBAR -/

theorem refusesSecret_iff (st : EntryState) :
    st.refusesSecret = true ↔ ¬ (st = .enrolled ∨ st = .lockedOut ∨ st = .barred) := by
  cases st <;> decide

theorem not_refusesSecret {st : EntryState} (h : st = .enrolled ∨ st = .lockedOut ∨ st = .barred) :
    ¬ st.refusesSecret = true := fun refuses => (refusesSecret_iff st).mp refuses h

theorem callee_iff (s : State) (i : Nat) :
    s.calls.any (fun c => c.b == .extension i) = true ↔ ∃ c ∈ s.calls, c.b = .extension i := by
  simp

/-- Settles O12: each request's tests in their order, and past them the one entry written. -/
theorem directoryWrites : Obligations.DirectoryWrites := by
  refine ⟨fun s j tag cls entry secret hs out => ⟨request_answered hs (if_pos out), request_answered hs (if_pos out),
    request_answered hs (if_pos out), request_answered hs (if_pos out)⟩, fun s j tag entry hs inRange => ?_⟩
  have inside : ¬ 511 < entry.toNat := by omega
  refine ⟨fun secret => ⟨fun shut => request_answered hs ?_, fun opened mode used => request_answered hs ?_,
      fun opened free weak => request_answered hs ?_⟩,
    fun cls => ⟨fun out => request_answered hs ?_, fun known vacant => request_answered hs ?_⟩,
    fun other => request_answered hs ?_, fun shut => request_answered hs ?_, fun opened called => request_answered hs ?_,
    fun secret opened free strong => request_answered hs ?_, fun cls known inUse => request_answered hs ?_,
    fun barred => request_answered hs ?_, fun opened uncalled => request_answered hs ?_⟩
  · rw [takeSetSecret, if_neg inside, if_pos ((refusesSecret_iff _).mpr shut), refuse_eq]
  · rw [takeSetSecret, if_neg inside, if_neg (not_refusesSecret opened), if_pos ⟨mode, used⟩, refuse_eq]
  · rw [takeSetSecret, if_neg inside, if_neg (not_refusesSecret opened),
      if_neg (by rcases free with h | h <;> simp [h]), if_pos ((weakKey_iff _).mpr weak), refuse_eq]
  · rw [takeSetClass, if_neg inside, if_pos out, refuse_eq]
  · rw [takeSetClass, if_neg inside, if_neg (by omega), if_pos vacant, refuse_eq]
  · rw [takeUnbar, if_neg inside, if_pos other, refuse_eq]
  · rw [takeRemove, if_neg inside, if_pos ((refusesSecret_iff _).mpr shut), refuse_eq]
  · rw [takeRemove, if_neg inside, if_neg (not_refusesSecret opened), if_pos ((callee_iff _ _).mpr called),
      refuse_eq]
  · rw [takeSetSecret, if_neg inside, if_neg (not_refusesSecret opened),
      if_neg (by rcases free with h | h <;> simp [h]), if_neg (not_weakKey strong), accept_eq]
  · rw [takeSetClass, if_neg inside, if_neg (by omega), if_neg inUse, accept_eq]
  · rw [takeUnbar, if_neg inside, if_neg (by simpa using barred), accept_eq]
  · have free : ¬ ∃ c ∈ s.calls, c.b = .extension entry.toNat := fun ⟨c, hc, e⟩ => uncalled c hc e
    rw [takeRemove, if_neg inside, if_neg (not_refusesSecret opened),
      if_neg (fun h => free ((callee_iff _ _).mp h)), accept_eq]
    rfl

/-! ### BAR -/

/-- A request of another entry, or none, waits for entry `i`: nothing is owed. -/
theorem answerDeferred_of_not_owed {i : Nat} {s : State} (free : ∀ m h, s.slot m = some h → h.awaiting ≠ some i) (kind : Byte)
    (st : Status) (body : List Byte) : answerDeferred kind i st body s = s := by
  rcases answerDeferred_spec kind i st body s with ⟨-, e⟩ | ⟨m, h, -, -, held, -, awaits, -⟩
  · exact e
  · exact absurd awaits (free m h held)

/-- The reply owed to the one request that waits for entry `i` is formed for its slot, which then owes nothing (R170). -/
theorem answerDeferred_of_owed {i m : Nat} {h : HeldRequest} {s : State} (hm : m < 4) (held : s.slot m = some h)
    (awaits : h.awaiting = some i) (alone : ∀ n g, n ≠ m → s.slot n = some g → g.awaiting ≠ some i) (st : Status)
    (body : List Byte) : answerDeferred h.kind i st body s =
      formReply ⟨some m, h.kind + 64, h.tag, st, body⟩ (s.setSlot m (some { h with awaiting := none })) := by
  rcases answerDeferred_spec h.kind i st body s with ⟨owesNone, -⟩ | ⟨n, g, -, -, heldN, -, awaitsN, e⟩
  · have owed := (lowest_eq_none _ none s.requestBuffer).mp owesNone m hm
    rw [show readAt s.requestBuffer none m = some h from held] at owed
    simp [awaits] at owed
  · obtain rfl : n = m := by
      by_contra other
      exact alone n g other heldN awaitsN
    obtain rfl : g = h := Option.some.inj (heldN.symm.trans held)
    exact e

/-- What goes before the removal of an entry's calls, with the entry written out (R103). -/
theorem withdrawalBegun_eq (i : Nat) (why : Reason) (s : State) : withdrawalBegun i why s =
    (queueReport (.withdrawn i why (s.entry i).stack.length) s).setEntry i
      { s.entry i with register := [], screening := false, interdigit := none, sk := none } := by
  by_cases hi : i ≤ 511
  · have same : (queueReport (.withdrawn i why (s.entry i).stack.length) s).entry i = s.entry i := entry_of_directory (by simp) i
    rw [withdrawalBegun]
    dsimp only
    rw [endScreening, entry_setEntry_self _ hi, setEntry_setEntry, same]
  · have past : ∀ (u : State) e, u.setEntry i e = u := fun u e => by
      simp [State.setEntry, writeAt_of_le _ _ _ (show 512 ≤ i by omega)]
    rw [withdrawalBegun]
    dsimp only
    rw [endScreening, past, past, past]

/-- Settles O13: after the tests, the steps of the entry's state. -/
theorem barOutOfService : Obligations.BarOutOfService := by
  intro s j tag entry hs
  refine ⟨fun out => request_answered hs (if_pos out), fun inRange => ?_⟩
  have inside : ¬ 511 < entry.toNat := by omega
  have accepted : ∀ st, (s.entry entry.toNat).state = st → st ≠ .vacant → st ≠ .barred →
      exec (.bar tag entry) s = .next (answered j 5 tag .ok [] (barEntry entry.toNat s)) := fun st now inUse notBarred =>
    request_answered hs (by rw [takeBar, if_neg inside, if_neg (by rw [now]; tauto), accept_eq])
  refine ⟨fun refused => request_answered hs ?_, fun now => ?_, fun now => ?_, fun now free => ?_,
    fun m h now hm held awaits alone => ?_, fun now => ?_⟩
  · rw [takeBar, if_neg inside, if_pos refused, refuse_eq]
  · rw [accepted _ now (by decide) (by decide), barEntry, now]
  · rw [accepted _ now (by decide) (by decide), barEntry, now]
  · rw [accepted _ now (by decide) (by decide), barEntry, now]
    dsimp only
    rw [cancelAdmission, cancelReply, now]
    dsimp only
    rw [answerDeferred_of_not_owed free]
  · have cancelled : barEntry entry.toNat s = (formReply ⟨some m, h.kind + 64, h.tag, .cancelled, wordBytes entry.toNat⟩
        (s.setSlot m (some { h with awaiting := none }))).setEntry entry.toNat
          { s.entry entry.toNat with state := .barred, pending := none, timer := none } := by
      have reply := answerDeferred_of_owed hm held awaits alone .cancelled (wordBytes entry.toNat)
      have entry_ : ∀ r u, (formReply r (s.setSlot m u)).entry entry.toNat = s.entry entry.toNat := fun r u =>
        entry_of_directory (by simp) _
      rcases now with ⟨now, kind⟩ | ⟨now, kind⟩
      · rw [barEntry, now]
        dsimp only
        rw [cancelAdmission, cancelReply, now]
        dsimp only
        rw [show kindAdmitBegin = h.kind from kind.symm, reply, entry_]
      · rw [barEntry, now]
        dsimp only
        rw [cancelAdmission, cancelReply, now]
        dsimp only
        rw [show kindAdmitAnswer = h.kind from kind.symm, reply, entry_]
    have known : (s.entry entry.toNat).state ≠ .vacant ∧ (s.entry entry.toNat).state ≠ .barred := by
      rcases now with ⟨now, -⟩ | ⟨now, -⟩ <;> rw [now] <;> decide
    rw [accepted _ rfl known.1 known.2, cancelled]
  · intro left ended
    rw [accepted _ now (by decide) (by decide), barEntry, now]
    dsimp only
    rw [withdrawEntry_eq, callsEnded, callsWithdrawn, withdrawalBegun_eq]

end Sys2Proof.Machine
end

section
/-! PROOFS. Admission: the requests (O14), the completions (O15, O16, O19), failed attempts (O17) and lockouts (O18). -/

namespace Sys2Proof.Machine

/-- An event reaches the part while RESET_N is not held. -/
theorem event_taken (f : State → State) {s t : State} (running : s.resetHeld = false) (h : f s = t) :
    (Host.Outcome.next (unlessHeld f s) : Host.Outcome State Fault Refusal) = .next t := by
  rw [unlessHeld_of_running f running, h]

theorem ranOut_iff (t : Option TimerCount) : ranOut t = true ↔ HasRunOut t := by
  cases t <;> simp [ranOut]

theorem timerDue_iff (kind : TimerKind) (e : Entry) : e.timerDue kind = true ↔ e.HasRunOut kind := by
  cases timer : e.timer <;> simp [Entry.timerDue, timer]

/-! ### ADMIT BEGIN and ADMIT ANSWER (R91, R93) -/

theorem windowRuns_iff (e : Entry) : e.windowRuns = true ↔ e.state = .challenged ∧ ∃ ticks, e.timer = some ⟨.window, ticks⟩ := by
  rw [Entry.windowRuns, Bool.and_eq_true, beq_iff_eq]
  refine and_congr_right fun _ => ?_
  cases timer : e.timer with
  | none => simp
  | some t =>
    obtain ⟨kind, count⟩ := t
    cases kind <;> simp

/-- An admission request that is not quiet is taken with its reply owed. -/
theorem admission_deferred {kind tag : Byte} {len j i : Nat} {take : Handler} {s t : State} (hs : s.freeSlot = some j)
    (loud : tag ≠ 0) (answer : take s = (t, .deferred i)) (known : len ∈ allowedLengths kind.toNat := by decide) :
    (Host.Outcome.next (requestArrives kind tag len take s) : Host.Outcome State Fault Refusal) =
      .next (deferred j kind tag i t) :=
  congrArg Host.Outcome.next (requestArrives_deferred j kind tag len take s t i hs known (.inl loud) answer)

theorem not_jobPlace {s : State} (full : 32 ≤ s.jobs.length) : (!s.jobPlace) = true := by
  rw [Bool.not_eq_true', ← Bool.not_eq_true, jobPlace_iff]
  omega

theorem jobPlace_of_lt {s : State} (room : s.jobs.length < 32) : ¬ (!s.jobPlace) = true := by
  rw [(jobPlace_iff s).mpr room]
  decide

/-- In NORMAL an entry that is ENROLLED passes the tests of ADMIT BEGIN up to the device key and the queue. -/
theorem takeAdmitBegin_of_key {entry : Word} {s : State} {key : Key} (inRange : entry.toNat ≤ 511) (mode : s.mode = .normal)
    (enrolled : (s.entry entry.toNat).state = .enrolled) (loaded : s.deviceKey = some key) : takeAdmitBegin entry s =
      if !s.jobPlace then refuseEntry .busyKeys entry s
      else
        ({ s.setEntry entry.toNat { s.entry entry.toNat with
            state := .challenged, stamp := (s.entry entry.toNat).stamp + 1, pending := none, timer := none } with
          jobs := s.jobs ++ [.challenge key s.challengeCounter entry.toNat ((s.entry entry.toNat).stamp + 1)]
          challengeCounter := s.challengeCounter + 1 }, .deferred entry.toNat) := by
  rw [takeAdmitBegin, if_neg (by omega), if_neg (by simp [mode]), if_neg (by simp [mode]), if_neg (by simp [enrolled]),
    if_neg (by simp [enrolled])]
  split
  next none => cases none.symm.trans loaded
  next found =>
    cases found.symm.trans loaded
    rfl

theorem takeAdmitBegin_of_noKey {entry : Word} {s : State} (inRange : entry.toNat ≤ 511) (mode : s.mode = .normal)
    (enrolled : (s.entry entry.toNat).state = .enrolled) (noKey : s.deviceKey = none) :
    takeAdmitBegin entry s = (s, .now .noKey (wordBytes entry.toNat)) := by
  rw [takeAdmitBegin, if_neg (by omega), if_neg (by simp [mode]), if_neg (by simp [mode]), if_neg (by simp [enrolled]),
    if_neg (by simp [enrolled])]
  split
  · rfl
  next found => cases noKey.symm.trans found

theorem takeAdmitAnswer_of_full {entry first second : Word} {s : State} (inRange : entry.toNat ≤ 511)
    (mode : s.mode ≠ .maintenance) (runs : (s.entry entry.toNat).windowRuns = true) (full : 32 ≤ s.jobs.length) :
    takeAdmitAnswer entry first second s = (s, .now .busyKeys (wordBytes entry.toNat)) := by
  rw [takeAdmitAnswer, if_neg (by omega), if_neg mode, if_neg (by simp [runs]), if_pos (not_jobPlace full), refuseEntry]

theorem takeAdmitAnswer_of_room {entry first second : Word} {s : State} {secret : Key} {c : Long} (inRange : entry.toNat ≤ 511)
    (mode : s.mode ≠ .maintenance) (runs : (s.entry entry.toNat).windowRuns = true) (room : s.jobs.length < 32)
    (hasSecret : (s.entry entry.toNat).secret = some secret) (hasPending : (s.entry entry.toNat).pending = some c) :
    takeAdmitAnswer entry first second s =
      ({ s.setEntry entry.toNat { s.entry entry.toNat with state := .checking, timer := none } with
        jobs := s.jobs ++ [.check secret c first second entry.toNat (s.entry entry.toNat).stamp] },
        .deferred entry.toNat) := by
  rw [takeAdmitAnswer, if_neg (by omega), if_neg mode, if_neg (by simp [runs]), if_neg (jobPlace_of_lt room)]
  split
  next secretFound pendingFound =>
    cases secretFound.symm.trans hasSecret
    cases pendingFound.symm.trans hasPending
    rfl
  next missing => exact absurd hasPending (missing _ _ hasSecret)

/-- Settles O14: the two requests' tests in their order, and the job each queues. -/
theorem admissionRequestsQueueJobs : Obligations.AdmissionRequestsQueueJobs := by
  refine ⟨fun s j tag entry first second hs loud out => ⟨admission_answered hs loud (if_pos out),
    admission_answered hs loud (if_pos out)⟩, fun s j tag entry hs loud inRange => ?_⟩
  have inside : ¬ 511 < entry.toNat := by omega
  refine ⟨fun mode locked => admission_answered hs loud ?_, fun mode unlocked other => admission_answered hs loud ?_,
    fun mode stopped first second => admission_answered hs loud ?_,
    fun key mode enrolled loaded room => admission_deferred hs loud ?_,
    fun mode enrolled noKey => admission_answered hs loud ?_,
    fun mode enrolled loaded full => admission_answered hs loud ?_,
    fun ticks first second mode challenged window => ?_⟩
  · rw [takeAdmitBegin, if_neg inside, if_neg (by simp [mode]), if_neg (by simp [mode]), if_pos locked, refuseEntry]
  · rw [takeAdmitBegin, if_neg inside, if_neg (by simp [mode]), if_neg (by simp [mode]), if_neg unlocked, if_pos other,
      refuseEntry]
  · have noWindow : ¬ (s.entry entry.toNat).windowRuns = true := fun runs => by
      obtain ⟨now, ticks, timer⟩ := (windowRuns_iff _).mp runs
      exact stopped.elim (fun h => h now) (fun h => h ticks timer)
    rw [takeAdmitAnswer, if_neg inside, if_neg mode, if_pos (by simp [noWindow]), refuseEntry]
  · rw [takeAdmitBegin_of_key inRange mode enrolled loaded, if_neg (jobPlace_of_lt room)]
  · exact takeAdmitBegin_of_noKey inRange mode enrolled noKey
  · obtain ⟨key, loaded⟩ := Option.ne_none_iff_exists'.mp loaded
    rw [takeAdmitBegin_of_key inRange mode enrolled loaded, if_pos (not_jobPlace full), refuseEntry]
  · have runs := (windowRuns_iff (s.entry entry.toNat)).mpr ⟨challenged, ticks, window⟩
    exact ⟨fun secret c hasSecret hasPending room =>
        admission_deferred hs loud (takeAdmitAnswer_of_room inRange mode runs room hasSecret hasPending),
      fun full => admission_answered hs loud (takeAdmitAnswer_of_full inRange mode runs full)⟩

/-! ### The completions (R92, R95, R97) -/

/-- The reply owed for entry `i`, after the entry has been written. -/
theorem answerDeferred_after_setEntry {i m : Nat} {kind tag : Byte} {s : State} (e : Entry) (hm : m < 4)
    (held : s.slot m = some ⟨kind, tag, some i⟩) (alone : ∀ n g, n ≠ m → s.slot n = some g → g.awaiting ≠ some i)
    (st : Status) (body : List Byte) : answerDeferred kind i st body (s.setEntry i e) =
      formReply ⟨some m, kind + 64, tag, st, body⟩ ((s.setEntry i e).setSlot m (some ⟨kind, tag, none⟩)) :=
  answerDeferred_of_owed (h := ⟨kind, tag, some i⟩) (s := s.setEntry i e) hm held rfl alone st body

theorem dropJob_eq {s : State} {j : Job} {rest : List Job} (oldest : s.jobs = j :: rest) :
    dropJob s = { s with jobs := rest } := by
  rw [dropJob, oldest, List.tail_cons]

theorem completeChallenge_of_oldest {s : State} {key : Key} {n : Long} {i : Nat} {stamp : Byte} {rest : List Job}
    (oldest : s.jobs = .challenge key n i stamp :: rest) : completeChallenge s =
      if (s.entry i).stamp = stamp ∧ (s.entry i).state = .challenged then deliverChallenge i key n { s with jobs := rest }
      else { s with jobs := rest } := by
  simp only [completeChallenge, oldest, dropJob_eq oldest, State.expectsChallenge, Bool.and_eq_true, beq_iff_eq]
  rfl

theorem completeCheck_of_oldest {s : State} {secret : Key} {c : Long} {first second : Word} {i : Nat} {stamp : Byte}
    {rest : List Job} (oldest : s.jobs = .check secret c first second i stamp :: rest) : completeCheck s =
      if (s.entry i).stamp = stamp ∧ (s.entry i).state = .checking then
        if answerMatches secret c first second then deliverMatch i (sessionKey secret c) { s with jobs := rest }
        else deliverMismatch i { s with jobs := rest }
      else { s with jobs := rest } := by
  simp only [completeCheck, oldest, dropJob_eq oldest, State.expectsCheck, Bool.and_eq_true, beq_iff_eq]
  rfl

theorem answerMatches_iff (secret : Key) (c : Long) (first second : Word) : answerMatches secret c first second = true ↔
    first = wordOf (generator secret c 2) 0 ∧ second = wordOf (generator secret c 2) 1 := decide_eq_true_iff

/-- Settles O15: the delivery to an entry that expects it, with the reply owed to its one request. -/
theorem challengeDelivered : Obligations.ChallengeDelivered := by
  intro s key n i rest m tag running hi oldest challenged hm held alone w c1 c2
  refine event_taken completeChallenge running ?_
  rw [completeChallenge_of_oldest oldest, if_pos ⟨rfl, challenged⟩]
  exact answerDeferred_after_setEntry (s := { s with jobs := rest }) _ hm held alone .ok _

/-- Settles O16: the delivery of a match to an entry that expects it. -/
theorem checkMatchAdmits : Obligations.CheckMatchAdmits := by
  intro s secret c first second i rest m tag running hi oldest checking hm held alone hfirst hsecond g w
  refine event_taken completeCheck running ?_
  rw [completeCheck_of_oldest oldest, if_pos ⟨rfl, checking⟩, if_pos ((answerMatches_iff ..).mpr ⟨hfirst, hsecond⟩)]
  exact answerDeferred_after_setEntry (s := { s with jobs := rest }) _ hm held alone .admitted _

/-! ### Failed attempts and lockouts (R94, R96 to R100) -/

theorem locksOut_iff (p : Params) (e : Entry) : locksOut p e = true ↔ p.attemptLimit ≤ e.attempts + 1 := decide_eq_true_iff

theorem failedEntry_eq (start : Nat → TimerCount) (p : Params) (e : Entry) : failedEntry start p e =
    if p.attemptLimit ≤ e.attempts + 1 then
      { e with
        state := .lockedOut
        attempts := e.attempts + 1
        level := min (e.level + 1) 4
        pending := none
        timer := some ⟨.lockout, start (p.lockoutBase * 2 ^ e.level)⟩ }
    else { e with state := .enrolled, attempts := e.attempts + 1, pending := none, timer := none } := by
  simp only [failedEntry, locksOut_iff, lockoutSeconds]

theorem reportedLockout_eq (p : Params) (e : Entry) :
    reportedLockout p e = if p.attemptLimit ≤ e.attempts + 1 then p.lockoutBase * 2 ^ e.level else 0 := by
  simp only [reportedLockout, locksOut_iff, lockoutSeconds]

theorem reportLockout_eq (i : Nat) (e : Entry) (s : State) : reportLockout i e s =
    if s.params.attemptLimit ≤ e.attempts + 1 then
      queueReport (.lockoutBegin i (s.params.lockoutBase * 2 ^ e.level) (min (e.level + 1) 4)) s
    else s := by
  simp only [reportLockout, locksOut_iff, lockoutSeconds]

/-- Settles O17: the two failures, each with its report or reply before LOCKOUT_BEGIN. -/
theorem failedAttemptCounts : Obligations.FailedAttemptCounts := by
  intro s i running hi e locks seconds failed told
  refine ⟨fun challenged due => event_taken (expireWindow i) running ?_, fun other => event_taken (expireWindow i) running ?_,
    fun secret c first second rest m tag oldest checking hm held alone wrong => event_taken completeCheck running ?_⟩
  · rw [expireWindow, if_pos ⟨challenged, (timerDue_iff _ _).mpr due⟩, reportLockout_eq, failedEntry_eq, reportedLockout_eq]
    simp only [queueReport_keeps, setEntry_params]
    rfl
  · refine if_neg fun ⟨challenged, due⟩ => ?_
    exact other.elim (fun h => h challenged) (fun h => h ((timerDue_iff _ _).mp due))
  · rw [completeCheck_of_oldest oldest, if_pos ⟨rfl, checking⟩,
      if_neg (fun h => wrong.elim (fun w => w ((answerMatches_iff ..).mp h).1) (fun w => w ((answerMatches_iff ..).mp h).2)),
      deliverMismatch, answerDeferred_after_setEntry (kind := kindAdmitAnswer) (s := { s with jobs := rest }) _ hm held alone,
      reportLockout_eq, failedEntry_eq,
      reportedLockout_eq]
    simp only [formReply_keeps]
    rfl

/-- Settles O18: CLEAR LOCKOUT and the expiry end a lockout by the same steps. -/
theorem lockoutEnds : Obligations.LockoutEnds := by
  refine ⟨fun s j tag entry hs => ⟨fun out => request_answered hs (if_pos out), fun inRange other => request_answered hs ?_⟩,
    fun s j tag entry inRange => ⟨fun hs locked => request_answered hs ?_, fun running locked due => ?_, fun running other => ?_⟩⟩
  · rw [takeClearLockout, if_neg (by omega), if_pos other, refuse_eq]
  · rw [takeClearLockout, if_neg (by omega), if_neg (by simpa using locked), accept_eq]
    rfl
  · exact event_taken (expireLockout entry.toNat) running (if_pos ⟨locked, (timerDue_iff _ _).mpr due⟩)
  · refine event_taken (expireLockout entry.toNat) running (if_neg fun ⟨locked, due⟩ => ?_)
    exact other.elim (fun h => h locked) (fun h => h ((timerDue_iff _ _).mp due))

theorem openLeg_eq_some_iff (s : State) (k : Nat) (o : OpenLeg) :
    s.openLeg? k = some o ↔ ∃ w, (s.leg k).use = .opened w o := by
  rw [State.openLeg?]
  cases use : (s.leg k).use <;> simp [LegUse.opened?]

theorem expectsSession_iff (s : State) (k : Nat) (stamp : Byte) : s.expectsSession k stamp = true ↔
    (s.leg k).stamp = stamp ∧ ∃ r o, (s.leg k).use = .opened (.tieCall r) o ∧ o.sk = none := by
  rw [State.expectsSession, Bool.and_eq_true, Bool.and_eq_true, beq_iff_eq, and_assoc]
  refine and_congr_right fun _ => ?_
  rw [State.openLeg?]
  rcases use : (s.leg k).use with _ | w | ⟨w, o⟩
  · simp [LegUse.isTie, LegUse.owner?, LegUse.opened?]
  · simp [LegUse.opened?]
  · cases w <;> simp [LegUse.isTie, LegUse.owner?, LegUse.opened?, Option.isNone_iff_eq_none]

theorem completeSession_of_oldest {s : State} {key : Key} {t : Long} {k : Nat} {stamp : Byte} {rest : List Job}
    (oldest : s.jobs = .tieSession key t k stamp :: rest) : completeSession s =
      if s.expectsSession k stamp then deliverSession k (tieSessionKey key t) { s with jobs := rest }
      else { s with jobs := rest } := by
  simp only [completeSession, oldest, dropJob_eq oldest]
  rfl

/-- An EPOCH that completes is settled when its direction has it outstanding, and dropped otherwise (R43). -/
theorem completeEpoch_of_outstanding {s : State} {sk : Key} {e : Long} {k : Nat} {d : Direction} {stamp : Byte} {rest : List Job}
    {o : OpenLeg} (oldest : s.jobs = .epoch sk e k d stamp :: rest) (opened : s.openLeg? k = some o)
    (same : (s.leg k).stamp = stamp) (outstanding : (o.keys d).outstanding = true) :
    completeEpoch s = settleEpoch sk e k d o { s with jobs := rest } := by
  have here : State.openLeg? { s with jobs := rest } k = some o := opened
  simp only [completeEpoch, oldest, dropJob_eq oldest, here]
  exact if_pos ⟨same, outstanding⟩

theorem completeEpoch_of_unexpected {s : State} {sk : Key} {e : Long} {k : Nat} {d : Direction} {stamp : Byte} {rest : List Job}
    (oldest : s.jobs = .epoch sk e k d stamp :: rest) (other : ∀ o, s.openLeg? k = some o → (s.leg k).stamp = stamp →
      (o.keys d).outstanding = true → (o.keys d).wanted = none) : completeEpoch s = { s with jobs := rest } := by
  cases opened : s.openLeg? k with
  | none =>
    have here : State.openLeg? { s with jobs := rest } k = none := opened
    simp only [completeEpoch, oldest, dropJob_eq oldest, here]
  | some o =>
    by_cases expected : (s.leg k).stamp = stamp ∧ (o.keys d).outstanding = true
    · rw [completeEpoch_of_outstanding oldest opened expected.1 expected.2, settleEpoch, other o opened expected.1 expected.2]
    · have here : State.openLeg? { s with jobs := rest } k = some o := opened
      simp only [completeEpoch, oldest, dropJob_eq oldest, here]
      exact if_neg expected

/-! ### Results that are no longer expected (R43) -/

/-- Settles O19: each completion whose requester no longer expects it only drops the job. -/
theorem unexpectedResultsDiscarded : Obligations.UnexpectedResultsDiscarded := by
  intro s rest running
  refine ⟨fun key n i stamp oldest other => event_taken completeChallenge running ?_,
    fun secret c first second i stamp oldest other => event_taken completeCheck running ?_,
    fun key t k stamp oldest other => event_taken completeSession running ?_,
    fun sk e k d stamp oldest other => event_taken completeEpoch running ?_⟩
  · rw [completeChallenge_of_oldest oldest, if_neg (fun ⟨h1, h2⟩ => other.elim (fun h => h h1) (fun h => h h2))]
  · rw [completeCheck_of_oldest oldest, if_neg (fun ⟨h1, h2⟩ => other.elim (fun h => h h1) (fun h => h h2))]
  · rw [completeSession_of_oldest oldest, if_neg]
    intro expected
    obtain ⟨same, r, o, use, noKey⟩ := (expectsSession_iff s k stamp).mp expected
    rcases other with h | h | ⟨q, opened, hasKey⟩
    · exact h same
    · exact h r o use
    · obtain ⟨w, useQ⟩ := (openLeg_eq_some_iff s k q).mp opened
      cases useQ.symm.trans use
      exact hasKey noKey
  · refine completeEpoch_of_unexpected oldest fun o opened same outstanding => ?_
    rcases other with h | h | ⟨q, openedQ, h⟩
    · exact absurd same h
    · cases h.symm.trans opened
    · cases openedQ.symm.trans opened
      exact h.elim (fun h => by simp [h] at outstanding) id

end Sys2Proof.Machine
end

section
/-! PROOFS. Classes and routes: WRITE CLASS (O21), WRITE ROUTE (O23) and the walk of the route table (O27). -/

namespace Sys2Proof.Machine

/-! ### The places of a table -/

theorem placesFrom_map_range' {α : Type} (p : α → Bool) (f : Nat → α) (k m : Nat) :
    placesFrom p k ((List.range' k m).map f) = (List.range' k m).filter (fun i => p (f i)) := by
  induction m generalizing k with
  | zero => rfl
  | succ m ih =>
    rw [List.range'_succ, List.map_cons, placesFrom, List.filter_cons, ih]

/-- The places of the records that satisfy a test, as a filter of the indices. -/
theorem places_eq_filter {α : Type} {n : Nat} (p : α → Bool) (d : α) (t : Table α n) :
    places p t = (List.range n).filter (fun i => p (readAt t d i)) := by
  rw [places, toList_eq_map_readAt t d, List.range_eq_range', placesFrom_map_range']

theorem lowest_eq_find {α : Type} {n : Nat} (p : α → Bool) (d : α) (t : Table α n) :
    lowest p t = (List.range n).find? (fun i => p (readAt t d i)) := by
  rw [lowest, places_eq_filter p d, List.head?_filter]

/-! ### The walk (R121) -/

/-- A route is an exact match for the digits collected. -/
def Route.IsExact (r : Route) (digits : List Nat) : Prop :=
  r.low.length = digits.length ∧ digitsValue r.low ≤ digitsValue digits ∧ digitsValue digits ≤ digitsValue r.high

/-- A route is a candidate for the digits collected. -/
def Route.IsCandidate (r : Route) (digits : List Nat) : Prop :=
  digits.length ≤ r.low.length ∧ digitsValue r.low / 10 ^ (r.low.length - digits.length) ≤ digitsValue digits ∧
    digitsValue digits ≤ digitsValue r.high / 10 ^ (r.low.length - digits.length)

theorem exact_iff (r : Route) (digits : List Nat) :
    r.exact digits.length (digitsValue digits) = true ↔ r.IsExact digits := decide_eq_true_iff

theorem candidate_iff (r : Route) (digits : List Nat) :
    r.candidate digits.length (digitsValue digits) = true ↔ r.IsCandidate digits := decide_eq_true_iff

/-- An exact match is a candidate of its own length. -/
theorem Route.IsExact.isCandidate {r : Route} {digits : List Nat} (h : r.IsExact digits) : r.IsCandidate digits := by
  obtain ⟨length, low, high⟩ := h
  refine ⟨length.ge, ?_, ?_⟩ <;> simpa [length]

/-- An exact match and a candidate are routes whose ranges meet (R114). -/
theorem rangesMeet_of_exact {a b : Route} {digits : List Nat} (ha : a.IsExact digits) (hb : b.IsCandidate digits) :
    RangesMeet a b := by
  obtain ⟨length, low, high⟩ := ha
  obtain ⟨lengthB, lowB, highB⟩ := hb
  rw [← length] at lengthB lowB highB
  exact ⟨lengthB, low.trans highB, lowB.trans high⟩

theorem walk_more_iff (s : State) (digits : List Nat) : s.walk digits = .more ↔
    (∃ n r, s.route n = some r ∧ r.IsCandidate digits) ∧ ∀ n r, s.route n = some r → ¬ r.IsExact digits := by
  unfold State.walk
  dsimp only
  split
  next n r found =>
    obtain ⟨-, occupied⟩ := (mem_occupiedRoutes s n r).mp (List.mem_of_find?_eq_some found)
    have matched := List.find?_some found
    exact ⟨nofun, fun h => absurd ((exact_iff r digits).mp matched) (h.2 n r occupied)⟩
  next none =>
    have noExact : ∀ n r, s.route n = some r → ¬ r.IsExact digits := fun n r occupied isExact =>
      List.find?_eq_none.mp none (n, r) ((mem_occupiedRoutes s n r).mpr ⟨route_lt occupied, occupied⟩)
        ((exact_iff r digits).mpr isExact)
    have some_candidate : s.occupiedRoutes.any (fun x => x.2.candidate digits.length (digitsValue digits)) = true ↔
        ∃ n r, s.route n = some r ∧ r.IsCandidate digits := by
      rw [List.any_eq_true]
      constructor
      · rintro ⟨⟨n, r⟩, hm, hc⟩
        exact ⟨n, r, ((mem_occupiedRoutes s n r).mp hm).2, (candidate_iff r digits).mp hc⟩
      · rintro ⟨n, r, occupied, hc⟩
        exact ⟨(n, r), (mem_occupiedRoutes s n r).mpr ⟨route_lt occupied, occupied⟩, (candidate_iff r digits).mpr hc⟩
    rw [← some_candidate]
    split
    next h => simpa [h] using noExact
    next h => simp [h]

theorem walk_noRoute_iff (s : State) (digits : List Nat) : s.walk digits = .noRoute ↔
    ∀ n r, s.route n = some r → ¬ r.IsCandidate digits := by
  constructor
  · intro h n r occupied hc
    unfold State.walk at h
    dsimp only at h
    split at h
    next => cases h
    next =>
      split at h
      next => cases h
      next noCandidate =>
        refine noCandidate (List.any_eq_true.mpr ⟨(n, r), ?_, (candidate_iff r digits).mpr hc⟩)
        exact (mem_occupiedRoutes s n r).mpr ⟨route_lt occupied, occupied⟩
  · intro none
    cases h : s.walk digits with
    | noRoute => rfl
    | more =>
      obtain ⟨⟨n, r, occupied, hc⟩, -⟩ := (walk_more_iff s digits).mp h
      exact absurd hc (none n r occupied)
    | exact n r =>
      obtain ⟨-, occupied, isExact⟩ := walk_exact_spec s digits n r h
      exact absurd ((exact_iff r digits).mp isExact).isCandidate (none n r occupied)

/-- Where no two routes conflict, an occupied exact match is the only candidate. -/
theorem candidate_unique {s : State} {digits : List Nat} (apart : s.RoutesApart) {n m : Nat} {a b : Route}
    (occupiedA : s.route n = some a) (isExact : a.IsExact digits) (occupiedB : s.route m = some b)
    (isCandidate : b.IsCandidate digits) : m = n ∧ b = a := by
  have same : m = n := by
    by_contra other
    exact apart n m a b (Ne.symm other) occupiedA occupiedB (rangesMeet_of_exact isExact isCandidate)
  subst same
  exact ⟨rfl, Option.some.inj (occupiedB.symm.trans occupiedA)⟩

theorem walk_exact_iff {s : State} {digits : List Nat} (apart : s.RoutesApart) (n : Nat) (r : Route) :
    s.walk digits = .exact n r ↔ s.route n = some r ∧ r.IsExact digits := by
  constructor
  · intro h
    obtain ⟨-, occupied, isExact⟩ := walk_exact_spec s digits n r h
    exact ⟨occupied, (exact_iff r digits).mp isExact⟩
  · rintro ⟨occupied, isExact⟩
    cases h : s.walk digits with
    | noRoute => exact absurd isExact.isCandidate ((walk_noRoute_iff s digits).mp h n r occupied)
    | more => exact absurd isExact (((walk_more_iff s digits).mp h).2 n r occupied)
    | exact m b =>
      obtain ⟨-, occupiedB, exactB⟩ := walk_exact_spec s digits m b h
      obtain ⟨rfl, rfl⟩ := candidate_unique apart occupied isExact occupiedB ((exact_iff b digits).mp exactB).isCandidate
      rfl

/-- Settles O27: each outcome of the walk by the occupied entries alone. -/
theorem exactMatchIsOnlyCandidate : Obligations.ExactMatchIsOnlyCandidate := by
  intro s digits apart
  refine ⟨walk_exact_iff apart, fun n r h m b occupied isCandidate => ?_, walk_more_iff s digits, walk_noRoute_iff s digits⟩
  obtain ⟨found, isExact⟩ := (walk_exact_iff apart n r).mp h
  exact candidate_unique apart found isExact occupied isCandidate

/-! ### The class and route tables (R111, R115) -/

theorem tableOfList_readAt {α : Type} {n : Nat} (d d' : α) (l : List α) {i : Nat} (hi : i < n) :
    readAt (tableOfList n d l) d' i = l.getD i d := by
  simp [readAt, tableOfList, hi]

theorem legalityOf_eq_some_iff (b : Byte) (l : Legality) : legalityOf b = some l ↔ l.code = b ∧ b.toNat ≤ 2 := by
  unfold legalityOf
  split
  next h => subst h; cases l <;> simp [Legality.code]
  next h0 =>
    split
    next h => subst h; cases l <;> simp [Legality.code]
    next h1 =>
      split
      next h => subst h; cases l <;> simp [Legality.code]
      next h2 =>
        refine ⟨nofun, fun ⟨code, _⟩ => ?_⟩
        cases l <;> simp_all [Legality.code]

theorem legalitiesOf_of_inRange {bytes : List Byte} (h : ∀ b ∈ bytes, b.toNat ≤ 2) :
    ∃ ls, legalitiesOf bytes = some ls ∧ ls.map Legality.code = bytes := by
  induction bytes with
  | nil => exact ⟨[], rfl, rfl⟩
  | cons b rest ih =>
    obtain ⟨first, others⟩ := List.forall_mem_cons.mp h
    obtain ⟨ls, read, codes⟩ := ih others
    have known : ∃ l, legalityOf b = some l := by
      obtain ⟨n, hn⟩ : ∃ n, b.toNat = n := ⟨_, rfl⟩
      have named : b = 0 ∨ b = 1 ∨ b = 2 := by
        rcases (by omega : b.toNat = 0 ∨ b.toNat = 1 ∨ b.toNat = 2) with h | h | h
        · exact .inl (BitVec.eq_of_toNat_eq h)
        · exact .inr (.inl (BitVec.eq_of_toNat_eq h))
        · exact .inr (.inr (BitVec.eq_of_toNat_eq h))
      rcases named with rfl | rfl | rfl <;> exact ⟨_, rfl⟩
    obtain ⟨l, readFirst⟩ := known
    refine ⟨l :: ls, ?_, by rw [List.map_cons, codes, ((legalityOf_eq_some_iff b l).mp readFirst).1]⟩
    rw [legalitiesOf, List.mapM_cons, readFirst, show rest.mapM legalityOf = some ls from read]
    rfl

theorem legalitiesOf_of_outside {bytes : List Byte} (h : ∃ b ∈ bytes, 2 < b.toNat) : legalitiesOf bytes = none := by
  induction bytes with
  | nil => simp at h
  | cons b rest ih =>
    rw [legalitiesOf, List.mapM_cons]
    cases first : legalityOf b with
    | none => rfl
    | some l =>
      have known := ((legalityOf_eq_some_iff b l).mp first).2
      obtain ⟨x, hx, outside⟩ := h
      rcases List.mem_cons.mp hx with rfl | hx
      · omega
      · rw [show rest.mapM legalityOf = none from ih ⟨x, hx, outside⟩]
        rfl

/-- A WRITE CLASS of 32 legality bytes is answered by its handler. -/
theorem writeClass_answered {cls limit tag : Byte} {bytes : List Byte} {j : Nat} {s t : State} {st : Status} {body : List Byte}
    (hs : s.freeSlot = some j) (length : bytes.length = 32) (answer : takeWriteClass cls limit bytes s = (t, .now st body)) :
    exec (.writeClass tag cls limit bytes) s = .next (answered j 15 tag st body t) :=
  request_answered hs answer ⟨by rw [length]; decide, by decide, rfl⟩

/-- Settles O21: the lock, the ranges, then the record of the class. -/
theorem writeClassReplacesRecord : Obligations.WriteClassReplacesRecord := by
  intro s j tag cls limit bytes hs length
  refine ⟨fun lock mode => writeClass_answered hs length ?_, fun free outside => writeClass_answered hs length ?_,
    fun free known low high legal => ?_⟩
  · exact if_pos (lockRefuses_of_locked s lock mode)
  · rw [takeWriteClass, if_neg (by simp [lockRefuses_of_open s free])]
    by_cases fields : 15 < cls.toNat ∨ limit.toNat < 1 ∨ 3 < limit.toNat
    · rw [if_pos fields, refuse_eq]
    · have zero : limit ≠ 0 := fun h => fields (.inr (.inl (by simp [h])))
      rw [if_neg fields, legalitiesOf_of_outside (by tauto), refuse_eq]
  · obtain ⟨ls, read, codes⟩ := legalitiesOf_of_inRange legal
    refine ⟨⟨limit.toNat, tableOfList 32 .barred ls⟩, writeClass_answered hs length ?_, rfl, fun v hv => ?_⟩
    · rw [takeWriteClass, if_neg (by simp [lockRefuses_of_open s free]), if_neg (by omega), read]
      rfl
    · have short : v < ls.length := by rw [← List.length_map (f := Legality.code), codes, length]; exact hv
      rw [tableOfList_readAt _ _ _ hv, ← codes]
      simp [short]

/-- A WRITE ROUTE of the widths of R190 is answered by its handler. -/
theorem writeRoute_answered {route tag : Byte} {f : RouteFields} {j : Nat} {s t : State} {st : Status} {body : List Byte}
    (hs : s.freeSlot = some j) (wf : f.wellFormed = true) (answer : takeWriteRoute route f s = (t, .now st body)) :
    exec (.writeRoute tag route f) s = .next (answered j 17 tag st body t) :=
  request_answered hs answer ⟨by rw [writeRouteLength_of_wellFormed wf]; decide, by decide, rfl⟩

/-- Settles O23: the lock, the ranges, and the conflict of the new route with the others, whichever is shorter. -/
theorem writeRouteKeepsRoutesApart : Obligations.WriteRouteKeepsRoutesApart := by
  intro s j tag route f hs wf
  refine ⟨fun lock mode => writeRoute_answered hs wf (if_pos (lockRefuses_of_locked s lock mode)), fun free =>
    ⟨fun outside => writeRoute_answered hs wf ?_, fun r known gives => ?_⟩⟩
  · rw [takeWriteRoute, if_neg (by simp [lockRefuses_of_open s free])]
    by_cases high : 63 < route.toNat
    · rw [if_pos high, refuse_eq]
    · have noRoute : routeOf f = none := by
        rw [Option.eq_none_iff_forall_ne_some]
        exact fun r read => outside.resolve_left high r ((routeOf_eq_some_iff f r wf).mp read)
      rw [if_neg high, noRoute, refuse_eq]
  · have taken : takeWriteRoute route f s =
        if s.routeConflict route.toNat r then refuse .conflict s else accept (s.setRoute route.toNat (some r)) := by
      rw [takeWriteRoute, if_neg (by simp [lockRefuses_of_open s free]), if_neg (by omega),
        (routeOf_eq_some_iff f r wf).mpr gives]
    refine ⟨fun apart => writeRoute_answered hs wf ?_, fun meets => writeRoute_answered hs wf ?_⟩
    · rw [taken, if_neg, accept_eq]
      rw [routeConflict_iff]
      exact fun ⟨m, a, ne, occupied, meets⟩ => apart m a ne occupied meets
    · rw [taken, if_pos ((routeConflict_iff _ _ _).mpr meets), refuse_eq]

end Sys2Proof.Machine
end

section
/-! PROOFS. Screening and the decision: DIAL START and the ends of a screening (O25), DIGIT (O26), the decision's refusals (O28);
HOLD and RETRIEVE (O31). -/

namespace Sys2Proof.Machine

/-! ### Screening (R118, R119, R123, R124) -/

/-- Settles O25: the tests of the three requests in their order, and the two ends of a screening. -/
theorem screeningBeginsAndEnds : Obligations.ScreeningBeginsAndEnds := by
  refine ⟨fun s j tag entry value hs => ⟨fun high => ⟨request_answered hs (if_pos high), request_answered hs (if_pos high)⟩,
    fun outside => request_answered hs (if_pos outside), fun inRange => ?_⟩, fun s j tag entry inRange => ?_⟩
  · have inside : ¬ 511 < entry.toNat := by omega
    refine ⟨fun mode busy => request_answered hs ?_, fun mode admitted idle full => request_answered hs ?_,
      fun mode idle => ⟨request_answered hs ?_, fun digit => request_answered hs ?_⟩⟩
    · rw [takeDialStart, if_neg inside, if_neg (by simp [mode]), if_neg (by simp [mode]), if_pos busy, refuse_eq]
    · rw [takeDialStart, if_neg inside, if_neg (by simp [mode]), if_neg (by simp [mode]), if_neg (by simp [admitted, idle]),
        if_pos (show s.stackLimit entry.toNat ≤ _ from full), refuse_eq]
    · rw [takeDialAbort, if_neg inside, if_neg mode, if_pos (by simp [idle]), refuse_eq]
    · rw [takeDigit, if_neg (by omega), if_neg mode, if_pos (by simp [idle]), refuse_eq]
  · have inside : ¬ 511 < entry.toNat := by omega
    refine ⟨fun hs mode admitted idle room => request_answered hs ?_, fun hs mode active => request_answered hs ?_,
      fun running active due => event_taken _ running (if_pos ⟨active, (ranOut_iff _).mpr due⟩),
      fun running idle => event_taken _ running (if_neg fun h => ?_)⟩
    · rw [takeDialStart, if_neg inside, if_neg (by simp [mode]), if_neg (by simp [mode]), if_neg (by simp [admitted, idle]),
        if_neg (by rw [State.stackLimit]; omega), accept_eq]
      rfl
    · rw [takeDialAbort, if_neg inside, if_neg mode, if_neg (by simp [active]), accept_eq]
      rfl
    · obtain ⟨active, due⟩ := h
      exact idle.elim (fun idle => by simp [idle] at active) (fun left => left ((ranOut_iff _).mp due))

/-! ### Digit collection (R120, R121) -/

/-- The state in which DIGIT walks the table: the digits kept, the interdigit time started again. -/
def digitKept (i : Nat) (digits : List Nat) (s : State) : State :=
  s.setEntry i { s.entry i with register := digits, interdigit := some (.setFor s.params.interdigitTime) }

/-- The outcome of DIGIT for the digits collected (R121). -/
def digitWalked (i : Nat) (digits : List Nat) (s : State) : State × Answer :=
  match s.walk digits with
  | .exact n r => decideCall i n r digits (digitKept i digits s)
  | .noRoute => (endScreening i (digitKept i digits s), .now .noRoute (wordBytes i ++ [byteOf digits.length]))
  | .more => (digitKept i digits s, .now .more (wordBytes i ++ [byteOf digits.length]))

theorem takeDigit_of_screening {entry : Word} {value : Byte} {s : State} (inRange : entry.toNat ≤ 511)
    (digit : value.toNat ≤ 9) (mode : s.mode ≠ .maintenance) (active : (s.entry entry.toNat).screening = true) :
    takeDigit entry value s = digitWalked entry.toNat ((s.entry entry.toNat).register ++ [value.toNat]) s := by
  rw [takeDigit, if_neg (by omega), if_neg mode, if_neg (by simp [active])]
  rfl

/-- Screening ends alike whether the last digit was kept before or not. -/
theorem endScreening_digitKept {i : Nat} (inRange : i ≤ 511) (digits : List Nat) (s : State) :
    endScreening i (digitKept i digits s) = endScreening i s := by
  rw [endScreening, digitKept, entry_setEntry_self s inRange, setEntry_setEntry]
  rfl

/-- Settles O26: without an exact match the walk answers MORE or NO_ROUTE. -/
theorem digitIsCollected : Obligations.DigitIsCollected := by
  intro s j tag entry value hs inRange digit mode active i e digits p body noExact
  have taken := takeDigit_of_screening inRange digit mode active
  refine ⟨fun candidate => request_answered hs ?_, fun none => request_answered hs ?_⟩
  · rw [taken, digitWalked, (walk_more_iff s _).mpr ⟨candidate, noExact⟩]
    rfl
  · rw [taken, digitWalked, (walk_noRoute_iff s _).mpr none]
    exact congrArg (·, _) (endScreening_digitKept inRange _ s)

/-! ### The decision (R125 to R128) -/

section
variable (i : Nat) (digits : List Nat) (s : State) (k : Nat)

/-- A digit kept changes the register and the interdigit timer of its entry alone. -/
theorem entry_digitKept : ∃ register interdigit, (digitKept i digits s).entry k =
    { s.entry k with register := register, interdigit := interdigit } := by
  rw [digitKept, entry_setEntry]
  split
  next same => exact ⟨digits, some (.setFor s.params.interdigitTime), by rw [same.1]⟩
  next => exact ⟨_, _, rfl⟩

theorem digitKept_cls : ((digitKept i digits s).entry k).cls = (s.entry k).cls := by
  obtain ⟨_, _, h⟩ := entry_digitKept i digits s k; rw [h]

theorem digitKept_stack : ((digitKept i digits s).entry k).stack = (s.entry k).stack := by
  obtain ⟨_, _, h⟩ := entry_digitKept i digits s k; rw [h]

theorem digitKept_state : ((digitKept i digits s).entry k).state = (s.entry k).state := by
  obtain ⟨_, _, h⟩ := entry_digitKept i digits s k; rw [h]

theorem digitKept_number : ((digitKept i digits s).entry k).number = (s.entry k).number := by
  obtain ⟨_, _, h⟩ := entry_digitKept i digits s k; rw [h]

theorem digitKept_secure : ((digitKept i digits s).entry k).secure = (s.entry k).secure := by
  obtain ⟨_, _, h⟩ := entry_digitKept i digits s k; rw [h]

theorem digitKept_ownedLeg : ((digitKept i digits s).entry k).ownedLeg = (s.entry k).ownedLeg := by
  obtain ⟨_, _, h⟩ := entry_digitKept i digits s k; rw [h]

end

theorem lookupNumber_eq_find (s : State) (digits : List Nat) : s.lookupNumber digits =
    (List.range 512).find? (fun i => (s.entry i).state != .vacant && (s.entry i).number == digits) :=
  lowest_eq_find _ Entry.vacant s.directory

theorem decision_digitKept (i : Nat) (digits : List Nat) (s : State) (a : Nat) (r : Route) :
    (digitKept i digits s).decision a r digits = s.decision a r digits := by
  have limit : ∀ k, (digitKept i digits s).stackLimit k = s.stackLimit k := fun k =>
    congrArg (fun c => (s.classRecord c).limit) (digitKept_cls i digits s k)
  have legality : (digitKept i digits s).legality a r.service = s.legality a r.service :=
    congrArg (fun c => readAt (s.classRecord c).legalities .barred r.service) (digitKept_cls i digits s a)
  have party : (digitKept i digits s).partyCheck a r digits = s.partyCheck a r digits := by
    simp only [State.partyCheck, lookupNumber_eq_find, digitKept_state, digitKept_number, digitKept_stack, limit]
    rfl
  have refusal : ∀ h, (digitKept i digits s).handOverRefusal h = s.handOverRefusal h := fun h => by
    simp only [State.handOverRefusal, State.infeasible, State.neededLegs, State.callerNeedsLeg, State.calleeNeedsLeg,
      State.shortOfLeg, digitKept_secure, digitKept_ownedLeg]
    rfl
  simp only [State.decision, limit, legality, party, refusal, digitKept_stack]

/-- The DIGIT that completes a route is answered by the decision on the call (R125, R129). -/
theorem takeDigit_of_exact {entry : Word} {value : Byte} {s : State} {n : Nat} {r : Route} (inRange : entry.toNat ≤ 511)
    (digit : value.toNat ≤ 9) (mode : s.mode ≠ .maintenance) (active : (s.entry entry.toNat).screening = true)
    (apart : s.RoutesApart) (occupied : s.route n = some r)
    (isExact : r.IsExact ((s.entry entry.toNat).register ++ [value.toNat])) :
    takeDigit entry value s =
      match s.decision entry.toNat r ((s.entry entry.toNat).register ++ [value.toNat]) with
      | .error st => (endScreening entry.toNat s, .now st (wordBytes entry.toNat ++ [byteOf n]))
      | .ok h => (createCall h (endScreening entry.toNat s),
          .now .routed (routedBody entry.toNat n s.newReference r h)) := by
  rw [takeDigit_of_screening inRange digit mode active, digitWalked, (walk_exact_iff apart n r).mpr ⟨occupied, isExact⟩]
  dsimp only
  rw [decideCall, decision_digitKept, endScreening_digitKept inRange]
  rfl

section
variable {s : State} {i : Nat} {r : Route} {digits : List Nat}

theorem decision_of_barred (barred : s.legality i r.service = .barred) :
    s.decision i r digits = .error .barredService := if_pos barred

theorem decision_of_party {st : Status} (legal : s.legality i r.service ≠ .barred)
    (party : s.partyCheck i r digits = .error st) : s.decision i r digits = .error st := by
  rw [State.decision, if_neg legal, party]

theorem decision_of_full {b : BParty} {forwarded : List Nat} (legal : s.legality i r.service ≠ .barred)
    (party : s.partyCheck i r digits = .ok (b, forwarded)) (full : s.stackLimit i ≤ (s.entry i).stack.length) :
    s.decision i r digits = .error .callLimit := by
  rw [State.decision, if_neg legal, party]
  exact if_pos full

/-- The hand-over of a call that passes the screening. -/
def handOver (s : State) (i : Nat) (r : Route) (b : BParty) (forwarded : List Nat) : HandOver :=
  ⟨i, b, forwarded, r.service, requiresSecure (s.legality i r.service) r⟩

theorem decision_of_passes {b : BParty} {forwarded : List Nat} (legal : s.legality i r.service ≠ .barred)
    (party : s.partyCheck i r digits = .ok (b, forwarded)) (room : (s.entry i).stack.length < s.stackLimit i) :
    s.decision i r digits = match s.handOverRefusal (handOver s i r b forwarded) with
      | some st => .error st
      | none => .ok (handOver s i r b forwarded) := by
  rw [State.decision, if_neg legal, party]
  exact if_neg (by omega)

/-- The forwarded digits of a call: those of a TRUNK call alone (R130). -/
def forwardedTo (b : BParty) (r : Route) (digits : List Nat) : List Nat :=
  match b with
  | .group _ => forwardedDigits r digits
  | _ => []

theorem lookupNumber_of_holder (unique : s.NumbersUnique) {k : Nat} (hk : k < 512) (held : (s.entry k).state ≠ .vacant)
    (number : (s.entry k).number = digits) : s.lookupNumber digits = some k := by
  have isSome := (numberHeld_iff s digits).mp ⟨k, hk, held, number⟩
  obtain ⟨m, found⟩ := Option.isSome_iff_exists.mp isSome
  obtain ⟨hm, heldM, numberM⟩ := lookupNumber_spec s digits m found
  have same : k = m := by
    by_contra ne
    exact unique k m hk hm ne held heldM (number.trans numberM.symm)
  rw [found, same]

theorem partyCheck_of_callee (local_ : r.kind = .localCall) (unique : s.NumbersUnique) {k : Nat} (hk : k < 512)
    (held : (s.entry k).state ≠ .vacant) (number : (s.entry k).number = digits) : s.partyCheck i r digits =
      if k = i then .error .selfCall
      else if (s.entry k).state ≠ .admitted then .error .calleeUnavailable
      else if s.stackLimit k ≤ (s.entry k).stack.length then .error .calleeBusy
      else .ok (.extension k, []) := by
  simp only [State.partyCheck, local_, lookupNumber_of_holder unique hk held number]

theorem partyCheck_of_passes {b : BParty} (passes : s.ScreenPasses i digits r b) :
    s.partyCheck i r digits = .ok (b, forwardedTo b r digits) := by
  obtain ⟨-, party⟩ := passes
  cases kind : r.kind with
  | service code =>
    rw [kind] at party
    obtain rfl := party
    simp only [State.partyCheck, kind]
    rfl
  | trunk g =>
    rw [kind] at party
    obtain ⟨rfl, key, budget⟩ := party
    have keyed : ¬ ((s.group g).kind = .tie ∧ (s.group g).tieKey.isNone = true) := by
      rintro ⟨tie, none⟩
      rcases key with plain | some
      · simp [plain] at tie
      · exact some (Option.isNone_iff_eq_none.mp none)
    simp only [State.partyCheck, kind, if_neg keyed, if_neg (Nat.not_le.mpr budget)]
    rfl
  | localCall =>
    rw [kind] at party
    obtain ⟨unique, k, hk, rfl, other, number, admitted, room⟩ := party
    rw [partyCheck_of_callee kind unique hk (by simp [admitted]) number, if_neg other, if_neg (by simp [admitted]),
      if_neg (by rw [State.stackLimit]; omega)]
    rfl

end

/-! ### The legs of a new call (R135, R136) -/

section
variable (s : State) (h : HandOver)

theorem toTieGroup_iff (b : BParty) : s.toTieGroup b = true ↔ ∃ g, b = .group g ∧ (s.group g).kind = .tie := by
  cases b <;> simp [State.toTieGroup]

theorem shortOfLeg_iff (i : Nat) : s.shortOfLeg i = true ↔ (s.entry i).secure = true ∧ (s.entry i).ownedLeg = none := by
  simp [State.shortOfLeg]

theorem reservedForCallee_eq_false_iff (i : Nat) : s.reservedForCallee i = false ↔
    ∀ c ∈ s.calls, c.b = .extension i → c.bReservation = none := by
  simp [State.reservedForCallee]

/-- The owners of the legs that a call needs, by the model's three tests. -/
theorem legsNeeded_eq (ref : Nat) : s.legsNeeded h.a h.b ref =
    (if s.toTieGroup h.b then [.tieCall ref] else []) ++ (if s.callerNeedsLeg h then [.extension h.a] else []) ++
      if s.calleeNeedsLeg h then [.bSide ref] else [] := by
  unfold State.legsNeeded State.callerNeedsLeg State.calleeNeedsLeg State.toTieGroup
  cases h.b <;> simp [shortOfLeg_iff, reservedForCallee_eq_false_iff, and_assoc]

theorem legsNeeded_length (ref : Nat) : (s.legsNeeded h.a h.b ref).length = s.neededLegs h := by
  rw [legsNeeded_eq, State.neededLegs]
  cases s.toTieGroup h.b <;> cases s.callerNeedsLeg h <;> cases s.calleeNeedsLeg h <;> rfl

theorem freeLegs_eq : s.freeLegs = s.freeLegList.length :=
  congrArg List.length (places_eq_filter (fun l => l.use.isFree) Leg.atReset s.legs)

theorem infeasible_iff : s.infeasible h = true ↔ (s.entry h.a).secure = false ∨
    (∃ k, h.b = .extension k ∧ (s.entry k).secure = false) ∨ ∃ g, h.b = .group g ∧ (s.group g).kind = .plain := by
  unfold State.infeasible
  cases h.b <;> simp

end

theorem requiresSecure_iff (l : Legality) (r : Route) :
    requiresSecure l r = true ↔ l = .secureOnly ∨ r.secureRequired = true := by
  simp [requiresSecure]

theorem handOverRefusal_of_tableFull {s : State} (h : HandOver) (full : 96 ≤ s.calls.length) :
    s.handOverRefusal h = some .callTableFull := if_pos full

theorem handOverRefusal_of_room {s : State} (h : HandOver) (room : s.calls.length < 96) : s.handOverRefusal h =
    if h.requiresSecure = true ∧ (s.infeasible h = true ∨ s.freeLegs < s.neededLegs h) ∨
      s.toTieGroup h.b = true ∧ s.freeLegs = 0 then some .secureUnavailable else none := by
  rw [State.handOverRefusal, if_neg (by simpa [Config.callCapacity] using room)]
  simp only [Bool.and_eq_true, decide_eq_true_eq, beq_iff_eq]
  split_ifs <;> grind

/-- Settles O28: the decision's refusals in their order. -/
theorem localDecisionRefusals : Obligations.LocalDecisionRefusals := by
  intro s j tag entry value n r hs inRange digit mode active apart occupied i e digits length low high legality ended
    refused full
  have taken := takeDigit_of_exact inRange digit mode active apart occupied ⟨length, low, high⟩
  have refuses : ∀ {st}, s.decision i r digits = .error st → refused st := fun {st} decided =>
    request_answered hs (by rw [taken, decided]; rfl)
  refine ⟨fun barred => refuses (decision_of_barred barred), fun legal kind => ⟨fun unheld => refuses ?_,
    fun unique held number => refuses ?_, fun k hk unique other held number => ⟨fun out => refuses ?_,
      fun admitted busy => refuses ?_, fun admitted room full => refuses ?_⟩⟩,
    fun g legal kind => ⟨fun keyless => refuses ?_, fun keyed busy => refuses ?_, fun keyed room full => refuses ?_⟩,
    fun code legal kind full => refuses ?_, fun b legal passes => ?_⟩
  · have none : s.lookupNumber digits = none := by simpa [numberHeld_iff] using unheld
    exact decision_of_party legal (by simp only [State.partyCheck, kind, none])
  · refine decision_of_party legal ?_
    rw [partyCheck_of_callee kind unique (k := i) (by omega) held number, if_pos rfl]
  · refine decision_of_party legal ?_
    rw [partyCheck_of_callee kind unique hk held number, if_neg other, if_pos out]
  · refine decision_of_party legal ?_
    rw [partyCheck_of_callee kind unique hk held number, if_neg other, if_neg (by simp [admitted])]
    exact if_pos busy
  · refine decision_of_full legal (b := .extension k) (forwarded := []) ?_ full
    rw [partyCheck_of_callee kind unique hk held number, if_neg other, if_neg (by simp [admitted]),
      if_neg (by rw [State.stackLimit]; omega)]
  · refine decision_of_party legal ?_
    simp only [State.partyCheck, kind, Option.isNone_iff_eq_none]
    exact if_pos keyless
  · refine decision_of_party legal ?_
    simp only [State.partyCheck, kind, Option.isNone_iff_eq_none]
    exact (if_neg keyed).trans (if_pos busy)
  · refine decision_of_full legal (b := .group g) (forwarded := forwardedDigits r digits) ?_ full
    simp only [State.partyCheck, kind, Option.isNone_iff_eq_none]
    exact (if_neg keyed).trans (if_neg (by omega))
  · exact decision_of_full legal (b := .service code) (forwarded := []) (by simp only [State.partyCheck, kind]) full
  · have decided := decision_of_passes legal (partyCheck_of_passes passes) passes.1
    have tooFew := legsNeeded_length s (handOver s i r b (forwardedTo b r digits)) s.referenceCounter
    refine ⟨fun tableFull => refuses ?_, fun room requires short => refuses ?_, fun room tie none => refuses ?_⟩
    · rw [decided, handOverRefusal_of_tableFull _ tableFull]
    · rw [decided, handOverRefusal_of_room _ room, if_pos]
      refine .inl ⟨(requiresSecure_iff _ _).mpr requires, short.imp (infeasible_iff _ _).mpr fun few => ?_⟩
      rw [freeLegs_eq, ← tooFew]
      exact few
    · rw [decided, handOverRefusal_of_room _ room, if_pos]
      exact .inr ⟨(toTieGroup_iff s b).mpr tie, by rw [freeLegs_eq, none]; rfl⟩

/-! ### HOLD and RETRIEVE (R141) -/

/-- The places that a reply shows of a stack with a call: unused places are 0 (R191). -/
theorem stackBytes_of_cons (x : StackItem) (below : List StackItem) : stackBytes (x :: below) =
    byteOf (below.length + 1) :: ((x :: below ++ List.replicate 2 (⟨0, false⟩ : StackItem)).take 3).flatMap
      (fun z : StackItem => wordBytes z.call ++ [if z.held then (1 : Byte) else 0]) := by
  match below with
  | [] => rfl
  | [_] => rfl
  | _ :: _ :: _ => rfl

/-- Settles O31: the tests of HOLD and RETRIEVE in their order, and the mark of the top call. -/
theorem holdAndRetrieve : Obligations.HoldAndRetrieve := by
  refine ⟨fun s j tag entry hs => ⟨fun high => ⟨request_answered hs (if_pos high), request_answered hs (if_pos high)⟩,
    fun inRange idle => ?_⟩, fun s j tag entry top below hs inRange admitted stack => ?_⟩
  · have inside : ¬ 511 < entry.toNat := by omega
    by_cases out : (s.entry entry.toNat).state ≠ .admitted
    · exact ⟨request_answered hs (by rw [takeHold, if_neg inside, if_pos out, refuse_eq]),
        request_answered hs (by rw [takeRetrieve, if_neg inside, if_pos out, refuse_eq])⟩
    · have empty := idle.resolve_left out
      exact ⟨request_answered hs (by rw [takeHold, if_neg inside, if_neg out, empty, refuse_eq]),
        request_answered hs (by rw [takeRetrieve, if_neg inside, if_neg out, empty, refuse_eq])⟩
  · have hold : takeHold entry s = if top.held then refuse .state s
        else answerStack entry.toNat (⟨top.call, true⟩ :: below) s := by
      rw [takeHold, if_neg (by omega), if_neg (by simp [admitted]), stack]
    have retrieve : takeRetrieve entry s = if top.held then answerStack entry.toNat (⟨top.call, false⟩ :: below) s
        else refuse .state s := by
      rw [takeRetrieve, if_neg (by omega), if_neg (by simp [admitted]), stack]
    refine ⟨fun free => request_answered hs ?_, fun held => request_answered hs ?_,
      fun held => request_answered hs ?_, fun free => request_answered hs ?_⟩
    · rw [hold, if_neg (by simp [free]), answerStack, stackBytes_of_cons]
    · rw [retrieve, if_pos held, answerStack, stackBytes_of_cons]
    · rw [hold, if_pos held, refuse_eq]
    · rw [retrieve, if_neg (by simp [free]), refuse_eq]

end Sys2Proof.Machine
end

section
/-! PROOFS. The DIGIT that routes a call: the legs reserved and the call created (O29). -/

namespace Sys2Proof.Machine

/-! ### Reserving legs (R52, R136) -/

theorem mem_freeLegList {s : State} {k : Nat} : k ∈ s.freeLegList ↔ k < 48 ∧ (s.leg k).use.isFree = true := by
  rw [State.freeLegList, List.mem_filter, List.mem_range]

theorem freeLegList_nodup (s : State) : s.freeLegList.Nodup := List.nodup_range.filter _

theorem freeLeg_eq (s : State) : s.freeLeg = s.freeLegList.head? := by
  rw [State.freeLegList, List.head?_filter]
  exact lowest_eq_find (fun l => l.use.isFree) Leg.atReset s.legs

/-- Leg `k` reserved for an owner, and the owned leg field of an extension (R52, R77). -/
def legReserved (owner : Owner) (k : Nat) (s : State) : State :=
  match owner with
  | .extension i => (s.setLeg k { s.leg k with use := .reserved owner }).setEntry i { s.entry i with ownedLeg := some k }
  | _ => s.setLeg k { s.leg k with use := .reserved owner }

theorem reserveLeg_of_none {s : State} (owner : Owner) (empty : s.freeLegList = []) : reserveLeg owner s = (s, none) := by
  rw [reserveLeg, freeLeg_eq, empty]
  rfl

theorem reserveLeg_of_first {s : State} (owner : Owner) {k : Nat} {rest : List Nat} (free : s.freeLegList = k :: rest) :
    reserveLeg owner s = (legReserved owner k s, some k) := by
  rw [reserveLeg, freeLeg_eq, free]
  cases owner <;> rfl

theorem leg_legReserved (owner : Owner) {k : Nat} (hk : k < 48) (s : State) (l : Nat) :
    (legReserved owner k s).leg l = if k = l then ⟨(s.leg k).stamp, .reserved owner⟩ else s.leg l := by
  have legs : (legReserved owner k s).leg l = (s.setLeg k ⟨(s.leg k).stamp, .reserved owner⟩).leg l := by
    cases owner <;> rfl
  rw [legs, leg_setLeg]
  simp [hk]

/-- The FREE legs left after the lowest one is reserved. -/
theorem freeLegList_legReserved {s : State} (owner : Owner) {k : Nat} {rest : List Nat} (free : s.freeLegList = k :: rest) :
    (legReserved owner k s).freeLegList = rest := by
  have hk : k < 48 := (mem_freeLegList.mp (free ▸ List.mem_cons_self)).1
  have nodup := free ▸ freeLegList_nodup s
  have taken : ∀ l, ((legReserved owner k s).leg l).use.isFree = (decide (l ≠ k) && (s.leg l).use.isFree) := fun l => by
    rw [leg_legReserved owner hk]
    by_cases same : k = l
    · rw [if_pos same]; simp [same, LegUse.isFree]
    · rw [if_neg same]; simp [Ne.symm same]
  calc (legReserved owner k s).freeLegList = s.freeLegList.filter (fun l => decide (l ≠ k)) := by
        simp only [State.freeLegList, List.filter_filter, taken]
    _ = rest := by
        rw [free, List.filter_cons, if_neg (by simp)]
        exact List.filter_eq_self.mpr fun l hl => by
          simpa using ne_of_mem_of_not_mem hl (List.nodup_cons.mp nodup).1

/-- Legs reserved for a list of owners, each the lowest then FREE, while any is. -/
def reserveAll : List Owner → State → State
  | [], s => s
  | o :: rest, s => reserveAll rest (reserveLeg o s).1

theorem reserveAll_append (l m : List Owner) (s : State) : reserveAll (l ++ m) s = reserveAll m (reserveAll l s) := by
  induction l generalizing s with
  | nil => rfl
  | cons o rest ih => exact ih _

theorem reserveIf_fst (needed : Bool) (o : Owner) (s : State) :
    (reserveIf needed o s).1 = reserveAll (if needed then [o] else []) s := by
  cases needed <;> rfl

theorem freeLegList_reserveAll (owners : List Owner) (s : State) :
    (reserveAll owners s).freeLegList = s.freeLegList.drop owners.length := by
  induction owners generalizing s with
  | nil => rfl
  | cons o rest ih =>
    rw [reserveAll, ih]
    cases free : s.freeLegList with
    | nil => simp [reserveLeg_of_none o free, free]
    | cons k others => rw [reserveLeg_of_first o free, freeLegList_legReserved o free]; rfl

/-- Each owner is given the leg of its place among the FREE ones; the other legs are left. -/
theorem leg_reserveAll (owners : List Owner) (s : State) (l : Nat) : (reserveAll owners s).leg l =
    match (owners.zip s.freeLegList).find? (fun x => x.2 == l) with
    | some x => ⟨(s.leg l).stamp, .reserved x.1⟩
    | none => s.leg l := by
  induction owners generalizing s with
  | nil => rfl
  | cons o rest ih =>
    rw [reserveAll, ih]
    cases free : s.freeLegList with
    | nil => simp [reserveLeg_of_none o free, free]
    | cons k others =>
      have hk : k < 48 := (mem_freeLegList.mp (free ▸ List.mem_cons_self)).1
      have notFree : k ∉ others := (List.nodup_cons.mp (free ▸ freeLegList_nodup s)).1
      rw [reserveLeg_of_first o free, freeLegList_legReserved o free, List.zip_cons_cons, List.find?_cons]
      by_cases same : k = l
      · subst same
        have none : (rest.zip others).find? (fun x => x.2 == k) = none := by
          refine List.find?_eq_none.mpr fun x hx => ?_
          simpa using ne_of_mem_of_not_mem (List.of_mem_zip hx).2 notFree
        simp only [none, leg_legReserved o hk, beq_self_eq_true, if_true]
      · simp only [leg_legReserved o hk, if_neg same, beq_false_of_ne same]

/-- The leg an owner is given. -/
theorem reserveIf_snd (needed : Bool) (o : Owner) (s : State) :
    (reserveIf needed o s).2 = ((if needed then [o] else []).zip s.freeLegList).lookup o := by
  cases needed with
  | false => rfl
  | true =>
    cases free : s.freeLegList with
    | nil => simp [reserveIf, reserveLeg_of_none o free]
    | cons k rest => simp [reserveIf, reserveLeg_of_first o free]

theorem reserveIf_isNone (o : Owner) (s : State) : (reserveIf true o s).2.isNone = true ↔ s.freeLegList = [] := by
  cases free : s.freeLegList with
  | nil => simp [reserveIf, reserveLeg_of_none o free]
  | cons k rest => simp [reserveIf, reserveLeg_of_first o free]

theorem zip_append_drop {α β : Type} (l m : List α) (f : List β) :
    (l ++ m).zip f = l.zip f ++ m.zip (f.drop l.length) := by
  induction l generalizing f with
  | nil => simp
  | cons x rest ih =>
    cases f with
    | nil => simp
    | cons y others => simp [ih]

theorem lookup_zip_eq_none {α β : Type} [BEq α] [LawfulBEq α] {l : List α} {x : α} (h : x ∉ l) (f : List β) :
    (l.zip f).lookup x = none := by
  rw [List.lookup_eq_none_iff]
  intro p hp
  simpa using ne_of_mem_of_not_mem (List.of_mem_zip hp).1 h |>.symm

/-! ### The call created (R136, R137) -/

section
variable (h : HandOver) (s : State)

/-- The owners of the legs reserved before the callee's. -/
def ownersBefore (s : State) (h : HandOver) : List Owner :=
  (if s.toTieGroup h.b then [.tieCall s.newReference] else []) ++ if s.callerNeedsLeg h then [.extension h.a] else []

theorem legsNeeded_split : s.legsNeeded h.a h.b s.newReference =
    ownersBefore s h ++ if s.calleeNeedsLeg h then [.bSide s.newReference] else [] := legsNeeded_eq s h _

theorem ownReserved_fst : (ownReserved h s).1 = reserveAll (ownersBefore s h) s := by
  rw [ownReserved, tieReserved, reserveIf_fst, reserveIf_fst, ← reserveAll_append, ownersBefore]

theorem farReserved_fst : (farReserved h s).1 = reserveAll (s.legsNeeded h.a h.b s.newReference) s := by
  rw [farReserved, reserveIf_fst, ownReserved_fst, ← reserveAll_append, ← legsNeeded_split]

/-- The legs given to the owners of a new call. -/
def legsGiven (s : State) (h : HandOver) : List (Owner × Nat) :=
  (s.legsNeeded h.a h.b s.newReference).zip s.freeLegList

theorem legsGiven_eq : legsGiven s h =
    ((if s.toTieGroup h.b then [.tieCall s.newReference] else []).zip s.freeLegList ++
      (if s.callerNeedsLeg h then [.extension h.a] else []).zip (s.freeLegList.drop (s.toTieGroup h.b).toNat)) ++
      (if s.calleeNeedsLeg h then [.bSide s.newReference] else []).zip (s.freeLegList.drop (ownersBefore s h).length) := by
  rw [legsGiven, legsNeeded_split, zip_append_drop, ownersBefore, zip_append_drop]
  cases s.toTieGroup h.b <;> rfl

theorem tieReserved_snd : (tieReserved h s).2 = (legsGiven s h).lookup (.tieCall s.newReference) := by
  rw [tieReserved, reserveIf_snd, legsGiven_eq, List.lookup_append, List.lookup_append]
  rw [lookup_zip_eq_none (l := if s.callerNeedsLeg h then _ else _) (by split <;> simp),
    lookup_zip_eq_none (l := if s.calleeNeedsLeg h then _ else _) (by split <;> simp), Option.or_none, Option.or_none]

theorem ownReserved_snd : (ownReserved h s).2 = (legsGiven s h).lookup (.extension h.a) := by
  have free : (tieReserved h s).1.freeLegList = s.freeLegList.drop (s.toTieGroup h.b).toNat := by
    rw [tieReserved, reserveIf_fst, freeLegList_reserveAll]
    cases s.toTieGroup h.b <;> rfl
  rw [ownReserved, reserveIf_snd, free, legsGiven_eq, List.lookup_append, List.lookup_append]
  rw [lookup_zip_eq_none (l := if s.toTieGroup h.b then _ else _) (by split <;> simp),
    lookup_zip_eq_none (l := if s.calleeNeedsLeg h then _ else _) (by split <;> simp), Option.or_none, Option.none_or]

theorem farReserved_snd : (farReserved h s).2 = (legsGiven s h).lookup (.bSide s.newReference) := by
  rw [farReserved, reserveIf_snd, ownReserved_fst, freeLegList_reserveAll, legsGiven_eq, List.lookup_append,
    List.lookup_append]
  rw [lookup_zip_eq_none (l := if s.toTieGroup h.b then _ else _) (by split <;> simp),
    lookup_zip_eq_none (l := if s.callerNeedsLeg h then _ else _) (by split <;> simp), Option.none_or, Option.none_or]

theorem leg_callCreated (l : Nat) : (callCreated h s).leg l =
    match (legsGiven s h).find? (fun x => x.2 == l) with
    | some x => ⟨(s.leg l).stamp, .reserved x.1⟩
    | none => s.leg l := by
  have legs : (callCreated h s).leg l = (farReserved h s).1.leg l := by
    unfold callCreated
    cases h.b <;> rfl
  rw [legs, farReserved_fst, leg_reserveAll, legsGiven]

/-- The reservations write the owned leg field of the caller alone. -/
theorem entry_farReserved (inRange : h.a < 512) (l : Nat) : (farReserved h s).1.entry l =
    if l = h.a then { s.entry h.a with ownedLeg := (ownReserved h s).2.or (s.entry h.a).ownedLeg } else s.entry l := by
  have others : ∀ needed o t, (∀ i, o ≠ .extension i) → (reserveIf needed o t).1.entry l = t.entry l := by
    intro needed o t noExtension
    cases needed with
    | false => rfl
    | true =>
      cases free : t.freeLegList with
      | nil => simp [reserveIf, reserveLeg_of_none o free]
      | cons k rest =>
        rw [reserveIf, if_pos rfl, reserveLeg_of_first o free]
        cases o with
        | extension i => exact absurd rfl (noExtension i)
        | _ => rfl
  have before : ∀ l, (tieReserved h s).1.entry l = s.entry l := fun l => by
    rw [tieReserved]
    cases s.toTieGroup h.b with
    | false => rfl
    | true =>
      cases free : s.freeLegList with
      | nil => simp [reserveIf, reserveLeg_of_none _ free]
      | cons k rest => rw [reserveIf, if_pos rfl, reserveLeg_of_first _ free]; rfl
  rw [farReserved, others _ _ _ (by simp), ownReserved]
  cases s.callerNeedsLeg h with
  | false => by_cases same : l = h.a <;> simp [reserveIf, before, same]
  | true =>
    cases free : (tieReserved h s).1.freeLegList with
    | nil => by_cases same : l = h.a <;> simp [reserveIf, reserveLeg_of_none _ free, before, same]
    | cons k rest =>
      rw [reserveIf, if_pos rfl, reserveLeg_of_first _ free]
      by_cases same : l = h.a
      · subst same
        simp [legReserved, entry_setEntry, inRange, before]
      · simp [legReserved, Ne.symm same, before, same]

theorem entry_callCreated (inRange : h.a < 512) (l : Nat) : (callCreated h s).entry l =
    if l = h.a then { s.entry h.a with
      ownedLeg := ((legsGiven s h).lookup (.extension h.a)).or (s.entry h.a).ownedLeg
      stack := pushStack s.newReference (s.entry h.a).stack }
    else s.entry l := by
  have written : (callCreated h s).entry l = ((farReserved h s).1.setEntry h.a { (farReserved h s).1.entry h.a with
      stack := pushStack s.newReference ((farReserved h s).1.entry h.a).stack }).entry l := by
    unfold callCreated
    cases h.b <;> rfl
  rw [written, entry_setEntry, entry_farReserved _ _ inRange, entry_farReserved _ _ inRange, if_pos rfl, ownReserved_snd]
  by_cases same : l = h.a
  · rw [if_pos ⟨same.symm, inRange⟩, if_pos same]
  · rw [if_neg fun both => same both.1.symm, if_neg same, if_neg same]

/-- Too few legs are given exactly when fewer are FREE than needed, where a tie call finds one. -/
theorem newCall_status (tie : s.toTieGroup h.b = true → s.freeLegList ≠ []) : (newCall h s).status =
    if (s.legsNeeded h.a h.b s.newReference).length ≤ s.freeLegList.length then .notSecure else .clearByCapacity := by
  have tieFree : (s.toTieGroup h.b).toNat ≤ s.freeLegList.length := by
    cases needs : s.toTieGroup h.b with
    | false => exact Nat.zero_le _
    | true => exact List.length_pos_iff.mpr (tie needs)
  have own : s.callerNeedsLeg h = true →
      ((ownReserved h s).2.isNone = true ↔ s.freeLegList.length ≤ (s.toTieGroup h.b).toNat) := fun needs => by
    rw [ownReserved, needs, reserveIf_isNone, tieReserved, reserveIf_fst, freeLegList_reserveAll, List.drop_eq_nil_iff]
    cases s.toTieGroup h.b <;> rfl
  have far : s.calleeNeedsLeg h = true → ((farReserved h s).2.isNone = true ↔
      s.freeLegList.length ≤ (s.toTieGroup h.b).toNat + (s.callerNeedsLeg h).toNat) := fun needs => by
    rw [farReserved, needs, reserveIf_isNone, ownReserved_fst, freeLegList_reserveAll, List.drop_eq_nil_iff, ownersBefore]
    cases s.toTieGroup h.b <;> cases s.callerNeedsLeg h <;> rfl
  have short : ((s.callerNeedsLeg h && (ownReserved h s).2.isNone) ||
      (s.calleeNeedsLeg h && (farReserved h s).2.isNone)) = true ↔ s.freeLegList.length < s.neededLegs h := by
    rw [State.neededLegs, Bool.or_eq_true, Bool.and_eq_true, Bool.and_eq_true, and_congr_right own, and_congr_right far]
    revert tieFree
    cases s.toTieGroup h.b <;> cases s.callerNeedsLeg h <;> cases s.calleeNeedsLeg h <;> intro tieFree <;>
      simp only [Bool.toNat_true, Bool.toNat_false, true_and, Bool.false_eq_true, false_and, false_or, or_false,
        false_iff] at tieFree ⊢ <;>
      omega
  rw [legsNeeded_length, newCall]
  by_cases enough : s.neededLegs h ≤ s.freeLegList.length
  · exact (if_neg (fun few => Nat.not_lt.mpr enough (short.mp few))).trans (if_pos enough).symm
  · exact (if_pos (short.mpr (Nat.not_le.mp enough))).trans (if_neg enough).symm

theorem newCall_eq (tie : s.toTieGroup h.b = true → s.freeLegList ≠ []) : newCall h s =
    { ref := s.newReference
      a := h.a
      b := h.b
      forwarded := h.forwarded
      tieNumber := none
      tieLeg := (legsGiven s h).lookup (.tieCall s.newReference)
      service := h.service
      state := .alerting
      requiresSecure := h.requiresSecure
      status := if (s.legsNeeded h.a h.b s.newReference).length ≤ s.freeLegList.length then .notSecure else .clearByCapacity
      bReservation := (legsGiven s h).lookup (.bSide s.newReference)
      grace := none } := by
  rw [← newCall_status h s tie, ← tieReserved_snd, ← farReserved_snd]
  rfl

/-- What a new call's creation writes: the entry, the legs and the group, the table and the counter. -/
theorem callCreated_eq : callCreated h s = { s with
    directory := (callCreated h s).directory
    legs := (callCreated h s).legs
    groups := (callCreated h s).groups
    calls := s.calls ++ [newCall h s]
    referenceCounter := nextReference s.newReference } := by
  have leg : ∀ o t, (reserveLeg o t).1 =
      { t with directory := (reserveLeg o t).1.directory, legs := (reserveLeg o t).1.legs } := fun o t => by
    cases free : t.freeLegList with
    | nil => rw [reserveLeg_of_none o free]
    | cons k rest => rw [reserveLeg_of_first o free]; cases o <;> rfl
  have all : ∀ owners t, reserveAll owners t =
      { t with directory := (reserveAll owners t).directory, legs := (reserveAll owners t).legs } := fun owners => by
    induction owners with
    | nil => exact fun t => rfl
    | cons o rest ih => intro t; rw [reserveAll, ih, leg]
  have written : ∀ r : State, r = { s with directory := r.directory, legs := r.legs } → (farReserved h s).1 = r →
      callCreated h s = { s with
        directory := (callCreated h s).directory
        legs := (callCreated h s).legs
        groups := (callCreated h s).groups
        calls := s.calls ++ [newCall h s]
        referenceCounter := nextReference s.newReference } := fun r frame reserved => by
    unfold callCreated
    rw [reserved, frame]
    cases h.b <;> rfl
  exact written _ (farReserved_fst h s ▸ all _ s) rfl

end

/-- A call to a service with no leg to reserve writes its caller's stack, the table and the counter. -/
theorem callCreated_of_noLegs {h : HandOver} {s : State} {code : Nat} (service : h.b = .service code)
    (noNeed : s.legsNeeded h.a h.b s.newReference = []) : callCreated h s =
      { s.setEntry h.a { s.entry h.a with stack := pushStack s.newReference (s.entry h.a).stack } with
        calls := s.calls ++ [{
          ref := s.newReference
          a := h.a
          b := h.b
          forwarded := h.forwarded
          tieNumber := none
          tieLeg := none
          service := h.service
          state := .alerting
          requiresSecure := h.requiresSecure
          status := .notSecure
          bReservation := none
          grace := none }]
        referenceCounter := nextReference s.newReference } := by
  have noLegs : (farReserved h s).1 = s := by rw [farReserved_fst, noNeed]; rfl
  have noTie : s.toTieGroup h.b = true → s.freeLegList ≠ [] := by rw [service]; exact nofun
  have given : legsGiven s h = [] := by rw [legsGiven, noNeed]; rfl
  unfold callCreated
  rw [noLegs, newCall_eq h s noTie, noNeed, given, service]
  rfl

/-- The reference that the obligation's count of the held ones names. -/
theorem newReference_eq {s : State} (few : s.calls.length < 96) {m : Nat}
    (range : m = 0 ∨ 1 ≤ s.referenceCounter ∧ s.referenceCounter ≤ 65535)
    (held : ∀ x < m, ∃ c ∈ s.calls, c.ref = if x = 0 then s.referenceCounter else (s.referenceCounter - 1 + x) % 65535 + 1)
    (free : ∀ c ∈ s.calls, c.ref ≠ if m = 0 then s.referenceCounter else (s.referenceCounter - 1 + m) % 65535 + 1) :
    s.newReference = if m = 0 then s.referenceCounter else (s.referenceCounter - 1 + m) % 65535 + 1 := by
  have offered : ∀ x ≤ m, offeredReference s.referenceCounter x =
      if x = 0 then s.referenceCounter else (s.referenceCounter - 1 + x) % 65535 + 1 := fun x hx => by
    split
    next zero => rw [zero, offeredReference]
    next => exact offeredReference_eq (by omega) (by omega) x
  have unheld : offeredReference s.referenceCounter m ∉ s.calls.map (fun c => c.ref) := fun h => by
    obtain ⟨c, hc, same⟩ := List.mem_map.mp h
    exact free c hc (same.trans (offered m le_rfl))
  have before : ∀ x < m, offeredReference s.referenceCounter x ∈ s.calls.map (fun c => c.ref) := fun x hx => by
    obtain ⟨c, hc, same⟩ := held x hx
    exact List.mem_map.mpr ⟨c, hc, same.trans (offered x hx.le).symm⟩
  have few96 : m ≤ 96 := by
    rcases range with rfl | ⟨low, high⟩
    · omega
    · obtain ⟨x, hx, unheldX, -⟩ := exists_free_reference low high (held := s.calls.map (fun c => c.ref)) (by simpa using few)
      by_contra many
      exact unheldX (before x (by omega))
  rw [← offered m le_rfl]
  exact freeReference_eq _ 96 _ m few96 before (fun _ => unheld)

theorem endScreening_secure (i : Nat) (s : State) (k : Nat) : ((endScreening i s).entry k).secure = (s.entry k).secure := by
  rw [endScreening, entry_setEntry]
  split
  next same => rw [same.1]
  next => rfl

theorem endScreening_ownedLeg (i : Nat) (s : State) (k : Nat) :
    ((endScreening i s).entry k).ownedLeg = (s.entry k).ownedLeg := by
  rw [endScreening, entry_setEntry]
  split
  next same => rw [same.1]
  next => rfl

theorem legsNeeded_endScreening (l : Nat) (s : State) (i : Nat) (b : BParty) (ref : Nat) :
    (endScreening l s).legsNeeded i b ref = s.legsNeeded i b ref := by
  simp only [State.legsNeeded, endScreening_secure, endScreening_ownedLeg]
  rfl

theorem legsGiven_endScreening (l : Nat) (s : State) (h : HandOver) : legsGiven (endScreening l s) h =
    (s.legsNeeded h.a h.b s.newReference).zip s.freeLegList := by
  rw [legsGiven, legsNeeded_endScreening]
  rfl

theorem entry_callCreated_ended {h : HandOver} {s : State} (inRange : h.a ≤ 511) (l : Nat) :
    (callCreated h (endScreening h.a s)).entry l = if l = h.a then { s.entry h.a with
      register := []
      screening := false
      interdigit := none
      stack := pushStack s.newReference (s.entry h.a).stack
      ownedLeg := (((s.legsNeeded h.a h.b s.newReference).zip s.freeLegList).lookup (.extension h.a)).or
        (s.entry h.a).ownedLeg } else s.entry l := by
  have ended := entry_setEntry_self s inRange
    { s.entry h.a with screening := false, register := [], interdigit := none }
  rw [entry_callCreated _ _ (by omega), legsGiven_endScreening, endScreening, ended]
  by_cases same : l = h.a
  · rw [if_pos same, if_pos same]
    rfl
  · rw [if_neg same, if_neg same, entry_setEntry_ne _ _ _ _ (Ne.symm same)]

/-- The B party in a ROUTED reply: its kind, callee, group and service code (R191). -/
def routedParty : BParty → List Byte
  | .extension k => [0] ++ wordBytes k ++ [0, 0]
  | .group g => [1, 0, 0, byteOf g, 0]
  | .service code => [2, 0, 0, 0, byteOf code]

theorem routedBody_of_passes {s : State} {i n ref : Nat} {r : Route} {digits forwarded : List Nat} {b : BParty}
    (passes : s.ScreenPasses i digits r b) : routedBody i n ref r (handOver s i r b forwarded) =
      wordBytes i ++ [byteOf n] ++ wordBytes ref ++ routedParty b ++ digitsBytes 20 forwarded := by
  obtain ⟨-, party⟩ := passes
  have zero : wordBytes 0 = [0, 0] := rfl
  cases kind : r.kind with
  | service code => rw [kind] at party; subst party; simp [routedBody, routedParty, handOver, kind, RouteKind.code, BParty.extension?, zero]
  | trunk g =>
    rw [kind] at party
    obtain ⟨rfl, -⟩ := party
    simp [routedBody, routedParty, handOver, kind, RouteKind.code, BParty.extension?, zero]
  | localCall =>
    rw [kind] at party
    obtain ⟨-, k, -, rfl, -⟩ := party
    simp [routedBody, routedParty, handOver, kind, RouteKind.code, BParty.extension?]

/-- A TRUNK call goes to one of the groups of the table: the budget of any other is 0. -/
theorem group_lt_of_passes {s : State} {i : Nat} {r : Route} {digits : List Nat} {g : Nat}
    (passes : s.ScreenPasses i digits r (.group g)) : g < 16 := by
  by_contra high
  obtain ⟨-, party⟩ := passes
  cases kind : r.kind with
  | service code => rw [kind] at party; cases party
  | localCall => rw [kind] at party; obtain ⟨-, k, -, other, -⟩ := party; cases other
  | trunk g' =>
    rw [kind] at party
    obtain ⟨same, -, room⟩ := party
    cases same
    simp [State.group, readAt_of_le _ _ _ (Nat.le_of_not_lt high), Group.atReset] at room

theorem takeDigit_of_routed {entry : Word} {value : Byte} {s : State} {n : Nat} {r : Route} {h : HandOver}
    (inRange : entry.toNat ≤ 511) (digit : value.toNat ≤ 9) (mode : s.mode ≠ .maintenance)
    (active : (s.entry entry.toNat).screening = true) (apart : s.RoutesApart) (occupied : s.route n = some r)
    (isExact : r.IsExact ((s.entry entry.toNat).register ++ [value.toNat]))
    (decided : s.decision entry.toNat r ((s.entry entry.toNat).register ++ [value.toNat]) = .ok h) :
    takeDigit entry value s = (evaluateCalls (callCreated h (endScreening entry.toNat s)),
      .now .routed (routedBody entry.toNat n s.newReference r h)) := by
  rw [takeDigit_of_exact inRange digit mode active apart occupied isExact, decided]
  rfl

/-- The call unit takes a hand-over that is feasible and finds the legs that it must have. -/
theorem decision_of_feasible {s : State} {i : Nat} {r : Route} {digits : List Nat} {b : BParty}
    (legal : s.legality i r.service ≠ .barred) (passes : s.ScreenPasses i digits r b) (room : s.calls.length < 96)
    (ref : Nat)
    (feasible : s.legality i r.service = .secureOnly ∨ r.secureRequired = true → (s.entry i).secure = true ∧
      (∀ k, b = .extension k → (s.entry k).secure = true) ∧ (∀ g, b = .group g → (s.group g).kind = .tie) ∧
      (s.legsNeeded i b ref).length ≤ s.freeLegList.length)
    (tie : ∀ g, b = .group g → (s.group g).kind = .tie → s.freeLegList ≠ []) :
    s.decision i r digits = .ok (handOver s i r b (forwardedTo b r digits)) := by
  rw [decision_of_passes legal (partyCheck_of_passes passes) passes.1, handOverRefusal_of_room _ room, if_neg]
  rintro (⟨requires, short⟩ | ⟨toTie, none⟩)
  · obtain ⟨own, far, group, enough⟩ := feasible ((requiresSecure_iff _ _).mp requires)
    rcases short with infeasible | few
    · rcases (infeasible_iff _ _).mp infeasible with clear | ⟨k, toK, clear⟩ | ⟨g, toG, plain⟩
      · rw [show (s.entry i).secure = false from clear] at own; cases own
      · rw [far k toK] at clear; cases clear
      · rw [group g toG] at plain; cases plain
    · rw [freeLegs_eq, ← legsNeeded_length s _ ref] at few
      exact absurd enough (Nat.not_le.mpr few)
  · obtain ⟨g, toG, isTie⟩ := (toTieGroup_iff s b).mp toTie
    rw [freeLegs_eq] at none
    exact tie g toG isTie (List.length_eq_zero_iff.mp none)

/-- Settles O29: the hand-over passes, and what the call's creation writes. -/
theorem digitRoutesServiceCall : Obligations.DigitRoutesServiceCall := by
  intro s j tag entry value n r hs inRange digit mode active apart occupied i e digits legality m offered ref length low high
    legal few range held free
  have reference : s.newReference = ref := newReference_eq few range held free
  clear_value ref
  subst reference
  refine ⟨fun code kind room noLeg secure => request_answered hs ?_, ?_⟩
  · have passes : s.ScreenPasses i digits r (.service code) := ⟨room, by rw [kind]⟩
    have noNeed : s.legsNeeded i (.service code) s.newReference = [] := by
      simp only [State.legsNeeded, List.nil_append, List.append_nil]
      exact if_neg fun short => noLeg.elim (fun clear => by simp [e, short.1] at clear) (fun owns => owns short.2)
    have noRequire : e.secure = false → ¬ (legality = .secureOnly ∨ r.secureRequired = true) := fun clear => by
      obtain ⟨allowed, open_⟩ := secure.resolve_left (by simp [clear])
      simp [allowed, open_]
    have decided := decision_of_feasible legal passes few s.newReference
      (fun requires => ⟨by by_contra clear; exact noRequire (by simpa using clear) requires, nofun, nofun, by simp [noNeed]⟩)
      nofun
    have answer := takeDigit_of_routed inRange digit mode active apart occupied ⟨length, low, high⟩ decided
    have created := callCreated_of_noLegs (h := handOver s i r (.service code) []) (s := endScreening i s) rfl
      ((legsNeeded_endScreening ..).trans noNeed)
    have ended := entry_setEntry_self s inRange { s.entry i with screening := false, register := [], interdigit := none }
    rw [answer, routedBody_of_passes passes]
    refine congrArg (fun t => (evaluateCalls t, _)) (created.trans ?_)
    simp only [handOver, endScreening, setEntry_setEntry, i, ended]
    rfl
  · intro b passes requires needed given feasible tie forwarded party
    have decided := decision_of_feasible legal passes few s.newReference feasible tie
    have answer := takeDigit_of_routed inRange digit mode active apart occupied ⟨length, low, high⟩ decided
    have entryOf := entry_callCreated_ended (h := handOver s i r b (forwardedTo b r digits)) (s := s) inRange
    have tieFree : s.toTieGroup b = true → s.freeLegList ≠ [] := fun toTie => by
      obtain ⟨g, toG, isTie⟩ := (toTieGroup_iff s b).mp toTie
      exact tie g toG isTie
    refine ⟨callCreated (handOver s i r b (forwardedTo b r digits)) (endScreening i s), request_answered hs ?_, ?_,
      (entryOf i).trans (if_pos rfl), fun l other => (entryOf l).trans (if_neg other), fun k => ?_, fun g => ?_⟩
    · rw [answer, routedBody_of_passes passes]
      cases b <;> rfl
    · have call := newCall_eq (handOver s i r b (forwardedTo b r digits)) (endScreening i s) tieFree
      rw [legsGiven_endScreening, legsNeeded_endScreening] at call
      refine (callCreated_eq _ _).trans ?_
      rw [call]
      cases b <;> rfl
    · have leg := leg_callCreated (handOver s i r b (forwardedTo b r digits)) (endScreening i s) k
      rw [legsGiven_endScreening] at leg
      exact leg
    · by_cases hg : g < 16
      · exact callCreated_group _ _ g hg
      · have beyond : ∀ t : State, t.group g = Group.atReset := fun t => readAt_of_le _ _ _ (Nat.le_of_not_lt hg)
        rw [beyond, beyond, if_neg]
        rintro rfl
        exact hg (group_lt_of_passes passes)

end Sys2Proof.Machine
end

section
/-! PROOFS. What the read requests show (O35). -/

namespace Sys2Proof.Machine

/-! ### The bodies of the read requests (R191) -/

theorem wordBytes_length (n : Nat) : (wordBytes n).length = 2 := rfl

theorem wordBytes_zero : wordBytes 0 = [0, 0] := rfl

theorem longBytes_length (n : Nat) : (longBytes n).length = 4 := rfl

theorem digitsBytes_length {m : Nat} {digits : List Nat} (h : digits.length ≤ m) : (digitsBytes m digits).length = m + 1 := by
  simp only [digitsBytes, List.length_cons, List.length_append, List.length_map, List.length_replicate]
  omega

theorem presenceLong_eq (n : Option Long) : presenceLong n = match n with
    | none => [0, 0, 0, 0, 0]
    | some n => 1 :: longBytes n.toNat := by
  cases n <;> rfl

theorem flagByte_heldBy (s : State) (i r : Nat) :
    flagByte (s.heldBy i r) = if ∃ x ∈ (s.entry i).stack, x.call = r ∧ x.held = true then 1 else 0 := by
  have held : s.heldBy i r = true ↔ ∃ x ∈ (s.entry i).stack, x.call = r ∧ x.held = true := by simp [State.heldBy]
  rw [flagByte]
  simp only [held]

theorem flagByte_monitorActive (s : State) : flagByte s.monitorActive =
    if s.params.silenceInterval ≠ 0 ∧ s.mode ≠ .maintenance then 1 else 0 := by
  have active : s.monitorActive = true ↔ s.params.silenceInterval ≠ 0 ∧ s.mode ≠ .maintenance := by simp [State.monitorActive]
  rw [flagByte]
  simp only [active]

theorem outboundCode_eq (o : OpenLeg) : (o.stateOf .outbound).code = match o.out.state with
    | .wait => 1
    | .run => 2
    | .late => 3 := by
  rw [OpenLeg.stateOf]
  cases o.out.state <;> rfl

theorem inboundCode_eq (o : OpenLeg) : (o.stateOf .inbound).code = match o.inb.state with
    | .run => 2
    | .late => 3
    | .hunt => 4 := by
  rw [OpenLeg.stateOf]
  cases o.inb.state <;> rfl

theorem directionBytes_length (o : OpenLeg) (d : Direction) : (directionBytes o d).length = 22 := by
  simp [directionBytes, presenceLong, longBytes_length]

theorem takeReadExtension_of_unheld {f : DigitsField} {d : List Nat} {s : State} (carried : DigitsCarry f 6 d)
    (low : 3 ≤ d.length) (high : d.length ≤ 6) (unheld : s.lookupNumber d = none) :
    takeReadExtension (.byNumber f) s = (s, .now .notFound []) := by
  simp only [takeReadExtension, (digitsOf_eq_some_iff 3 6 6 f d carried.2.1).mpr ⟨carried, low, high⟩, unheld, refuse_eq]

theorem takeReadExtension_of_held {f : DigitsField} {d : List Nat} {s : State} {i : Nat} (carried : DigitsCarry f 6 d)
    (low : 3 ≤ d.length) (high : d.length ≤ 6) (held : s.lookupNumber d = some i) :
    takeReadExtension (.byNumber f) s = (s, .now .ok (extensionBody s i)) := by
  simp only [takeReadExtension, (digitsOf_eq_some_iff 3 6 6 f d carried.2.1).mpr ⟨carried, low, high⟩, held]

theorem callBody_length (s : State) (c : Call) (short : c.forwarded.length ≤ 20) : (callBody s c).length = 45 := by
  simp only [callBody, List.length_append, List.length_cons, List.length_nil, wordBytes_length, longBytes_length,
    digitsBytes_length short, countWord, ticksWord]

theorem legBody_length (s : State) (k : Nat) : (legBody s k).length = 59 := by
  rw [legBody]
  split
  · simp [wordBytes_length]
  · simp [wordBytes_length, directionBytes_length, countWord, ticksWord]

theorem stackBytes_length (stack : List StackItem) : (stackBytes stack).length = 10 := by
  match stack with
  | [] => rfl
  | [_] => rfl
  | [_, _] => rfl
  | _ :: _ :: _ :: _ => rfl

theorem extensionBody_length (s : State) (i : Nat) (number : (s.entry i).number.length ≤ 6)
    (register : (s.entry i).register.length ≤ 16) : (extensionBody s i).length = 55 := by
  simp only [extensionBody, List.length_append, List.length_cons, List.length_nil, wordBytes_length, longBytes_length,
    digitsBytes_length number, digitsBytes_length register, stackBytes_length, countWord, ticksWord, countLong]

theorem byteOf_toNat (b : Byte) : byteOf b.toNat = b := by simp [byteOf]

/-- A READ EXTENSION by a number field of 6 bytes is answered by its handler. -/
theorem readExtension_answered {tag : Byte} {f : DigitsField} {j : Nat} {s t : State} {st : Status} {body : List Byte}
    (hs : s.freeSlot = some j) (width : f.bytes.length = 6) (answer : takeReadExtension (.byNumber f) s = (t, .now st body)) :
    exec (.readExtension tag (.byNumber f)) s = .next (answered j 7 tag st body t) :=
  request_answered hs answer ⟨by rw [extensionNameLength, width]; decide, by decide, rfl⟩

theorem readExtension_byIndex_answered {tag : Byte} {entry : Word} {j : Nat} {s t : State} {st : Status} {body : List Byte}
    (hs : s.freeSlot = some j) (answer : takeReadExtension (.byIndex entry) s = (t, .now st body)) :
    exec (.readExtension tag (.byIndex entry)) s = .next (answered j 7 tag st body t) :=
  request_answered hs answer ⟨by rw [extensionNameLength]; decide, by decide, rfl⟩

theorem shows {s : State} {body body' : List Byte} (h : body = body') : (s, Answer.now .ok body) = (s, .now .ok body') :=
  congrArg (fun b => (s, Answer.now .ok b)) h

/-- Settles O35: the tests of each read request, and its body field by field. -/
theorem readsShowTheRecords : Obligations.ReadsShowTheRecords := by
  intro s j tag hs yes place remaining digits present
  refine ⟨fun group => ⟨fun high => request_answered hs (if_pos high), fun inRange => ?_⟩, request_answered hs rfl,
    request_answered hs (shows ?_), request_answered hs rfl, ⟨request_answered hs (if_pos rfl), fun ref nonzero => ⟨fun none => ?_,
      fun c found => ?_⟩⟩, fun leg => ⟨fun high => request_answered hs (if_pos high), fun inRange => ?_⟩,
    fun entry high => readExtension_byIndex_answered hs (if_pos high), fun f width => ⟨fun outside => ?_, fun d carried low high unheld => ?_⟩,
    fun entry inRange => ?_⟩
  · exact request_answered hs ((if_neg (by omega)).trans rfl)
  · rw [supervisionBody, flagByte_monitorActive]
    cases s.mode <;> cases s.silence <;> rfl
  · exact request_answered hs (by rw [takeReadCall, if_neg nonzero, none, refuse_eq])
  · intro heldBy body
    have shown : callBody s c = body := by
      simp only [callBody, flagByte_heldBy, body]
      cases c.b with
      | extension i =>
        simp only [BParty.extension?, Option.map_some, Option.getD_some, flagByte_heldBy, List.append_assoc,
          List.cons_append, List.nil_append]
        rfl
      | _ => simp only [List.append_assoc, List.cons_append, List.nil_append]; rfl
    rw [← shown]
    exact ⟨request_answered hs (by rw [takeReadCall, if_neg nonzero, found]), callBody_length s c⟩
  · intro stamp owner direction body
    have shown : legBody s leg.toNat = body := by
      simp only [legBody, directionBytes, presenceLong_eq, body, stamp]
      cases (s.leg leg.toNat).use with
      | free => simp only [List.append_assoc, List.cons_append, List.nil_append, byteOf_toNat]; rfl
      | reserved w => cases w <;> (simp only [List.append_assoc, List.cons_append, List.nil_append, byteOf_toNat]; rfl)
      | opened w o =>
        cases w <;> (simp only [List.append_assoc, List.cons_append, List.nil_append, byteOf_toNat, direction,
          outboundCode_eq, inboundCode_eq, LegUse.owner?, Option.map_some, Option.getD_some, Owner.number, wordBytes_zero]; rfl)
    rw [← shown]
    exact ⟨request_answered hs (if_neg (by omega)), legBody_length s leg.toNat⟩
  · refine readExtension_answered hs width ?_
    have none : digitsOf 3 6 f = none := Option.eq_none_iff_forall_ne_some.mpr fun d read => by
      obtain ⟨carried, low, high⟩ := (digitsOf_eq_some_iff 3 6 6 f d width).mp read
      exact (outside d carried).elim (by omega) (by omega)
    rw [takeReadExtension, none, refuse_eq]
  · refine readExtension_answered hs width ?_
    have none : s.lookupNumber d = none := by simpa [numberHeld_iff] using unheld
    exact takeReadExtension_of_unheld carried low high none
  · intro e stacked body
    have shown : extensionBody s entry.toNat = body := by
      simp only [extensionBody, body, e, stackBytes, List.flatMap_cons, List.flatMap_nil, List.append_nil]
      rcases (s.entry entry.toNat).timer with - | ⟨- | -, c⟩ <;>
        (simp only [List.append_assoc, List.cons_append, List.nil_append]; rfl)
    rw [← shown]
    refine ⟨readExtension_byIndex_answered hs (if_neg (by omega)), extensionBody_length s entry.toNat,
      fun f unique held low high carried => readExtension_answered hs carried.2.1 ?_⟩
    exact takeReadExtension_of_held carried low high (lookupNumber_of_holder unique (by omega) held rfl)

end Sys2Proof.Machine
end

section
/-! PROOFS. The read requests tell nothing of the words of a key (O36). -/

namespace Sys2Proof.Machine

/-! ### A change of the link alone -/

/-- Only the queues, the slots and the transmitter of the link may differ. -/
def LinkOnly (s t : State) : Prop := t = { s with
  requestBuffer := t.requestBuffer
  replyQueue := t.replyQueue
  reportQueue := t.reportQueue
  lostFlag := t.lostFlag
  transmitting := t.transmitting }

theorem LinkOnly.trans {s t u : State} (h : LinkOnly s t) (h' : LinkOnly t u) : LinkOnly s u := by
  rw [LinkOnly, h', h]

theorem LinkOnly.transmitNext (s : State) : LinkOnly s (transmitNext s) := by
  unfold Machine.transmitNext
  split
  · rfl
  · split
    · rfl
    · split <;> rfl

theorem LinkOnly.queueReport (r : Report) (s : State) : LinkOnly s (queueReport r s) := by
  unfold Machine.queueReport
  split
  · split
    · refine .trans ?_ (.transmitNext _)
      rfl
    · rfl
  · rfl

theorem LinkOnly.answered (j : Nat) (kind tag : Byte) (st : Status) (body : List Byte) (s : State) :
    LinkOnly s (answered j kind tag st body s) := by
  unfold Machine.answered
  split
  · split
    · rfl
    · exact .queueReport _ s
  · refine .trans ?_ (.transmitNext _)
    rfl

/-! ### The link apart from the records -/

/-- A change of the records that neither reads nor writes the queues, the transmitter and the report mask. -/
def LinkApart (f : State → State) : Prop :=
  (∀ s, (f s).reportMask = s.reportMask) ∧ ∀ (s : State) sending replies reports lost,
    f { s with transmitting := sending, replyQueue := replies, reportQueue := reports, lostFlag := lost } =
      { f s with transmitting := sending, replyQueue := replies, reportQueue := reports, lostFlag := lost }

section
variable {f : State → State} (apart : LinkApart f) (s : State)
include apart

theorem LinkApart.link : (f s).transmitting = s.transmitting ∧ (f s).replyQueue = s.replyQueue ∧
    (f s).reportQueue = s.reportQueue ∧ (f s).lostFlag = s.lostFlag := by
  have same : f s = { f s with
      transmitting := s.transmitting, replyQueue := s.replyQueue, reportQueue := s.reportQueue, lostFlag := s.lostFlag } :=
    apart.2 s s.transmitting s.replyQueue s.reportQueue s.lostFlag
  rw [same]
  exact ⟨rfl, rfl, rfl, rfl⟩

theorem LinkApart.transmitNext : transmitNext (f s) = f (transmitNext s) := by
  obtain ⟨transmitting, replyQueue, reportQueue, lostFlag⟩ := apart.link s
  have kept : { f s with
      transmitting := s.transmitting, replyQueue := s.replyQueue, reportQueue := s.reportQueue, lostFlag := s.lostFlag } =
      f s := (apart.2 s s.transmitting s.replyQueue s.reportQueue s.lostFlag).symm
  cases sending : s.transmitting with
  | some x =>
    rw [transmitNext_of_busy (s := s) (by simp [sending]), transmitNext_of_busy (s := f s) (by simp [transmitting, sending])]
  | none =>
    rw [sending] at transmitting
    cases replies : s.replyQueue with
    | cons r rest =>
      rw [replies] at replyQueue
      rw [transmitNext_of_reply sending replies, transmitNext_of_reply transmitting replyQueue, ← kept]
      exact (apart.2 s (some (.reply r)) rest s.reportQueue s.lostFlag).symm
    | nil =>
      rw [replies] at replyQueue
      cases reports : s.reportQueue with
      | cons q rest =>
        rw [reports] at reportQueue
        rw [transmitNext_of_report sending replies reports, transmitNext_of_report transmitting replyQueue reportQueue, ← kept]
        exact (apart.2 s (some (.report q)) s.replyQueue rest s.lostFlag).symm
      | nil =>
        rw [reports] at reportQueue
        rw [transmitNext_of_nothing replies reports, transmitNext_of_nothing replyQueue reportQueue]

theorem LinkApart.queueReport (r : Report) : queueReport r (f s) = f (queueReport r s) := by
  obtain ⟨transmitting, replyQueue, reportQueue, lostFlag⟩ := apart.link s
  unfold Machine.queueReport
  by_cases enabled : s.reportEnabled r = true
  · rw [if_pos enabled, if_pos (show (f s).reportEnabled r = true by rw [State.reportEnabled, apart.1]; exact enabled)]
    by_cases room : s.reportQueue.length < Config.reportCapacity
    · rw [if_pos room, if_pos (by rw [reportQueue]; exact room), ← apart.transmitNext, reportQueue, lostFlag]
      have queued := apart.2 s s.transmitting s.replyQueue (s.reportQueue ++ [⟨r, s.lostFlag⟩]) false
      refine congrArg _ (.trans ?_ queued.symm)
      rw [← transmitting, ← replyQueue]
    · rw [if_neg room, if_neg (by rw [reportQueue]; exact room)]
      have lost := apart.2 s s.transmitting s.replyQueue s.reportQueue true
      refine .trans ?_ lost.symm
      rw [← transmitting, ← replyQueue, ← reportQueue]
  · rw [if_neg enabled, if_neg (show ¬ (f s).reportEnabled r = true by rw [State.reportEnabled, apart.1]; exact enabled)]

theorem LinkApart.formReply (r : Reply) : formReply r (f s) = f (formReply r s) := by
  obtain ⟨transmitting, replyQueue, reportQueue, lostFlag⟩ := apart.link s
  have queued := apart.2 s s.transmitting (s.replyQueue ++ [r]) s.reportQueue s.lostFlag
  rw [Machine.formReply, Machine.formReply, ← apart.transmitNext, replyQueue]
  refine congrArg _ (.trans ?_ queued.symm)
  rw [← transmitting, ← reportQueue, ← lostFlag]

end

/-! ### The link does not read keys -/

theorem linkApart_keysHidden : LinkApart State.keysHidden := ⟨fun _ => rfl, fun _ _ _ _ _ => rfl⟩

theorem answered_keysHidden (j : Nat) (kind tag : Byte) (st : Status) (body : List Byte) (s : State) :
    answered j kind tag st body s.keysHidden = (answered j kind tag st body s).keysHidden := by
  unfold answered
  split
  · split
    · rfl
    · exact linkApart_keysHidden.queueReport s _
  · exact linkApart_keysHidden.formReply (s.setSlot j (some ⟨kind, tag, none⟩)) _

/-! ### The reads do not read keys -/

section
variable (s : State)

theorem entry_keysHidden (i : Nat) : s.keysHidden.entry i = { s.entry i with
    secret := (s.entry i).secret.map (fun _ => ⟨0, 0, 0, 0⟩)
    sk := (s.entry i).sk.map (fun _ => ⟨0, 0, 0, 0⟩) } := by
  by_cases hi : i < 512
  · exact readAt_mapTable _ s.directory Entry.vacant Entry.vacant i hi
  · simp [State.entry, readAt_of_le _ _ _ (Nat.le_of_not_lt hi), Entry.vacant]

theorem group_keysHidden (g : Nat) : s.keysHidden.group g = { s.group g with
    tieKey := (s.group g).tieKey.map (fun _ => ⟨0, 0, 0, 0⟩) } := by
  by_cases hg : g < 16
  · exact readAt_mapTable _ s.groups Group.atReset Group.atReset g hg
  · simp [State.group, readAt_of_le _ _ _ (Nat.le_of_not_lt hg), Group.atReset]

theorem lookupNumber_keysHidden (digits : List Nat) : s.keysHidden.lookupNumber digits = s.lookupNumber digits := by
  simp only [lookupNumber_eq_find, entry_keysHidden]

theorem extensionBody_keysHidden (i : Nat) : extensionBody s.keysHidden i = extensionBody s i := by
  simp only [extensionBody, entry_keysHidden, Option.isSome_map]

theorem callBody_keysHidden (c : Call) : callBody s.keysHidden c = callBody s c := by
  simp only [callBody, State.heldBy, entry_keysHidden]
  rfl

theorem legBody_keysHidden {k : Nat} (hk : k < 48) : legBody s.keysHidden k = legBody s k := by
  have leg : s.keysHidden.leg k = _ := readAt_mapTable _ s.legs Leg.atReset Leg.atReset k hk
  rw [legBody, legBody, leg, State.leg]
  generalize readAt s.legs Leg.atReset k = l
  obtain ⟨stamp, use⟩ := l
  cases use with
  | free => rfl
  | reserved w => rfl
  | opened w o =>
    simp only [LegUse.opened?, directionBytes, OpenLeg.keys, Option.isSome_map, Option.map_map]
    rfl

end

/-- A request that answers without an effect, and answers alike when the words of the keys are hidden. -/
def ReadsNoKey (take : Handler) (s : State) : Prop :=
  ∃ st body, take s = (s, .now st body) ∧ take s.keysHidden = (s.keysHidden, .now st body)

theorem ReadsNoKey.now {take : Handler} {s : State} {st : Status} {body : List Byte} (h : take s = (s, .now st body))
    (h' : take s.keysHidden = (s.keysHidden, .now st body)) : ReadsNoKey take s := ⟨st, body, h, h'⟩

theorem ReadsNoKey.readExtension (name : ExtensionName) (s : State) : ReadsNoKey (takeReadExtension name) s := by
  cases name with
  | byIndex entry =>
    by_cases high : 511 < entry.toNat
    · exact .now (if_pos high) (if_pos high)
    · exact .now (if_neg high) ((if_neg high).trans (shows (extensionBody_keysHidden s _)))
  | byNumber f =>
    cases read : digitsOf 3 6 f with
    | none => exact .now (st := .badField) (body := []) (by rw [takeReadExtension, read]; rfl) (by rw [takeReadExtension, read]; rfl)
    | some d =>
      cases found : s.lookupNumber d with
      | none =>
        exact .now (st := .notFound) (body := []) (by simp only [takeReadExtension, read, found]; rfl)
          (by simp only [takeReadExtension, read, lookupNumber_keysHidden, found]; rfl)
      | some i =>
        exact .now (by simp only [takeReadExtension, read, found]; rfl)
          (by simp only [takeReadExtension, read, lookupNumber_keysHidden, found, extensionBody_keysHidden])

theorem ReadsNoKey.readCall (ref : Word) (s : State) : ReadsNoKey (takeReadCall ref) s := by
  by_cases zero : ref = 0
  · exact .now (if_pos zero) (if_pos zero)
  · have hidden : takeReadCall ref s.keysHidden = match s.call ref.toNat with
        | none => refuse .notFound s.keysHidden
        | some c => (s.keysHidden, .now .ok (callBody s.keysHidden c)) := by
      rw [takeReadCall, if_neg zero]
      rfl
    cases found : s.call ref.toNat with
    | none =>
      rw [found] at hidden
      exact .now (by rw [takeReadCall, if_neg zero, found]; rfl) hidden
    | some c =>
      rw [found] at hidden
      exact .now (by rw [takeReadCall, if_neg zero, found]) (hidden.trans (shows (callBody_keysHidden s c)))

theorem ReadsNoKey.readGroup (group : Byte) (s : State) : ReadsNoKey (takeReadGroup group) s := by
  by_cases high : 15 < group.toNat
  · exact .now (if_pos high) (if_pos high)
  · refine .now (if_neg high) ((if_neg high).trans (shows ?_))
    simp only [groupBody, group_keysHidden, Option.isSome_map]

theorem ReadsNoKey.readLeg (leg : Byte) (s : State) : ReadsNoKey (takeReadLeg leg) s := by
  by_cases high : 47 < leg.toNat
  · exact .now (if_pos high) (if_pos high)
  · exact .now (if_neg high) ((if_neg high).trans (shows (legBody_keysHidden s (by omega))))

theorem ReadsNoKey.readClass (cls : Byte) (s : State) : ReadsNoKey (takeReadClass cls) s := by
  by_cases high : 15 < cls.toNat
  · exact .now (if_pos high) (if_pos high)
  · exact .now (if_neg high) (if_neg high)

theorem ReadsNoKey.readRoute (route : Byte) (s : State) : ReadsNoKey (takeReadRoute route) s := by
  by_cases high : 63 < route.toNat
  · exact .now (if_pos high) (if_pos high)
  · exact .now (if_neg high) (if_neg high)

theorem ReadsNoKey.readKeyUnit (s : State) : ReadsNoKey takeReadKeyUnit s := by
  refine .now rfl (shows ?_)
  rw [keyUnitBody, keyUnitBody]
  simp only [State.keysHidden, Option.isSome_map, List.length_map]

theorem ReadsNoKey.linkTests {kind tag : Byte} {len : Nat} {take : Handler} {s : State}
    (noAdmission : kind ≠ kindAdmitBegin ∧ kind ≠ kindAdmitAnswer) (reads : ReadsNoKey take s) :
    ReadsNoKey (linkTests kind tag len take) s := by
  have passes : ¬ (tag = 0 ∧ (kind = kindAdmitBegin ∨ kind = kindAdmitAnswer)) := by tauto
  by_cases known : (!(allowedLengths kind.toNat).contains len) = true
  · exact .now (if_pos known) (if_pos known)
  · obtain ⟨st, body, h, h'⟩ := reads
    exact .now ((if_neg known).trans ((if_neg passes).trans h)) ((if_neg known).trans ((if_neg passes).trans h'))

/-- What the obligation says of a read request, for the arrival of its frame. -/
theorem requestArrives_of_reads {kind tag : Byte} {len : Nat} {take : Handler} {s : State}
    (noAdmission : kind ≠ kindAdmitBegin ∧ kind ≠ kindAdmitAnswer) (reply : replyKind kind = kind + 64)
    (reads : ReadsNoKey take s) :
    (∀ j, s.freeSlot = some j → ∃ st body, requestArrives kind tag len take s = answered j kind tag st body s ∧
      requestArrives kind tag len take s.keysHidden = answered j kind tag st body s.keysHidden) ∧
    requestArrives kind tag len take s.keysHidden = (requestArrives kind tag len take s).keysHidden ∧
    LinkOnly s (requestArrives kind tag len take s) := by
  obtain ⟨st, body, h, h'⟩ := reads.linkTests (tag := tag) (len := len) noAdmission
  cases free : s.freeSlot with
  | none =>
    have discards : ∀ u : State, u.freeSlot = none → requestArrives kind tag len take u =
        unlessHeld (queueReport (.requestDiscarded kind tag)) u := fun u none => by rw [requestArrives, takeSlot, none]
    refine ⟨nofun, ?_, ?_⟩
    · rw [discards s free, discards s.keysHidden free]
      by_cases held : s.resetHeld = true
      · rw [unlessHeld_of_held _ held, unlessHeld_of_held (s := s.keysHidden) _ held]
      · have running : s.resetHeld = false := by simpa using held
        rw [unlessHeld_of_running _ running, unlessHeld_of_running (s := s.keysHidden) _ running,
          linkApart_keysHidden.queueReport]
    · rw [discards s free, unlessHeld]
      split
      · rfl
      · exact .queueReport _ s
  | some j =>
    have taken : requestArrives kind tag len take s = answered j kind tag st body s := by
      rw [requestArrives, takeSlot, free, h]
      exact settleRequest_now j kind tag st body s reply
    have hidden : requestArrives kind tag len take s.keysHidden = answered j kind tag st body s.keysHidden := by
      rw [requestArrives, takeSlot, show s.keysHidden.freeSlot = some j from free, h']
      exact settleRequest_now j kind tag st body _ reply
    refine ⟨fun j' same => ?_, by rw [taken, hidden, answered_keysHidden], by rw [taken]; exact .answered ..⟩
    cases same
    exact ⟨st, body, taken, hidden⟩

/-- Settles O36: each read request answers alike with the words of the keys hidden. -/
theorem readsRevealNoKey : Obligations.ReadsRevealNoKey := by
  intro c s isRead
  have reads : ∀ {kind tag : Byte} {len : Nat} {take : Handler}, (∀ u, exec c u = .next (requestArrives kind tag len take u)) →
      ReadsNoKey take s →
      (known : (kind ≠ kindAdmitBegin ∧ kind ≠ kindAdmitAnswer) ∧ replyKind kind = kind + 64 := by decide) →
      (∀ j, s.freeSlot = some j → ∃ kind tag status body, exec c s = .next (answered j kind tag status body s) ∧
        exec c s.keysHidden = .next (answered j kind tag status body s.keysHidden)) ∧
      ∃ t t', exec c s = .next t ∧ exec c s.keysHidden = .next t' ∧
        t'.transmitting = t.transmitting ∧ t'.replyQueue = t.replyQueue ∧ t'.reportQueue = t.reportQueue ∧
        t'.lostFlag = t.lostFlag ∧ LinkOnly s t := by
    intro kind tag len take runs noKey known
    obtain ⟨answers, hidden, frame⟩ := requestArrives_of_reads (tag := tag) (len := len) known.1 known.2 noKey
    refine ⟨fun j free => ?_, _, _, runs s, (runs _).trans (congrArg _ hidden), rfl, rfl, rfl, rfl, frame⟩
    obtain ⟨st, body, e, e'⟩ := answers j free
    exact ⟨kind, tag, st, body, by rw [runs, e], by rw [runs, e']⟩
  cases c with
  | readExtension tag name => exact reads (fun _ => rfl) (.readExtension name s)
  | readClass tag cls => exact reads (fun _ => rfl) (.readClass cls s)
  | readRoute tag route => exact reads (fun _ => rfl) (.readRoute route s)
  | readCall tag ref => exact reads (fun _ => rfl) (.readCall ref s)
  | readGroup tag group => exact reads (fun _ => rfl) (.readGroup group s)
  | readLeg tag leg => exact reads (fun _ => rfl) (.readLeg leg s)
  | readKeyUnit tag => exact reads (fun _ => rfl) (.readKeyUnit s)
  | readSupervision tag => exact reads (fun _ => rfl) (.now rfl rfl)
  | identify tag => exact reads (fun _ => rfl) (.now rfl rfl)
  | _ => cases isRead

end Sys2Proof.Machine
end

section
/-! PROOFS. Groups and the key unit: WRITE GROUP and SET TIE KEY (O37), SET DEVICE KEY (O38), the TIE SESSION result (O39) and\nLOOP START (O42). -/

namespace Sys2Proof.Machine

/-! ### Group and key requests (R47, R153, R154) -/

theorem groupKindOf_code (kind : GroupKind) : groupKindOf kind.code = some kind := by cases kind <;> rfl

theorem tieEndOf_code (tieEnd : TieEnd) : tieEndOf tieEnd.code = some tieEnd := by cases tieEnd <;> rfl

theorem groupKindOf_of_unknown {b : Byte} (h : 1 < b.toNat) : groupKindOf b = none := by
  rw [groupKindOf, if_neg (fun zero => by simp [zero] at h), if_neg (fun one => by simp [one] at h)]

theorem tieEndOf_of_unknown {b : Byte} (h : 1 < b.toNat) : tieEndOf b = none := by
  rw [tieEndOf, if_neg (fun zero => by simp [zero] at h), if_neg (fun one => by simp [one] at h)]

theorem takeWriteGroup_of_known {group budget : Byte} {s : State} (kind : GroupKind) (tieEnd : TieEnd)
    (free : s.lock = false ∨ s.mode = .maintenance) (inRange : group.toNat ≤ 15) (low : budget.toNat ≤ 96) :
    takeWriteGroup group kind.code tieEnd.code budget s =
      if (s.group group.toNat).kind ≠ kind ∧ 0 < (s.group group.toNat).active then refuse .callsPresent s
      else (s.setGroup group.toNat { s.group group.toNat with
          kind := kind, tieEnd := tieEnd, budget := max budget.toNat (s.group group.toNat).active },
        .now .ok [group, byteOf (max budget.toNat (s.group group.toNat).active)]) := by
  rw [takeWriteGroup, if_neg (by simp [lockRefuses_of_open s free]), if_neg (by omega), groupKindOf_code, tieEndOf_code]
  exact if_neg (by omega)

/-- Settles O37: the tests of the two requests in their order, and the record each writes. -/
theorem groupWrites : Obligations.GroupWrites := by
  refine ⟨fun s j tag group kind tieEnd budget key hs => ⟨fun high => request_answered hs (if_pos high),
    fun free outside => request_answered hs ?_⟩, fun s j tag group hs inRange free => ?_⟩
  · rw [takeWriteGroup, if_neg (by simp [lockRefuses_of_open s free])]
    by_cases high : 15 < group.toNat
    · rw [if_pos high, refuse_eq]
    · rw [if_neg high]
      cases known : groupKindOf kind with
      | none => rfl
      | some k =>
        cases knownEnd : tieEndOf tieEnd with
        | none => rfl
        | some e =>
          have noKind : ¬ 1 < kind.toNat := fun h => by simp [groupKindOf_of_unknown h] at known
          have noEnd : ¬ 1 < tieEnd.toNat := fun h => by simp [tieEndOf_of_unknown h] at knownEnd
          exact if_pos (by omega)
  · have unlocked : ¬ s.lockRefuses = true := by simp [lockRefuses_of_open s free]
    refine ⟨fun key mode used => request_answered hs ?_, fun key fresh weak => request_answered hs ?_,
      fun kind tieEnd budget low same => request_answered hs ?_, fun kind tieEnd budget low other calls => request_answered hs ?_,
      fun key fresh strong => request_answered hs ?_⟩
    · rw [takeSetTieKey, if_neg (by omega), if_neg unlocked, if_pos ⟨mode, used⟩, refuse_eq]
    · rw [takeSetTieKey, if_neg (by omega), if_neg unlocked, if_neg (by rcases fresh with h | h <;> simp [h]),
        if_pos ((weakKey_iff key).mpr weak), refuse_eq]
    · rw [takeWriteGroup_of_known kind tieEnd free inRange low, if_neg]
      rintro ⟨other, calls⟩
      exact same.elim (fun h => other h.symm) (fun h => by omega)
    · rw [takeWriteGroup_of_known kind tieEnd free inRange low, if_pos ⟨other.symm, calls⟩, refuse_eq]
    · rw [takeSetTieKey, if_neg (by omega), if_neg unlocked, if_neg (by rcases fresh with h | h <;> simp [h]),
        if_neg (not_weakKey strong), accept_eq]

/-- Settles O38: lock, mark and key in this order. -/
theorem setDeviceKey : Obligations.SetDeviceKey := by
  intro s j tag key start hs
  have unlocked : s.mode = .maintenance ∨ s.lock = false ∧ s.deviceKeyUsed = false → ¬ s.lockRefuses = true := fun h => by
    simp [lockRefuses_of_open s (h.symm.imp_left And.left)]
  have fresh : s.mode = .maintenance ∨ s.lock = false ∧ s.deviceKeyUsed = false →
      ¬ (s.mode ≠ .maintenance ∧ s.deviceKeyUsed = true) := fun h => by rcases h with h | h <;> simp [h]
  refine ⟨fun mode lock => request_answered hs (if_pos (lockRefuses_of_locked s lock mode)),
    fun mode free used => request_answered hs ?_, fun may weak => request_answered hs ?_,
    fun may strong => request_answered hs ?_⟩
  · rw [takeSetDeviceKey, if_neg (by simp [lockRefuses_of_open s (.inl free)]), if_pos ⟨mode, used⟩, refuse_eq]
  · rw [takeSetDeviceKey, if_neg (unlocked may), if_neg (fresh may), if_pos ((weakKey_iff key).mpr weak), refuse_eq]
  · rw [takeSetDeviceKey, if_neg (unlocked may), if_neg (fresh may), if_neg (not_weakKey strong), accept_eq]

/-! ### An OPEN leg and its jobs (R42, R56) -/

/-- Leg `k` with this record, and these jobs in the queue. -/
def withLegAndJobs (k : Nat) (l : Leg) (jobs : List Job) (s : State) : State := { s.setLeg k l with jobs := jobs }

section
variable {s : State} {k : Nat} {w : Owner} {o : OpenLeg}

theorem lt_of_opened (use : (s.leg k).use = .opened w o) : k < 48 := by
  by_contra high
  simp [State.leg, readAt_of_le _ _ _ (Nat.le_of_not_lt high), Leg.atReset] at use

theorem openLeg_of_use (use : (s.leg k).use = .opened w o) : s.openLeg? k = some o :=
  (openLeg_eq_some_iff s k o).mpr ⟨w, use⟩

theorem updateOpen_of_use (use : (s.leg k).use = .opened w o) (f : OpenLeg → OpenLeg) :
    s.updateOpen k f = s.setLeg k ⟨(s.leg k).stamp, .opened w (f o)⟩ := by
  simp only [State.updateOpen, use]

theorem leg_setLeg_self (hk : k < 48) (l : Leg) : (s.setLeg k l).leg k = l := by
  rw [leg_setLeg, if_pos ⟨rfl, hk⟩]

theorem setLeg_setLeg (l l' : Leg) : (s.setLeg k l).setLeg k l' = s.setLeg k l' := by simp [State.setLeg]

theorem withLegAndJobs_twice (l l' : Leg) (jobs jobs' : List Job) :
    withLegAndJobs k l' jobs' (withLegAndJobs k l jobs s) = withLegAndJobs k l' jobs' s := by
  simp [withLegAndJobs, State.setLeg]

theorem leg_withLegAndJobs (hk : k < 48) (l : Leg) (jobs : List Job) : (withLegAndJobs k l jobs s).leg k = l :=
  leg_setLeg_self hk l

/-- A direction's offer, queued while a place remains and marked otherwise. -/
theorem placeEpochJob_of_use (use : (s.leg k).use = .opened w o) (d : Direction) (sk : Key) (e : Long) :
    placeEpochJob k d sk e s =
      if s.jobs.length < 32 then
        withLegAndJobs k ⟨(s.leg k).stamp, .opened w (o.setKeys d { o.keys d with outstanding := true, marked := false })⟩
          (s.jobs ++ [.epoch sk e k d (s.leg k).stamp]) s
      else s.setLeg k ⟨(s.leg k).stamp, .opened w (o.setKeys d { o.keys d with marked := true })⟩ := by
  rw [placeEpochJob, updateOpen_of_use use, updateOpen_of_use use]
  by_cases room : s.jobs.length < 32
  · rw [if_pos (by simpa using jobPlace_of_lt room), if_pos room]
    rfl
  · rw [if_neg (by simpa using not_jobPlace (Nat.le_of_not_lt room)), if_neg room]

theorem offerEpoch_of_wanted {d : Direction} {sk : Key} {e : Long} (use : (s.leg k).use = .opened w o) (hasKey : o.sk = some sk)
    (wanted : (o.keys d).wanted = some e) (idle : (o.keys d).outstanding = false) (unmarked : (o.keys d).marked = false) :
    offerEpoch k d s = placeEpochJob k d sk e s := by
  simp only [offerEpoch, openLeg_of_use use, hasKey, wanted, idle, unmarked, Bool.or_false]
  rfl

end

/-- The keys of a direction once its offer has been queued, or refused and marked. -/
def offered (placed : Bool) (x : DirectionKeys) : DirectionKeys := { x with outstanding := placed, marked := !placed }

theorem offered_false {x : DirectionKeys} (idle : x.outstanding = false) : offered false x = { x with marked := true } := by
  rw [offered, ← idle]
  simp [idle]

section
variable {s : State} {k : Nat} {w : Owner} {o : OpenLeg} {stamp : Byte} {jobs : List Job}

/-- An offer from a leg just written, for the jobs then in the queue. -/
theorem offerEpoch_withLegAndJobs {d : Direction} {sk : Key} {e : Long} (hk : k < 48) (hasKey : o.sk = some sk)
    (wanted : (o.keys d).wanted = some e) (idle : (o.keys d).outstanding = false) (unmarked : (o.keys d).marked = false) :
    offerEpoch k d (withLegAndJobs k ⟨stamp, .opened w o⟩ jobs s) =
      withLegAndJobs k ⟨stamp, .opened w (o.setKeys d (offered (decide (jobs.length < 32)) (o.keys d)))⟩
        (if jobs.length < 32 then jobs ++ [.epoch sk e k d stamp] else jobs) s := by
  have written := leg_withLegAndJobs (s := s) hk ⟨stamp, .opened w o⟩ jobs
  have use := congrArg Leg.use written
  rw [offerEpoch_of_wanted use hasKey wanted idle unmarked, placeEpochJob_of_use use, written]
  by_cases room : jobs.length < 32
  · rw [if_pos (show (withLegAndJobs k _ jobs s).jobs.length < 32 from room), withLegAndJobs_twice, if_pos room,
      decide_eq_true room]
    rfl
  · rw [if_neg (show ¬ (withLegAndJobs k _ jobs s).jobs.length < 32 from room), if_neg room, decide_eq_false room,
      offered_false idle]
    exact congrArg (fun t : State => { t with jobs := jobs }) (setLeg_setLeg (s := s) ..)

/-- The offers of both directions of a leg just written, outbound first (R54, R157). -/
theorem offerBoth_withLegAndJobs {sk : Key} {e1 e2 : Long} (hk : k < 48) (hasKey : o.sk = some sk)
    (wantedOut : o.out.keys.wanted = some e1) (idleOut : o.out.keys.outstanding = false) (unmarkedOut : o.out.keys.marked = false)
    (wantedIn : o.inb.keys.wanted = some e2) (idleIn : o.inb.keys.outstanding = false) (unmarkedIn : o.inb.keys.marked = false)
    (one two : Bool) (queued : List Job) (places : (one, two, queued) = if jobs.length ≤ 30 then
        (true, true, jobs ++ [.epoch sk e1 k .outbound stamp, .epoch sk e2 k .inbound stamp])
      else if jobs.length = 31 then (true, false, jobs ++ [.epoch sk e1 k .outbound stamp]) else (false, false, jobs)) :
    offerEpoch k .inbound (offerEpoch k .outbound (withLegAndJobs k ⟨stamp, .opened w o⟩ jobs s)) =
      withLegAndJobs k ⟨stamp, .opened w { o with
        out := { o.out with keys := offered one o.out.keys }
        inb := { o.inb with keys := offered two o.inb.keys } }⟩ queued s := by
  rw [offerEpoch_withLegAndJobs (d := .outbound) hk hasKey wantedOut idleOut unmarkedOut,
    offerEpoch_withLegAndJobs (d := .inbound) (o := o.setKeys .outbound (offered _ _)) hk hasKey wantedIn idleIn unmarkedIn]
  rcases (by omega : jobs.length ≤ 30 ∨ jobs.length = 31 ∨ 32 ≤ jobs.length) with two | one | full
  · rw [if_pos two] at places
    simp only [Prod.mk.injEq] at places
    obtain ⟨rfl, rfl, fits⟩ := places
    simp only [fits, show jobs.length < 32 by omega, if_true, List.length_append, List.length_singleton,
      show jobs.length + 1 < 32 by omega, List.append_assoc, List.cons_append, List.nil_append]
    rfl
  · rw [if_neg (by omega), if_pos one] at places
    simp only [Prod.mk.injEq] at places
    obtain ⟨rfl, rfl, fits⟩ := places
    simp only [fits, show jobs.length < 32 by omega, if_true, List.length_append, List.length_singleton,
      show ¬ jobs.length + 1 < 32 by omega, if_false]
    rfl
  · rw [if_neg (by omega), if_neg (by omega)] at places
    simp only [Prod.mk.injEq] at places
    obtain ⟨rfl, rfl, fits⟩ := places
    simp only [fits, show ¬ jobs.length < 32 by omega, if_false]
    rfl

end

/-- Settles O39: the key is stored, then the two offers by the number of places. -/
theorem tieSessionDelivered : Obligations.TieSessionDelivered := by
  intro s key t k r rest o e1 e2 running oldest use noKey wantedOut idleOut unmarkedOut wantedIn idleIn unmarkedIn g w sk first
    second left
  have hk := lt_of_opened use
  have delivered : completeSession s = offerEpoch k .inbound (offerEpoch k .outbound (withLegAndJobs k
      ⟨(s.leg k).stamp, .opened (.tieCall r) { o with sk := some sk, sessionOutstanding := false }⟩ rest s)) := by
    rw [completeSession_of_oldest oldest, if_pos ((expectsSession_iff ..).mpr ⟨rfl, r, o, use, noKey⟩), deliverSession,
      updateOpen_of_use (s := { s with jobs := rest }) use]
    rfl
  have places := offerBoth_withLegAndJobs (s := s) (w := .tieCall r) (jobs := rest) (stamp := (s.leg k).stamp) hk
    (o := { o with sk := some sk, sessionOutstanding := false }) rfl wantedOut idleOut unmarkedOut wantedIn idleIn unmarkedIn
  refine ⟨fun two => event_taken _ running (delivered.trans (places true true _ ?_)),
    fun one => event_taken _ running (delivered.trans (places true false _ ?_)),
    fun full => event_taken _ running (delivered.trans (places false false _ ?_))⟩
  · rw [if_pos two]
  · rw [if_neg (by omega), if_pos one]
  · rw [if_neg (by omega), if_neg (by omega)]

/-! ### The loop test (R73) -/

theorem channelInUse_iff (s : State) (channel : Byte) : s.channelInUse channel.toNat = true ↔ ¬ s.ChannelFree channel := by
  rw [State.channelInUse, toList_eq_map_readAt s.legs Leg.atReset, List.any_eq_true]
  simp only [State.ChannelFree, openLeg_eq_some_iff, not_forall, List.mem_map, List.mem_range]
  constructor
  · rintro ⟨_, ⟨l, hl, rfl⟩, same⟩
    split at same
    next w o use => exact ⟨l, hl, o, ⟨w, use⟩, fun other => other (by simpa using same)⟩
    next => cases same
  · rintro ⟨l, hl, o, ⟨w, use⟩, same⟩
    refine ⟨_, ⟨l, hl, rfl⟩, ?_⟩
    rw [show (readAt s.legs Leg.atReset l).use = _ from use]
    simpa using same

theorem isFree_iff (u : LegUse) : u.isFree = true ↔ u = .free := by cases u <;> simp [LegUse.isFree]

theorem freeLeg_eq_some {s : State} {k : Nat} (hk : k < 48) (free : (s.leg k).use = .free)
    (lower : ∀ l < k, (s.leg l).use ≠ .free) : s.freeLeg = some k := by
  rw [State.freeLeg, lowest_eq_find _ Leg.atReset, List.find?_range_eq_some]
  refine ⟨(isFree_iff _).mpr free, List.mem_range.mpr hk, fun l hl => ?_⟩
  rw [Bool.not_eq_true', ← Bool.not_eq_true, isFree_iff]
  exact lower l hl

theorem freeLeg_eq_none {s : State} (noFree : ∀ k < 48, (s.leg k).use ≠ .free) : s.freeLeg = none := by
  rw [State.freeLeg, lowest_eq_find _ Leg.atReset, List.find?_eq_none]
  intro k hk free
  exact noFree k (List.mem_range.mp hk) ((isFree_iff _).mp free)

/-- Settles O42: the tests in their order, and the opening of a loop test by the number of places. -/
theorem loopStartOpensLeg : Obligations.LoopStartOpensLeg := by
  refine ⟨fun s j tag channel key hs mode => ?_, fun s j k tag channel key hs mode inRange strong unused hk free lower => ?_⟩
  · have inMode : ¬ s.mode ≠ .maintenance := by simp [mode]
    refine ⟨fun high => request_answered hs ?_, fun inRange weak => request_answered hs ?_,
      fun inRange strong used => request_answered hs ?_, fun inRange strong unused noFree => request_answered hs ?_⟩
    · rw [takeLoopStart, if_neg inMode, if_pos high, refuse_eq]
    · rw [takeLoopStart, if_neg inMode, if_neg (by omega), if_pos ((weakKey_iff key).mpr weak), refuse_eq]
    · rw [takeLoopStart, if_neg inMode, if_neg (by omega), if_neg (not_weakKey strong),
        if_pos ((channelInUse_iff s channel).mpr used), refuse_eq]
    · rw [takeLoopStart, if_neg inMode, if_neg (by omega), if_neg (not_weakKey strong),
        if_neg (fun used => (channelInUse_iff s channel).mp used unused), freeLeg_eq_none noFree, refuse_eq]
  · have taken : takeLoopStart channel key s = (openTheLeg k .loopTest channel.toNat (some key) s,
        .now .ok [byteOf k, ((openTheLeg k .loopTest channel.toNat (some key) s).leg k).stamp]) := by
      rw [takeLoopStart, if_neg (by simp [mode]), if_neg (by omega), if_neg (not_weakKey strong),
        if_neg (fun used => (channelInUse_iff s channel).mp used unused), freeLeg_eq_some hk free lower]
    intro stamp keys first second opens
    have places := offerBoth_withLegAndJobs (s := s.setRouting channel.toNat (.leg k)) (w := .loopTest) (jobs := s.jobs)
      (stamp := stamp) hk (o := ⟨channel.toNat, some key, false, false, 0, 0, Outbound.atOpen, Inbound.atOpen s.params⟩)
      rfl rfl rfl rfl rfl rfl rfl
    have opened : ∀ one two queued, _ → opens one two queued := fun one two queued fits => by
      have holds : openTheLeg k .loopTest channel.toNat (some key) s = _ := places one two queued fits
      refine request_answered hs ?_
      rw [taken, holds, leg_withLegAndJobs hk]
      rfl
    refine ⟨fun two => opened true true _ ?_, fun one => opened true false _ ?_, fun full => opened false false _ ?_⟩
    · rw [if_pos two]
    · rw [if_neg (by omega), if_pos one]
    · rw [if_neg (by omega), if_neg (by omega)]

end Sys2Proof.Machine
end

section
/-! PROOFS. The leg engine: what a change of a direction brings. -/

namespace Sys2Proof.Machine

/-! ### What a change of a direction brings (R56, R69, R70, R72) -/

theorem linkApart_setLeg (k : Nat) (l : Leg) : LinkApart (fun s => s.setLeg k l) := ⟨fun _ => rfl, fun _ _ _ _ _ => rfl⟩

theorem leg_queueReport (r : Report) (s : State) (k : Nat) : (queueReport r s).leg k = s.leg k := by
  simp only [State.leg, queueReport_keeps]

theorem jobs_queueReport (r : Report) (s : State) : (queueReport r s).jobs = s.jobs := by simp only [queueReport_keeps]

section
variable {s : State} {k : Nat} {w : Owner} {o : OpenLeg}

theorem offerEpoch_of_idle (use : (s.leg k).use = .opened w o) (d : Direction) (idle : o.sk = none ∨
    (o.keys d).wanted = none ∨ (o.keys d).outstanding = true ∨ (o.keys d).marked = true) : offerEpoch k d s = s := by
  simp only [offerEpoch, openLeg_of_use use]
  cases hasKey : o.sk with
  | none => rfl
  | some sk =>
    cases wants : (o.keys d).wanted with
    | none => rfl
    | some e =>
      have busy : (o.keys d).outstanding = true ∨ (o.keys d).marked = true := by simpa [hasKey, wants] using idle
      exact if_pos (by simpa using busy)

theorem offerEpoch_of_due {d : Direction} {sk : Key} {e : Long} (use : (s.leg k).use = .opened w o) (hasKey : o.sk = some sk)
    (wanted : (o.keys d).wanted = some e) (free : ¬ ((o.keys d).outstanding = true ∨ (o.keys d).marked = true)) :
    offerEpoch k d s =
      if s.jobs.length < 32 then
        { s.setLeg k ⟨(s.leg k).stamp, .opened w (o.setKeys d { o.keys d with outstanding := true })⟩ with
          jobs := s.jobs ++ [.epoch sk e k d (s.leg k).stamp] }
      else s.setLeg k ⟨(s.leg k).stamp, .opened w (o.setKeys d { o.keys d with marked := true })⟩ := by
  obtain ⟨idle, unmarked⟩ := not_or.mp free
  rw [offerEpoch_of_wanted use hasKey wanted (by simpa using idle) (by simpa using unmarked), placeEpochJob_of_use use,
    ← Bool.not_eq_true (o.keys d).marked |>.mp unmarked]
  rfl

/-- The direction's keys are all that an offer changes in its leg. -/
theorem leg_offerEpoch (hk : k < 48) (use : (s.leg k).use = .opened w o) (d : Direction) : ∃ keys : DirectionKeys,
    (offerEpoch k d s).leg k = ⟨(s.leg k).stamp, .opened w (o.setKeys d keys)⟩ ∧
      keys = { o.keys d with outstanding := keys.outstanding, marked := keys.marked } := by
  by_cases idle : o.sk = none ∨ (o.keys d).wanted = none ∨ (o.keys d).outstanding = true ∨ (o.keys d).marked = true
  · rw [offerEpoch_of_idle use d idle]
    refine ⟨o.keys d, ?_, rfl⟩
    cases d <;> exact congrArg (Leg.mk _) use
  · simp only [not_or] at idle
    obtain ⟨sk, hasKey⟩ := Option.ne_none_iff_exists'.mp idle.1
    obtain ⟨e, wants⟩ := Option.ne_none_iff_exists'.mp idle.2.1
    rw [offerEpoch_of_due use hasKey wants (not_or.mpr idle.2.2)]
    split_ifs
    · exact ⟨_, leg_setLeg_self hk _, rfl⟩
    · exact ⟨_, leg_setLeg_self hk _, rfl⟩

theorem noticeRunning_of_use (use : (s.leg k).use = .opened w o) (was : Bool) :
    noticeRunning k was s = if w.isTold && was != o.running then evaluateCalls s else s := by
  have told : s.noticed k = w.isTold := by
    simp only [State.noticed, use, LegUse.owner?]
    cases w <;> rfl
  have running : s.legRunning k = o.running := by simp only [State.legRunning, openLeg_of_use use]
  rw [noticeRunning, told, running, bne_comm]

theorem running_setKeys (d : Direction) (keys : DirectionKeys) : (o.setKeys d keys).running = o.running := by
  cases d <;> rfl

end

theorem outState_cases (x : OutState) : x = .wait ∨ x = .run ∨ x = .late := by cases x <;> simp

theorem inState_cases (x : InState) : x = .hunt ∨ x = .run ∨ x = .late := by cases x <;> simp

theorem changeReport_outbound {k : Nat} {before after : OpenLeg}
    (noWait : after.out.state = .wait → before.out.state = .wait) :
    changeReport k .outbound (before.stateOf .outbound) after =
      if after.out.state = before.out.state then none
      else if after.out.state = .late then
        some (.keyLate k .outbound (after.out.counter - 1) ((after.keys .outbound).wanted.getD 0))
      else some (.legState k .outbound .run after.out.counter) := by
  unfold changeReport
  rcases outState_cases before.out.state with was | was | was <;> rcases outState_cases after.out.state with now | now | now <;>
    simp [OpenLeg.stateOf, OpenLeg.counterOf, OpenLeg.lateBlock, OutState.named, was, now] at noWait ⊢

theorem changeReport_inbound {k : Nat} {before after : OpenLeg} :
    changeReport k .inbound (before.stateOf .inbound) after =
      if after.inb.state = before.inb.state then none
      else some (match after.inb.state with
        | .late => .keyLate k .inbound after.inb.counter ((after.keys .inbound).wanted.getD 0)
        | .hunt => .legState k .inbound .hunt 0
        | .run => .legState k .inbound .run after.inb.counter) := by
  unfold changeReport
  rcases inState_cases before.inb.state with was | was | was <;> rcases inState_cases after.inb.state with now | now | now <;>
    simp [OpenLeg.stateOf, OpenLeg.counterOf, OpenLeg.lateBlock, InState.named, was, now]

/-- What a change brings, as the model's steps compose it. -/
theorem directionChanged_brings {s : State} {k : Nat} {w : Owner} {d : Direction} {o before after : OpenLeg} (hk : k < 48)
    (use : (s.leg k).use = .opened w o) (noWait : d = .outbound → after.out.state = .wait → before.out.state = .wait) :
    s.ChangeBrings k w d before after (directionChanged k d before after s) := by
  unfold State.ChangeBrings
  intro stamp wanted kept told with_ offered runs
  have told_eq : (match changeReport k d (before.stateOf d) after with
      | some r => queueReport r kept
      | none => kept) = told := by
    cases d with
    | outbound =>
      rw [changeReport_outbound (noWait rfl)]
      simp only [told]
      split_ifs <;> rfl
    | inbound =>
      rw [changeReport_inbound]
      simp only [told]
      split_ifs
      · rfl
      · cases after.inb.state <;> rfl
  have toldLeg : told.leg k = ⟨stamp, .opened w after⟩ := by
    rw [← told_eq]
    split
    · rw [leg_queueReport, leg_setLeg_self hk]
    · exact leg_setLeg_self hk _
  have toldJobs : told.jobs = s.jobs := by
    rw [← told_eq]
    split
    · rw [jobs_queueReport]; rfl
    · rfl
  have toldUse := congrArg Leg.use toldLeg
  have offers : offerEpoch k d told = offered := by
    cases hasKey : after.sk with
    | none => rw [offerEpoch_of_idle toldUse d (.inl hasKey)]; simp only [offered, hasKey]
    | some sk =>
      cases wants : (after.keys d).wanted with
      | none => rw [offerEpoch_of_idle toldUse d (.inr (.inl wants))]; simp only [offered, wanted, hasKey, wants]
      | some e =>
        by_cases busy : (after.keys d).outstanding = true ∨ (after.keys d).marked = true
        · rw [offerEpoch_of_idle toldUse d (.inr (.inr busy))]
          simp only [offered, wanted, hasKey, wants, if_pos busy]
        · rw [offerEpoch_of_due toldUse hasKey wants busy, toldLeg, toldJobs]
          simp only [offered, wanted, hasKey, wants, if_neg busy, with_]
  obtain ⟨keys, leg, -⟩ := leg_offerEpoch hk toldUse d
  calc directionChanged k d before after s
      = noticeRunning k before.running (offerEpoch k d told) := by
        rw [directionChanged, updateOpen_of_use use]
        exact congrArg (fun t => noticeRunning k before.running (offerEpoch k d t)) told_eq
    _ = if w.isTold && before.running != after.running then evaluateCalls offered else offered := by
        rw [noticeRunning_of_use (congrArg Leg.use leg), running_setKeys, offers]

end Sys2Proof.Machine
end

section
/-! PROOFS. The EPOCH result (O40). -/

namespace Sys2Proof.Machine

/-! ### The EPOCH result (R43, R44, R57, R59) -/

theorem linkApart_withLegAndJobs (k : Nat) (l : Leg) (jobs : List Job) : LinkApart (withLegAndJobs k l jobs) :=
  ⟨fun _ => rfl, fun _ _ _ _ _ => rfl⟩

theorem linkApart_jobs (jobs : List Job) : LinkApart (fun s => { s with jobs := jobs }) :=
  ⟨fun _ => rfl, fun _ _ _ _ _ => rfl⟩

section
variable {s : State} {k : Nat} {w : Owner} {o before after : OpenLeg}

/-- A change that leaves the direction's state and the leg's running as they were brings its offer alone. -/
theorem directionChanged_of_sameState {d : Direction} (hk : k < 48) (use : (s.leg k).use = .opened w o)
    (sameState : after.stateOf d = before.stateOf d) (sameRunning : after.running = before.running) :
    directionChanged k d before after s = offerEpoch k d (withLegAndJobs k ⟨(s.leg k).stamp, .opened w after⟩ s.jobs s) := by
  obtain ⟨keys, leg, -⟩ := leg_offerEpoch hk (congrArg Leg.use
    (leg_withLegAndJobs (s := s) hk ⟨(s.leg k).stamp, .opened w after⟩ s.jobs)) d
  have unreported : changeReport k d (before.stateOf d) after = none := if_pos sameState
  rw [directionChanged, updateOpen_of_use use, unreported]
  refine (noticeRunning_of_use (congrArg Leg.use leg) _).trans ?_
  rw [running_setKeys, sameRunning]
  simp

/-- A change of state is told before the offer and the evaluation. -/
theorem directionChanged_of_report {d : Direction} {r : Report} (use : (s.leg k).use = .opened w o)
    (report : changeReport k d (before.stateOf d) after = some r) : directionChanged k d before after s =
      noticeRunning k before.running
        (offerEpoch k d (withLegAndJobs k ⟨(s.leg k).stamp, .opened w after⟩ s.jobs (queueReport r s))) := by
  rw [directionChanged, updateOpen_of_use use, report, ← (linkApart_withLegAndJobs k _ s.jobs).queueReport]
  rfl

end

theorem settleEpoch_of_other {s : State} {sk now : Key} {e w : Long} {k : Nat} {d : Direction} {o : OpenLeg}
    (wanted : (o.keys d).wanted = some w) (other : w ≠ e) (hasKey : o.sk = some now) :
    settleEpoch sk e k d o s = pushJob (.epoch now w k d (s.leg k).stamp) s := by
  simp only [settleEpoch, wanted, hasKey, if_neg other]

theorem settleEpoch_of_wanted {s : State} {sk : Key} {e : Long} {k : Nat} {d : Direction} {o : OpenLeg}
    (wanted : (o.keys d).wanted = some e) : settleEpoch sk e k d o s = deliverEpoch k d e (epochKey sk e) s := by
  simp only [settleEpoch, wanted, if_true]

theorem Outbound.start_of_running {o : Outbound} (runs : o.state ≠ .wait) : o.start = o := by
  unfold Outbound.start
  split
  next wait => exact absurd wait runs
  next => rfl

/-- Outside WAIT a delivery only installs the key. -/
theorem deliverEpoch_of_running {s : State} {k : Nat} {d : Direction} {e : Long} {key : Key} {o : OpenLeg}
    (opened : s.openLeg? k = some o) (runs : d = .outbound → o.out.state ≠ .wait) : deliverEpoch k d e key s =
      directionChanged k d o (o.setKeys d (installKey s.params.epochLength e key (o.keys d))) s := by
  simp only [deliverEpoch, opened]
  cases d with
  | inbound => rfl
  | outbound =>
    have stands : ∀ keys, (o.setKeys .outbound keys).out.start = (o.setKeys .outbound keys).out := fun keys =>
      Outbound.start_of_running (runs rfl)
    dsimp only
    rw [stands]

theorem stateOf_setKeys (o : OpenLeg) (d : Direction) (keys : DirectionKeys) : (o.setKeys d keys).stateOf d = o.stateOf d := by
  cases d <;> rfl

theorem keys_setKeys (o : OpenLeg) (d : Direction) (keys : DirectionKeys) : (o.setKeys d keys).keys d = keys := by
  cases d <;> rfl

theorem setKeys_setKeys (o : OpenLeg) (d : Direction) (keys keys' : DirectionKeys) :
    (o.setKeys d keys).setKeys d keys' = o.setKeys d keys' := by
  cases d <;> rfl

theorem sk_setKeys (o : OpenLeg) (d : Direction) (keys : DirectionKeys) : (o.setKeys d keys).sk = o.sk := by
  cases d <;> rfl

theorem installKey_of_none {keys : DirectionKeys} (r : Nat) (e : Long) (key : Key) (none : keys.active = none) :
    installKey r e key keys =
      { keys with active := some ⟨e, key⟩, wanted := some (followingEpoch r e), outstanding := false } := by
  simp only [installKey, none]

theorem installKey_of_some {keys : DirectionKeys} (r : Nat) (e : Long) (key : Key) (active : keys.active ≠ none) :
    installKey r e key keys = { keys with standby := some ⟨e, key⟩, wanted := none, outstanding := false } := by
  obtain ⟨a, active⟩ := Option.ne_none_iff_exists'.mp active
  simp only [installKey, active]

/-- An outbound direction that has started, with its keys (R59). -/
def outboundStarted (o : OpenLeg) (keys : DirectionKeys) : OpenLeg :=
  { o with out := ⟨.run, keys, 0, [], o.out.draining, none⟩ }

theorem keys_outboundStarted (o : OpenLeg) (keys : DirectionKeys) : (outboundStarted o keys).keys .outbound = keys := rfl

theorem setKeys_outboundStarted (o : OpenLeg) (keys keys' : DirectionKeys) :
    (outboundStarted o keys).setKeys .outbound keys' = outboundStarted o keys' := rfl

/-- A job in the place of one that has just been delivered leaves its mark and the outstanding one as they were. -/
theorem offered_delivered {x : DirectionKeys} (outstanding : x.outstanding = true) (unmarked : x.marked = false)
    (active : Option EpochKey) (wanted : Option Long) :
    offered true { x with active := active, wanted := wanted, outstanding := false } =
      { x with active := active, wanted := wanted } := by
  cases x
  simp_all [offered]

/-- Settles O40: the result replaced, or delivered to a direction that starts, that takes its active key, or its standby. -/
theorem epochDelivered : Obligations.EpochDelivered := by
  intro s sk now e w k d rest owner o running oldest use hasKey outstanding unmarked wanted g w2 key next
  have hk := lt_of_opened use
  have settled := completeEpoch_of_outstanding oldest (openLeg_of_use use) rfl outstanding
  have restUse : (State.leg { s with jobs := rest } k).use = .opened owner o := use
  refine ⟨fun other => event_taken _ running (settled.trans (settleEpoch_of_other wanted other hasKey)),
    fun same outbound wait fresh room => ?_, fun same fresh runs room => event_taken _ running (settled.trans ?_),
    fun same active runs => event_taken _ running (settled.trans ?_)⟩
  · subst same outbound
    have after : State.openLeg? { s with jobs := rest } k = some o := openLeg_of_use restUse
    have fresh : o.out.keys.active = none := fresh
    have starts : deliverEpoch k .outbound w (epochKey sk w) { s with jobs := rest } = directionChanged k .outbound o
        (outboundStarted o { o.out.keys with active := some ⟨w, key⟩, wanted := some next, outstanding := false })
        { s with jobs := rest } := by
      simp only [deliverEpoch, after, OpenLeg.keys, installKey_of_none _ _ _ fresh, OpenLeg.setKeys, Outbound.start, wait,
        Option.isSome_some, if_true]
      rfl
    have report : ∀ keys, changeReport k .outbound (o.stateOf .outbound) (outboundStarted o keys) =
        some (.legState k .outbound .run 0) := fun keys => by
      rw [changeReport_outbound (fun h => by cases h), if_neg (by rw [wait]; exact nofun)]
      rfl
    have offers := offerEpoch_withLegAndJobs (s := queueReport (.legState k .outbound .run 0) s) (d := .outbound) (w := owner)
      (sk := now) (e := next) (stamp := (s.leg k).stamp) (jobs := rest)
      (o := outboundStarted o { o.out.keys with active := some ⟨w, key⟩, wanted := some next, outstanding := false })
      hk hasKey rfl rfl unmarked
    rw [if_pos room, decide_eq_true room, keys_outboundStarted, offered_delivered (x := o.out.keys) outstanding unmarked,
      setKeys_outboundStarted] at offers
    intro started
    have leg := congrArg Leg.use (leg_withLegAndJobs (s := queueReport (.legState k .outbound .run 0) s) hk
      ⟨(s.leg k).stamp, .opened owner (outboundStarted o { o.out.keys with active := some ⟨w, key⟩, wanted := some next })⟩
      (rest ++ [.epoch now next k .outbound (s.leg k).stamp]))
    have notice := noticeRunning_of_use leg o.running
    refine event_taken _ running (settled.trans ?_)
    rw [settleEpoch_of_wanted wanted, starts, directionChanged_of_report restUse (report _),
      (linkApart_jobs rest).queueReport s]
    refine (congrArg (noticeRunning k o.running) offers).trans (notice.trans ?_)
    have becomes : (owner.isTold && o.running != (outboundStarted o { o.out.keys with
        active := some ⟨w, key⟩, wanted := some next }).running) = true ↔ o.inb.state = .run ∧ owner.isTold = true := by
      simp [OpenLeg.running, outboundStarted, wait, and_comm]
    exact if_congr becomes rfl rfl
  · subst same
    rw [settleEpoch_of_wanted wanted, deliverEpoch_of_running (openLeg_of_use restUse) runs, installKey_of_none _ _ _ fresh,
      directionChanged_of_sameState hk restUse (stateOf_setKeys ..) (running_setKeys ..),
      offerEpoch_withLegAndJobs (sk := now) (e := next) hk ((sk_setKeys ..).trans hasKey) (by rw [keys_setKeys]; rfl)
        (by rw [keys_setKeys]) (by rw [keys_setKeys]; exact unmarked), setKeys_setKeys, keys_setKeys,
      if_pos (show (State.jobs { s with jobs := rest }).length < 32 from room),
      decide_eq_true (show (State.jobs { s with jobs := rest }).length < 32 from room)]
    exact congrArg (fun keys => withLegAndJobs k ⟨(s.leg k).stamp, .opened owner (o.setKeys d keys)⟩
      (rest ++ [.epoch now next k d (s.leg k).stamp]) s) (offered_delivered outstanding unmarked (some ⟨w, key⟩) (some next))
  · subst same
    rw [settleEpoch_of_wanted wanted, deliverEpoch_of_running (openLeg_of_use restUse) runs, installKey_of_some _ _ _ active,
      directionChanged_of_sameState hk restUse (stateOf_setKeys ..) (running_setKeys ..)]
    have use := congrArg Leg.use (leg_withLegAndJobs (s := s) hk ⟨(s.leg k).stamp, .opened owner (o.setKeys d { o.keys d with
          standby := some ⟨w, key⟩, wanted := none, outstanding := false })⟩ rest)
    exact offerEpoch_of_idle use d (.inr (.inl (by rw [keys_setKeys])))

end Sys2Proof.Machine
end

section
/-! PROOFS. The marked offers of a leg, and their service while places remain. -/

namespace Sys2Proof.Machine

/-! ### The marked offers of one leg (R42) -/

/-- An offer that a tick makes again: its leg, its direction, none for a TIE SESSION, and its job. -/
abbrev Offer := Nat × Option Direction × Job

/-- The number of places left in the job queue. -/
def placesLeft (jobs : List Job) : Nat := 32 - jobs.length

/-- The record of a leg whose offer has been queued: the job outstanding and no longer marked. -/
def serve (o : OpenLeg) (x : Offer) : OpenLeg :=
  match x.2.1 with
  | none => { o with sessionOutstanding := true, sessionWanted := false }
  | some d => o.setKeys d { o.keys d with outstanding := true, marked := false }

/-- The marked EPOCH offer of a direction. -/
def epochOffer (k : Nat) (stamp : Byte) (d : Direction) (o : OpenLeg) : List Offer :=
  match o.sk, (o.keys d).wanted with
  | some sk, some e => if (o.keys d).marked then [(k, some d, .epoch sk e k d stamp)] else []
  | _, _ => []

/-- The marked TIE SESSION offer of a leg, for the inputs of its job. -/
def sessionOffer (k : Nat) (stamp : Byte) (inputs : Option (Key × Long)) (o : OpenLeg) : List Offer :=
  if o.sessionWanted then inputs.toList.map (fun x => (k, none, .tieSession x.1 x.2 k stamp)) else []

/-- The marked offers of leg `k`. -/
def State.legOffers (s : State) (k : Nat) : List Offer :=
  match (s.leg k).use with
  | .opened _ o => sessionOffer k (s.leg k).stamp (s.sessionInputs k) o ++
      (epochOffer k (s.leg k).stamp .outbound o ++ epochOffer k (s.leg k).stamp .inbound o)
  | _ => []

/-- The inputs of a TIE SESSION job, as the owner's call and its group give them (R39). -/
def State.sessionInputsOf (s : State) : Owner → Option (Key × Long)
  | .tieCall r => (s.call r).bind (fun c => match c.b, c.tieNumber with
    | .group g, some t => (s.group g).tieKey.map (fun key => (key, t))
    | _, _ => none)
  | _ => none

theorem sessionInputs_of_use {s : State} {k : Nat} {w : Owner} {o : OpenLeg} (use : (s.leg k).use = .opened w o) :
    s.sessionInputs k = s.sessionInputsOf w := by
  simp only [State.sessionInputs, use, LegUse.owner?, State.sessionInputsOf]
  cases w with
  | tieCall r =>
    dsimp only
    cases s.call r <;> rfl
  | _ => rfl

theorem markedOffers_eq (s : State) : s.markedOffers = (List.range 48).flatMap s.legOffers := by
  refine List.flatMap_congr fun k _ => ?_
  rw [State.legOffers]
  cases use : (s.leg k).use with
  | free => rfl
  | reserved w => rfl
  | opened w o =>
    have epoch : ∀ d, epochOffer k (s.leg k).stamp d o = ((match o.sk, (o.keys d).wanted with
        | some sk, some e => if (o.keys d).marked then some (Job.epoch sk e k d (s.leg k).stamp) else none
        | _, _ => none).toList.map (fun x => (k, some d, x))) := fun d => by
      rw [epochOffer]
      split
      · split_ifs <;> rfl
      · rfl
    have session : ∀ {f}, f = (fun c : Call => match c.b, c.tieNumber with
        | .group g, some t => (s.group g).tieKey.map (fun key => Job.tieSession key t k (s.leg k).stamp)
        | _, _ => none) → (match w with
        | .tieCall r => (s.call r).bind f
        | _ => none) = (s.sessionInputsOf w).map (fun x => Job.tieSession x.1 x.2 k (s.leg k).stamp) := by
      rintro f rfl
      cases w with
      | tieCall r =>
        dsimp only [State.sessionInputsOf]
        cases s.call r with
        | none => rfl
        | some c =>
          rw [Option.bind_some, Option.bind_some]
          split
          next => rw [Option.map_map]; rfl
          next => rfl
      | _ => rfl
    have first := congrArg (fun job : Option Job =>
      if o.sessionWanted then job.toList.map (fun x => ((k, none, x) : Offer)) else []) (session rfl)
    dsimp only [sessionOffer]
    rw [sessionInputs_of_use use, epoch, epoch]
    refine congrArg₂ (· ++ ·) (first.trans ?_) ?_
    · rw [Option.toList_map, List.map_map]
      rfl
    · have both : ∀ f : Direction → List Offer, [Direction.outbound, .inbound].flatMap f = f .outbound ++ f .inbound :=
        fun f => by rw [List.flatMap_cons, List.flatMap_cons, List.flatMap_nil, List.append_nil]
      exact both _

/-! ### A leg's offers, served while places remain -/

/-- The record after some offers have been queued. -/
def serveAll (q : List Offer) (o : OpenLeg) : OpenLeg := q.foldl serve o

/-- Leg `k` with its first offers of `c` queued, as many as find a place. -/
def offersServed (k : Nat) (stamp : Byte) (w : Owner) (c : List Offer) (o : OpenLeg) (jobs : List Job) (s : State) : State :=
  withLegAndJobs k ⟨stamp, .opened w (serveAll (c.take (placesLeft jobs)) o)⟩
    (jobs ++ (c.take (placesLeft jobs)).map (fun x => x.2.2)) s

theorem offersServed_append (k : Nat) (stamp : Byte) (w : Owner) (c c' : List Offer) (o : OpenLeg) (jobs : List Job) (s : State) :
    offersServed k stamp w (c ++ c') o jobs s =
      offersServed k stamp w c' (serveAll (c.take (placesLeft jobs)) o)
        (jobs ++ (c.take (placesLeft jobs)).map (fun x => x.2.2)) s := by
  have left : placesLeft (jobs ++ (c.take (placesLeft jobs)).map (fun x => x.2.2)) = placesLeft jobs - c.length := by
    simp only [placesLeft, List.length_append, List.length_map, List.length_take]
    omega
  rw [offersServed, offersServed, left, List.take_append, serveAll, List.foldl_append, List.map_append, List.append_assoc]
  rfl

section
variable {s : State} {k : Nat} {stamp : Byte} {w : Owner} {o : OpenLeg} {jobs : List Job}

theorem setLeg_self {l : Leg} (same : s.leg k = l) : s.setLeg k l = s := by
  have legs : writeAt s.legs k l = s.legs := table_ext _ _ Leg.atReset fun i _ => by
    rw [readAt_writeAt]
    split
    next both => rw [← both.1]; exact same.symm
    next => rfl
  exact congrArg (fun t => { s with legs := t }) legs

theorem offersServed_nil : offersServed k stamp w [] o jobs s = withLegAndJobs k ⟨stamp, .opened w o⟩ jobs s := by
  rw [offersServed, List.take_nil, List.map_nil, List.append_nil]
  rfl

theorem offersServed_singleton (x : Offer) : offersServed k stamp w [x] o jobs s =
    if jobs.length < 32 then withLegAndJobs k ⟨stamp, .opened w (serve o x)⟩ (jobs ++ [x.2.2]) s
    else withLegAndJobs k ⟨stamp, .opened w o⟩ jobs s := by
  rw [offersServed, placesLeft]
  split
  next room =>
    obtain ⟨n, hn⟩ : ∃ n, 32 - jobs.length = n + 1 := ⟨31 - jobs.length, by omega⟩
    rw [hn, List.take_succ_cons, List.take_nil]
    rfl
  next full =>
    rw [Nat.sub_eq_zero_of_le (Nat.le_of_not_lt full), List.take_zero, List.map_nil, List.append_nil]
    rfl

theorem retryEpoch_serves (hk : k < 48) (d : Direction) :
    retryEpoch k d (withLegAndJobs k ⟨stamp, .opened w o⟩ jobs s) =
      offersServed k stamp w (epochOffer k stamp d o) o jobs s := by
  have written := leg_withLegAndJobs (s := s) hk ⟨stamp, .opened w o⟩ jobs
  have use := congrArg Leg.use written
  simp only [retryEpoch, openLeg_of_use use, epochOffer]
  cases hasKey : o.sk with
  | none => exact offersServed_nil.symm
  | some sk =>
    cases wants : (o.keys d).wanted with
    | none => exact offersServed_nil.symm
    | some e =>
      dsimp only
      by_cases marked : (o.keys d).marked = true
      · have same : o.setKeys d { o.keys d with marked := true } = o := by
          rw [← marked]
          cases d <;> rfl
        rw [if_pos marked, if_pos marked, offersServed_singleton, placeEpochJob_of_use use, written, same]
        exact if_congr Iff.rfl (withLegAndJobs_twice ..) (setLeg_self written)
      · rw [if_neg marked, if_neg marked, offersServed_nil]

theorem offerSession_serves (hk : k < 48) :
    (if o.sessionWanted then offerSession k (withLegAndJobs k ⟨stamp, .opened w o⟩ jobs s)
      else withLegAndJobs k ⟨stamp, .opened w o⟩ jobs s) =
      offersServed k stamp w (sessionOffer k stamp (s.sessionInputsOf w) o) o jobs s := by
  have written := leg_withLegAndJobs (s := s) hk ⟨stamp, .opened w o⟩ jobs
  have use := congrArg Leg.use written
  have inputs : (withLegAndJobs k ⟨stamp, .opened w o⟩ jobs s).sessionInputs k = s.sessionInputsOf w :=
    sessionInputs_of_use use
  rw [sessionOffer]
  by_cases wanted : o.sessionWanted = true
  · rw [if_pos wanted, if_pos wanted, offerSession, inputs, updateOpen_of_use use, updateOpen_of_use use, written]
    cases s.sessionInputsOf w with
    | none => exact offersServed_nil.symm
    | some x =>
      have same : { o with sessionWanted := true } = o := by rw [← wanted]
      refine .trans ?_ (offersServed_singleton (k, none, .tieSession x.1 x.2 k stamp)).symm
      dsimp only
      by_cases room : jobs.length < 32
      · rw [if_pos room, if_pos (show (withLegAndJobs k _ jobs s).jobPlace = true from decide_eq_true room)]
        exact withLegAndJobs_twice ..
      · rw [if_neg room, if_neg (show ¬ (withLegAndJobs k _ jobs s).jobPlace = true from fun place => room (of_decide_eq_true place)),
          same]
        exact setLeg_self written
  · rw [if_neg wanted, if_neg wanted, offersServed_nil]

/-- Queueing one offer leaves another offer of the same leg as it stands. -/
theorem epochOffer_serve (d : Direction) (x : Offer) (other : x.2.1 ≠ some d) :
    epochOffer k stamp d (serve o x) = epochOffer k stamp d o := by
  obtain ⟨l, d', job⟩ := x
  cases d' with
  | none => rfl
  | some d' =>
    cases d with
    | outbound =>
      cases d' with
      | outbound => exact absurd rfl other
      | inbound => rfl
    | inbound =>
      cases d' with
      | outbound => rfl
      | inbound => exact absurd rfl other

theorem epochOffer_serveAll {q : List Offer} (d : Direction) (others : ∀ x ∈ q, x.2.1 ≠ some d) :
    epochOffer k stamp d (serveAll q o) = epochOffer k stamp d o := by
  induction q generalizing o with
  | nil => rfl
  | cons x rest ih =>
    rw [serveAll, List.foldl_cons, ← serveAll, ih (fun y hy => others y (List.mem_cons_of_mem _ hy)),
      epochOffer_serve d x (others x List.mem_cons_self)]

theorem mem_epochOffer {d : Direction} {x : Offer} (hx : x ∈ epochOffer k stamp d o) : x.1 = k ∧ x.2.1 = some d := by
  rw [epochOffer] at hx
  split at hx
  · split at hx
    · rw [List.mem_singleton.mp hx]; exact ⟨rfl, rfl⟩
    · cases hx
  · cases hx

theorem mem_sessionOffer {inputs : Option (Key × Long)} {x : Offer} (hx : x ∈ sessionOffer k stamp inputs o) :
    x.1 = k ∧ x.2.1 = none := by
  rw [sessionOffer] at hx
  split at hx
  · obtain ⟨y, -, rfl⟩ := List.mem_map.mp hx
    exact ⟨rfl, rfl⟩
  · cases hx

/-- A leg's turn at a tick: its marked offers are queued in order, as many as find a place. -/
theorem retryLeg_serves (hk : k < 48) : retryLeg k (withLegAndJobs k ⟨stamp, .opened w o⟩ jobs s) =
    offersServed k stamp w (sessionOffer k stamp (s.sessionInputsOf w) o ++
      (epochOffer k stamp .outbound o ++ epochOffer k stamp .inbound o)) o jobs s := by
  have use := congrArg Leg.use (leg_withLegAndJobs (s := s) hk ⟨stamp, .opened w o⟩ jobs)
  have noOut : ∀ n, ∀ x ∈ (sessionOffer k stamp (s.sessionInputsOf w) o).take n, x.2.1 ≠ some .outbound := fun n x hx => by
    simp [(mem_sessionOffer (List.mem_of_mem_take hx)).2]
  have noIn : ∀ n, ∀ x ∈ (sessionOffer k stamp (s.sessionInputsOf w) o).take n, x.2.1 ≠ some .inbound := fun n x hx => by
    simp [(mem_sessionOffer (List.mem_of_mem_take hx)).2]
  have noInAfter : ∀ n, ∀ x ∈ (epochOffer k stamp .outbound o).take n, x.2.1 ≠ some .inbound := fun n x hx => by
    simp [(mem_epochOffer (List.mem_of_mem_take hx)).2]
  rw [retryLeg, openLeg_of_use use]
  dsimp only
  rw [offerSession_serves hk, offersServed_append, offersServed_append, offersServed, retryEpoch_serves hk,
    epochOffer_serveAll .outbound (noOut _), offersServed, retryEpoch_serves hk, epochOffer_serveAll .inbound (noInAfter _),
    epochOffer_serveAll .inbound (noIn _)]

end

end Sys2Proof.Machine
end

section
/-! PROOFS. The marked offers are made again at a tick (O41). -/

namespace Sys2Proof.Machine

/-! ### Every leg's offers at a tick (R42) -/

/-- Whether the offer of leg `k` for a TIE SESSION, or for a direction, is among those queued. -/
def served (q : List Offer) (k : Nat) (d : Option Direction) : Bool := q.any (fun x => x.1 == k && x.2.1 == d)

/-- A direction's keys after the offers `q` have been queued. -/
def keysServed (q : List Offer) (k : Nat) (d : Direction) (x : DirectionKeys) : DirectionKeys :=
  { x with outstanding := x.outstanding || served q k (some d), marked := x.marked && !served q k (some d) }

/-- The open record of leg `k` after the offers `q` have been queued. -/
def recordServed (q : List Offer) (k : Nat) (o : OpenLeg) : OpenLeg :=
  { o with
    sessionOutstanding := o.sessionOutstanding || served q k none
    sessionWanted := o.sessionWanted && !served q k none
    out := { o.out with keys := keysServed q k .outbound o.out.keys }
    inb := { o.inb with keys := keysServed q k .inbound o.inb.keys } }

/-- Leg `k` after the offers `q` have been queued. -/
def legServed (q : List Offer) (k : Nat) (l : Leg) : Leg :=
  match l.use with
  | .opened w o => ⟨l.stamp, .opened w (recordServed q k o)⟩
  | _ => l

theorem served_append (q q' : List Offer) (k : Nat) (d : Option Direction) :
    served (q ++ q') k d = (served q k d || served q' k d) := List.any_append

theorem served_of_others {q : List Offer} {k : Nat} (others : ∀ x ∈ q, x.1 ≠ k) (d : Option Direction) :
    served q k d = false := by
  rw [served, List.any_eq_false]
  intro x hx
  simp [others x hx]

theorem recordServed_congr {q q' : List Offer} {k : Nat} (same : ∀ d, served q k d = served q' k d) (o : OpenLeg) :
    recordServed q k o = recordServed q' k o := by
  simp only [recordServed, keysServed, same]

theorem recordServed_of_others {q : List Offer} {k : Nat} (others : ∀ x ∈ q, x.1 ≠ k) (o : OpenLeg) :
    recordServed q k o = o := by
  simp only [recordServed, keysServed, served_of_others others, Bool.or_false, Bool.not_false, Bool.and_true]

theorem legServed_of_others {q : List Offer} {k : Nat} (others : ∀ x ∈ q, x.1 ≠ k) (l : Leg) : legServed q k l = l := by
  obtain ⟨stamp, use⟩ := l
  cases use with
  | opened w o => exact congrArg (fun o => (⟨stamp, .opened w o⟩ : Leg)) (recordServed_of_others others o)
  | _ => rfl

theorem legServed_append_of_others {q q' : List Offer} {k : Nat} (others : ∀ x ∈ q', x.1 ≠ k) (l : Leg) :
    legServed (q ++ q') k l = legServed q k l := by
  obtain ⟨stamp, use⟩ := l
  cases use with
  | opened w o =>
    exact congrArg (fun o => (⟨stamp, .opened w o⟩ : Leg))
      (recordServed_congr (fun d => by rw [served_append, served_of_others others, Bool.or_false]) o)
  | _ => rfl

theorem outbound_beq_inbound : (Direction.outbound == Direction.inbound) = false := rfl

theorem inbound_beq_outbound : (Direction.inbound == Direction.outbound) = false := rfl

/-- Serving the offers of one leg one after another is writing what all of them write. -/
theorem serveAll_eq {q : List Offer} {k : Nat} (own : ∀ x ∈ q, x.1 = k) (o : OpenLeg) : serveAll q o = recordServed q k o := by
  induction q generalizing o with
  | nil => exact (recordServed_of_others (fun _ h => by cases h) o).symm
  | cons x rest ih =>
    obtain ⟨l, d, job⟩ := x
    obtain rfl : l = k := own _ List.mem_cons_self
    rw [serveAll, List.foldl_cons, ← serveAll, ih (fun y hy => own y (List.mem_cons_of_mem _ hy))]
    have split : ∀ d', served ((l, d, job) :: rest) l d' = (d == d' || served rest l d') := fun d' => by
      simp [served]
    rcases d with - | - | - <;>
      simp [recordServed, keysServed, split, serve, OpenLeg.setKeys, OpenLeg.keys, outbound_beq_inbound, inbound_beq_outbound]

theorem mem_legOffers {s : State} {k : Nat} {x : Offer} (hx : x ∈ s.legOffers k) : x.1 = k := by
  rw [State.legOffers] at hx
  split at hx
  · rcases List.mem_append.mp hx with h | h
    · exact (mem_sessionOffer h).1
    · rcases List.mem_append.mp h with h | h <;> exact (mem_epochOffer h).1
  · cases hx

/-- The offers queued from the legs below `n`. -/
def queuedBelow (s : State) (n : Nat) : List Offer := ((List.range n).flatMap s.legOffers).take (placesLeft s.jobs)

/-- The state after the turns of the legs below `n`. -/
def ServedBelow (s : State) (n : Nat) (t : State) : Prop :=
  t = { s with legs := t.legs, jobs := s.jobs ++ (queuedBelow s n).map (fun x => x.2.2) } ∧
    ∀ l, t.leg l = legServed (queuedBelow s n) l (s.leg l)

theorem mem_queuedBelow {s : State} {n : Nat} {x : Offer} (hx : x ∈ queuedBelow s n) : x.1 < n := by
  obtain ⟨k, hk, hx⟩ := List.mem_flatMap.mp (List.mem_of_mem_take hx)
  rw [mem_legOffers hx]
  exact List.mem_range.mp hk

theorem queuedBelow_succ (s : State) (n : Nat) : queuedBelow s (n + 1) = queuedBelow s n ++
    (s.legOffers n).take (placesLeft (s.jobs ++ (queuedBelow s n).map (fun x => x.2.2))) := by
  have left : placesLeft (s.jobs ++ (queuedBelow s n).map (fun x => x.2.2)) =
      placesLeft s.jobs - ((List.range n).flatMap s.legOffers).length := by
    simp only [placesLeft, queuedBelow, List.length_append, List.length_map, List.length_take]
    omega
  rw [left, queuedBelow, List.range_succ, List.flatMap_append, List.take_append, ← queuedBelow]
  simp

theorem retryLeg_of_closed {s : State} {k : Nat} (closed : s.openLeg? k = none) : retryLeg k s = s := by
  have epoch : ∀ d, retryEpoch k d s = s := fun d => by simp only [retryEpoch, closed]
  simp only [retryLeg, closed, epoch]

theorem ServedBelow.succ {s t : State} {n : Nat} (hn : n < 48) (h : ServedBelow s n t) :
    ServedBelow s (n + 1) (retryLeg n t) := by
  obtain ⟨frame, legs⟩ := h
  have below : ∀ x ∈ queuedBelow s n, x.1 ≠ n := fun x hx => (mem_queuedBelow hx).ne
  have leg : t.leg n = s.leg n := by rw [legs, legServed_of_others below]
  by_cases opened : ∃ w o, (s.leg n).use = .opened w o
  · obtain ⟨w, o, use⟩ := opened
    have jobs : t.jobs = s.jobs ++ (queuedBelow s n).map (fun x => x.2.2) := by rw [frame]
    have inputs : t.sessionInputsOf w = s.sessionInputsOf w := by rw [frame]; rfl
    have here : t.leg n = ⟨(s.leg n).stamp, .opened w o⟩ := leg.trans (congrArg (Leg.mk _) use)
    have offers : sessionOffer n (s.leg n).stamp (t.sessionInputsOf w) o ++
        (epochOffer n (s.leg n).stamp .outbound o ++ epochOffer n (s.leg n).stamp .inbound o) = s.legOffers n := by
      simp only [State.legOffers, use, inputs, sessionInputs_of_use use]
    have start : withLegAndJobs n ⟨(s.leg n).stamp, .opened w o⟩ t.jobs t = t :=
      congrArg (fun u : State => { u with jobs := t.jobs }) (setLeg_self here)
    have turn := retryLeg_serves (s := t) (w := w) (o := o) (stamp := (s.leg n).stamp) (jobs := t.jobs) hn
    rw [start, offers, offersServed, jobs] at turn
    have record : ∀ legs jobs, ({ t with legs := legs, jobs := jobs } : State) = { s with legs := legs, jobs := jobs } :=
      fun legs jobs => congrArg (fun u : State => { u with legs := legs, jobs := jobs }) frame
    rw [turn, ServedBelow, queuedBelow_succ]
    have own : ∀ x ∈ (s.legOffers n).take (placesLeft (s.jobs ++ (queuedBelow s n).map (fun x => x.2.2))), x.1 = n :=
      fun x hx => mem_legOffers (List.mem_of_mem_take hx)
    refine ⟨?_, fun l => ?_⟩
    · rw [List.map_append, ← List.append_assoc]
      exact record _ _
    · by_cases same : n = l
      · subst same
        rw [leg_withLegAndJobs hn, serveAll_eq own, legServed, use]
        refine congrArg (fun o => (⟨(s.leg n).stamp, .opened w o⟩ : Leg)) (recordServed_congr (fun d => ?_) o)
        rw [served_append, served_of_others below, Bool.false_or]
      · rw [legServed_append_of_others fun x hx => by rw [own x hx]; exact same, ← legs]
        exact (leg_setLeg ..).trans (if_neg fun both => same both.1)
  · have closed : t.openLeg? n = none := by
      rw [State.openLeg?, leg]
      cases use : (s.leg n).use with
      | opened w o => exact absurd ⟨w, o, use⟩ opened
      | _ => rfl
    have noOffer : s.legOffers n = [] := by
      rw [State.legOffers]
      cases use : (s.leg n).use with
      | opened w o => exact absurd ⟨w, o, use⟩ opened
      | _ => rfl
    rw [retryLeg_of_closed closed, ServedBelow, queuedBelow_succ, noOffer, List.take_nil, List.append_nil]
    exact ⟨frame, legs⟩

theorem retryJobs_serves (s : State) : ServedBelow s 48 (retryJobs s) := by
  have all : ∀ n ≤ 48, ServedBelow s n ((List.range n).foldl (fun s k => retryLeg k s) s) := fun n hn => by
    induction n with
    | zero =>
      have nothing : queuedBelow s 0 = [] := by simp [queuedBelow]
      rw [ServedBelow, nothing]
      exact ⟨by simp, fun l => (legServed_of_others (fun _ h => absurd h List.not_mem_nil) _).symm⟩
    | succ n ih =>
      rw [List.range_succ, List.foldl_append]
      exact (ih (by omega)).succ (by omega)
  exact all 48 le_rfl

theorem queuedBelow_eq (s : State) : queuedBelow s 48 = s.markedOffers.take (32 - s.jobs.length) := by
  rw [queuedBelow, markedOffers_eq, placesLeft]

/-- The one marked offer of the device is all that a tick has to queue. -/
theorem markedOffers_of_only {s : State} {k : Nat} (hk : k < 48) (others : ∀ l, l ≠ k → s.legOffers l = []) :
    s.markedOffers = s.legOffers k := by
  rw [markedOffers_eq]
  have split : ∀ n, (List.range n).flatMap s.legOffers = if k < n then s.legOffers k else [] := fun n => by
    induction n with
    | zero => rfl
    | succ n ih =>
      rw [List.range_succ, List.flatMap_append, ih, List.flatMap_singleton]
      by_cases same : n = k
      · subst same
        simp
      · rw [others n same]
        simp only [List.append_nil]
        exact if_congr (by omega) rfl rfl
  rw [split, if_pos hk]

theorem epochOffer_of_unmarked {k : Nat} {stamp : Byte} {d : Direction} {o : OpenLeg} (unmarked : (o.keys d).marked = false) :
    epochOffer k stamp d o = [] := by
  rw [epochOffer]
  split
  · exact if_neg (by simp [unmarked])
  · rfl

theorem legOffers_of_unmarked {s : State} {l : Nat} (unmarked : ∀ x, s.openLeg? l = some x →
    x.sessionWanted = false ∧ x.out.keys.marked = false ∧ x.inb.keys.marked = false) : s.legOffers l = [] := by
  rw [State.legOffers]
  split
  next w o use =>
    obtain ⟨session, out, inb⟩ := unmarked o (openLeg_of_use use)
    rw [epochOffer_of_unmarked (d := .outbound) out, epochOffer_of_unmarked (d := .inbound) inb, sessionOffer,
      if_neg (by simp [session])]
    rfl
  next => rfl

theorem legOffers_of_one {s : State} {k : Nat} {d : Direction} {owner : Owner} {o : OpenLeg} {sk : Key} {e : Long}
    (use : (s.leg k).use = .opened owner o) (hasKey : o.sk = some sk) (wants : (o.keys d).wanted = some e)
    (marked : (o.keys d).marked = true) (noSession : o.sessionWanted = false)
    (others : ∀ d', d' ≠ d → (o.keys d').marked = false) :
    s.legOffers k = [(k, some d, .epoch sk e k d (s.leg k).stamp)] := by
  have here : epochOffer k (s.leg k).stamp d o = [(k, some d, .epoch sk e k d (s.leg k).stamp)] := by
    simp only [epochOffer, hasKey, wants, marked, if_true]
  simp only [State.legOffers, use, sessionOffer, noSession, Bool.false_eq_true, if_false, List.nil_append]
  cases d with
  | outbound => rw [here, epochOffer_of_unmarked (d := .inbound) (others _ nofun), List.append_nil]
  | inbound => rw [here, epochOffer_of_unmarked (d := .outbound) (others _ nofun), List.nil_append]

/-- Settles O41: one mark, and every mark, served in order while places remain. -/
theorem markedOfferRetried : Obligations.MarkedOfferRetried := by
  refine ⟨fun s k d owner o sk e running hk use hasKey wants marked noSession oneDirection oneLeg => ?_, fun s running => ?_⟩
  · have only := (markedOffers_of_only hk fun l other => legOffers_of_unmarked fun x opened => oneLeg l x other opened).trans
      (legOffers_of_one use hasKey wants marked noSession oneDirection)
    obtain ⟨frame, legs⟩ := retryJobs_serves s
    rw [queuedBelow_eq, only] at frame legs
    refine ⟨fun room => event_taken _ running ?_, fun full => event_taken _ running ?_⟩
    · obtain ⟨n, places⟩ : ∃ n, 32 - s.jobs.length = n + 1 := ⟨31 - s.jobs.length, by omega⟩
      rw [places, List.take_succ_cons, List.take_nil] at frame legs
      have written : (retryJobs s).legs = (s.setLeg k ⟨(s.leg k).stamp, .opened owner
          (o.setKeys d { o.keys d with outstanding := true, marked := false })⟩).legs := by
        refine table_ext _ _ Leg.atReset fun l _ => (legs l).trans ?_
        by_cases same : l = k
        · subst same
          rw [legServed, use]
          dsimp only
          rw [← serveAll_eq (by simp)]
          exact (leg_setLeg_self hk _).symm
        · rw [legServed_of_others (by simpa using Ne.symm same)]
          exact ((leg_setLeg ..).trans (if_neg fun both => same both.1.symm)).symm
      rw [frame, written]
      rfl
    · rw [Nat.sub_eq_zero_of_le full, List.take_zero] at frame legs
      have kept : (retryJobs s).legs = s.legs := table_ext _ _ Leg.atReset fun l _ =>
        (legs l).trans (legServed_of_others (fun _ h => absurd h List.not_mem_nil) _)
      rw [frame, kept, List.map_nil, List.append_nil]
  · obtain ⟨frame, legs⟩ := retryJobs_serves s
    rw [queuedBelow_eq] at frame legs
    refine ⟨retryJobs s, event_taken _ running rfl, frame, fun k closed => ?_, fun k w o use => ?_⟩
    · rw [legs, legServed]
      cases use : (s.leg k).use with
      | opened w o => simp [use, LegUse.isOpen] at closed
      | _ => rfl
    · rw [legs, legServed, use]
      rfl

end Sys2Proof.Machine
end

section
/-! PROOFS. Legs closed: LOOP STOP and MAINT EXIT (O43), the hunt expiry (O44). -/

namespace Sys2Proof.Machine

/-! ### A leg closed (R55) -/

section
variable {s : State} {k : Nat} {w : Owner} {o : OpenLeg}

/-- An OPEN leg that no extension owns becomes FREE, and its channel CLEAR. -/
theorem freeTheLeg_of_opened (use : (s.leg k).use = .opened w o) (noExtension : ∀ i, w ≠ .extension i) :
    freeTheLeg k s = (s.setRouting o.channel .clear).setLeg k ⟨(s.leg k).stamp, .free⟩ := by
  simp only [freeTheLeg, use, LegUse.owner?]
  cases w with
  | extension i => exact absurd rfl (noExtension i)
  | _ => rfl

/-- An OPEN leg of an extension becomes FREE likewise, and the extension owns it no longer. -/
theorem freeTheLeg_of_extension {i : Nat} (use : (s.leg k).use = .opened (.extension i) o) :
    freeTheLeg k s = ((s.setRouting o.channel .clear).setLeg k ⟨(s.leg k).stamp, .free⟩).setEntry i
      { s.entry i with ownedLeg := none } := by
  simp only [freeTheLeg, use, LegUse.owner?]
  rfl

end

theorem isLoop_iff (u : LegUse) : u.isLoop = true ↔ ∃ o, u = .opened .loopTest o := by
  rcases u with - | w | ⟨w, o⟩
  · simp [LegUse.isLoop]
  · simp [LegUse.isLoop]
  · cases w <;> simp [LegUse.isLoop]

/-- Loop tests closed one after another. -/
structure LoopsClosed (s : State) (ks : List Nat) (t : State) : Prop where
  frame : t = { s with legs := t.legs, channelTable := t.channelTable }
  leg : ∀ k, t.leg k = if k ∈ ks then ⟨(s.leg k).stamp, .free⟩ else s.leg k
  cleared : ∀ k ∈ ks, ∀ o, (s.leg k).use = .opened .loopTest o → o.channel < 128 → t.routing o.channel = .clear
  routing : ∀ c, (∀ k ∈ ks, ∀ o, (s.leg k).use = .opened .loopTest o → o.channel ≠ c) → t.routing c = s.routing c

theorem loopsClosed (ks : List Nat) (s : State) (nodup : ks.Nodup) (loops : ∀ k ∈ ks, (s.leg k).use.isLoop = true) :
    LoopsClosed s ks (ks.foldl (fun s k => freeTheLeg k s) s) := by
  induction ks generalizing s with
  | nil => exact ⟨rfl, fun k => rfl, fun k hk => absurd hk List.not_mem_nil, fun c _ => rfl⟩
  | cons k rest ih =>
    obtain ⟨fresh, nodup⟩ := List.nodup_cons.mp nodup
    obtain ⟨o, use⟩ := (isLoop_iff _).mp (loops k List.mem_cons_self)
    have freed := freeTheLeg_of_opened use (by simp)
    have hk := lt_of_opened use
    have leg : ∀ l, (freeTheLeg k s).leg l = if k = l then ⟨(s.leg k).stamp, .free⟩ else s.leg l := fun l => by
      rw [freed, leg_setLeg]
      simp only [hk, and_true]
      rfl
    have others : ∀ l ∈ rest, (freeTheLeg k s).leg l = s.leg l := fun l hl => by
      rw [leg, if_neg (ne_of_mem_of_not_mem hl fresh).symm]
    have routing : ∀ c, (freeTheLeg k s).routing c = if o.channel = c ∧ o.channel < 128 then .clear else s.routing c := fun c => by
      rw [freed]
      exact routing_setRouting s o.channel c .clear
    obtain ⟨frame, legs, cleared, kept⟩ := ih (freeTheLeg k s) nodup fun l hl => by
      rw [others l hl]
      exact loops l (List.mem_cons_of_mem _ hl)
    refine ⟨?_, fun l => ?_, fun l hl x useX inRange => ?_, fun c unused => ?_⟩
    · rw [List.foldl_cons, frame, freed]
      rfl
    · rw [List.foldl_cons, legs, leg]
      by_cases same : k = l
      · subst same
        rw [if_neg fresh, if_pos rfl, if_pos List.mem_cons_self]
      · rw [if_neg same]
        exact if_congr (by simp [Ne.symm same]) rfl rfl
    · rw [List.foldl_cons]
      by_cases later : ∃ m ∈ rest, ∃ y, (s.leg m).use = .opened .loopTest y ∧ y.channel = x.channel
      · obtain ⟨m, hm, y, useY, same⟩ := later
        rw [← same]
        exact cleared m hm y (by rw [others m hm]; exact useY) (same ▸ inRange)
      · rw [kept _ fun m hm y useY same => later ⟨m, hm, y, by rw [← others m hm]; exact useY, same⟩, routing]
        rcases List.mem_cons.mp hl with rfl | hl
        · cases use.symm.trans useX
          rw [if_pos ⟨rfl, inRange⟩]
        · exact absurd ⟨l, hl, x, useX, rfl⟩ later
    · rw [List.foldl_cons, kept c fun m hm y useY => unused m (List.mem_cons_of_mem _ hm) y (by rw [← others m hm]; exact useY),
        routing, if_neg fun both => unused k List.mem_cons_self o use both.1]

theorem loopLegs_eq (s : State) : s.loopLegs = (List.range 48).filter (fun k => (s.leg k).use.isLoop) :=
  places_eq_filter _ Leg.atReset s.legs

/-- Settles O43: LOOP STOP's tests and close; MAINT EXIT closes every loop test. -/
theorem loopTestEnds : Obligations.LoopTestEnds := by
  intro s j tag hs
  refine ⟨fun leg => ⟨fun high => request_answered hs (if_pos high), fun inRange noLoop => request_answered hs ?_⟩,
    fun leg o inRange use => request_answered hs ?_, fun mode => ?_⟩
  · rw [takeLoopStop, if_neg (by omega), if_pos, refuse_eq]
    rw [Bool.not_eq_true', ← Bool.not_eq_true, isLoop_iff]
    exact fun ⟨o, use⟩ => noLoop o use
  · rw [takeLoopStop, if_neg (by omega), if_neg (by simp [(isLoop_iff _).mpr ⟨o, use⟩]), freeTheLeg_of_opened use (by simp),
      accept_eq]
  · have closed := loopsClosed s.loopLegs s (by rw [loopLegs_eq]; exact List.nodup_range.filter _) fun k hk => by
      rw [loopLegs_eq] at hk
      exact (List.mem_filter.mp hk).2
    have loop : ∀ {k o}, (s.leg k).use = .opened .loopTest o → k ∈ s.loopLegs := fun {k o} use => by
      rw [loopLegs_eq]
      exact List.mem_filter.mpr ⟨List.mem_range.mpr (lt_of_opened use), (isLoop_iff _).mpr ⟨o, use⟩⟩
    refine ⟨{ s.loopLegs.foldl (fun s k => freeTheLeg k s) s with
        mode := .normal, silence := silenceAfterExit s.params.silenceInterval s.silence }, request_answered hs ?_, ?_,
      fun k hk => (closed.leg k).trans ?_, fun k o use inRange => closed.cleared k (loop use) o use inRange,
      fun c unused => closed.routing c fun k _ o use => unused k o use⟩
    · rw [takeMaintExit, if_neg (by simp [mode]), List.countP_eq_length_filter, loopLegs_eq]
    · rw [closed.frame]
      rfl
    · refine if_congr ?_ rfl rfl
      rw [loopLegs_eq, List.mem_filter, List.mem_range]
      simp [hk]

theorem entry_queueReport (r : Report) (s : State) (i : Nat) : (queueReport r s).entry i = s.entry i := by
  simp only [State.entry, queueReport_keeps]

/-- Settles O44: LEG_FAILED, the close, and the owner's loss. -/
theorem huntExpiryFailsLeg : Obligations.HuntExpiryFailsLeg := by
  intro s k running
  refine ⟨?_, fun running' => event_taken _ running ?_⟩
  · intro owner o use due told closed
    have toldUse : (told.leg k).use = .opened owner o := by rw [leg_queueReport]; exact use
    have stamp : (told.leg k).stamp = (s.leg k).stamp := by rw [leg_queueReport]
    have fails : failLeg k s = failureCascade owner (freeTheLeg k told) := by
      simp only [failLeg, use, if_pos ((ranOut_iff _).mpr due)]
      rfl
    refine ⟨fun loop => event_taken _ running ?_, fun r tie => event_taken _ running ?_,
      fun i extension admitted => event_taken _ running ?_⟩
    · subst loop
      rw [fails, freeTheLeg_of_opened toldUse (by simp), stamp]
      rfl
    · subst tie
      rw [fails, freeTheLeg_of_opened toldUse (by simp), stamp]
      rfl
    · subst extension
      have freed := freeTheLeg_of_extension toldUse
      rw [stamp, entry_queueReport] at freed
      have state : ((freeTheLeg k told).entry i).state = .admitted := by
        rw [freed, entry_setEntry]
        split
        · exact admitted
        · exact (congrArg Entry.state (entry_queueReport _ s i)).trans admitted
      rw [fails, failureCascade, if_pos state, freed]
  · cases use : (s.leg k).use with
    | opened w o => simp only [failLeg, use, if_neg fun due => running' o (openLeg_of_use use) ((ranOut_iff _).mp due)]
    | _ => simp only [failLeg, use]

end Sys2Proof.Machine
end

section
/-! PROOFS. SET PARAM: the value brought into its range, and what the parameter's change touches (O49) -/

namespace Sys2Proof.Machine

/-! ### SET PARAM (R184) -/

/-- The range of each parameter, as a table by its identifier. -/
theorem paramRange_eq {id : Nat} (known : id ≤ 10) : paramRange id =
    ([0, 8, 1, 2, 64, 0, 1, 1, 1, 2, 0].getD id 0, [255, 250, 7, 60, 65535, 3, 15, 3600, 30, 30, 60].getD id 0) := by
  interval_cases id <;> rfl

theorem values_set (p : Params) {id : Nat} (known : id ≤ 10) (v : Nat) : (p.set id v).values = p.values.set id v := by
  interval_cases id <;> rfl

theorem takeSetParam_of_open {identifier : Byte} {value : Word} {s : State} (known : identifier.toNat ≤ 10)
    (free : s.lock = false ∨ s.mode = .maintenance) : takeSetParam identifier value s =
      if identifier.toNat = 10 ∧ s.mode ≠ .maintenance ∧ s.silenceUsed then refuse .writtenOnce s
      else if (identifier.toNat = 1 ∨ identifier.toNat = 4) ∧ !s.allLegsFree then refuse .state s
      else (afterParam identifier.toNat (clamp (paramRange identifier.toNat).1 (paramRange identifier.toNat).2 value.toNat)
          { s with params := s.params.set identifier.toNat (clamp (paramRange identifier.toNat).1
              (paramRange identifier.toNat).2 value.toNat) },
        .now .ok (identifier ::
          wordBytes (clamp (paramRange identifier.toNat).1 (paramRange identifier.toNat).2 value.toNat))) := by
  rw [takeSetParam, if_neg (by omega), if_neg (by simp [lockRefuses_of_open s free])]

theorem silenceAfterParam_eq (mode : Mode) (v : Nat) (t : SilenceTimer) : silenceAfterParam mode v t =
    if v = 0 then .stopped else if mode = .normal ∧ t = .stopped then .running (setFor v) else t := by
  unfold silenceAfterParam
  refine if_congr Iff.rfl rfl ?_
  by_cases starts : mode = .normal ∧ t = .stopped
  · obtain ⟨rfl, rfl⟩ := starts
    rfl
  · rw [if_neg starts]
    split
    next => exact absurd ⟨rfl, rfl⟩ starts
    next => rfl

theorem clamp_eq {lo hi : Nat} (order : lo ≤ hi) (v : Nat) :
    clamp lo hi v = if v < lo then lo else if hi < v then hi else v := by
  rw [clamp]
  split_ifs <;> omega

theorem afterParam_entry (id v : Nat) (s : State) {i : Nat} (hi : i < 512) : (afterParam id v s).entry i =
    if id = 6 then limitedEntry v (s.entry i) else s.entry i := by
  unfold afterParam
  split_ifs
  · exact readAt_mapTable _ s.directory Entry.vacant Entry.vacant i hi
  · rfl
  · rfl

theorem afterParam_silence (id v : Nat) (s : State) : (afterParam id v s).silence =
    if id ≠ 10 then s.silence else silenceAfterParam s.mode v s.silence := by
  unfold afterParam
  by_cases six : id = 6
  · rw [if_pos six, if_pos (by omega)]
  · by_cases ten : id = 10
    · rw [if_neg six, if_pos ten, if_neg (not_not.mpr ten)]
    · rw [if_neg six, if_neg ten, if_pos ten]

theorem afterParam_silenceUsed (id v : Nat) (s : State) : (afterParam id v s).silenceUsed =
    (s.silenceUsed || (id == 10 && s.mode != .maintenance)) := by
  unfold afterParam
  by_cases six : id = 6
  · rw [if_pos six, six]
    simp
  · by_cases ten : id = 10
    · rw [if_neg six, if_pos ten, ten]
      simp
    · rw [if_neg six, if_neg ten, beq_false_of_ne ten, Bool.false_and, Bool.or_false]

/-- Settles O49: the tests in their order, the value clamped, and what applying it brings. -/
theorem setParamClampsAndApplies : Obligations.SetParamClampsAndApplies := by
  intro s j tag identifier value hs id lo hi v refused
  refine ⟨fun high => request_answered hs (if_pos high), fun known lock mode => request_answered hs ?_,
    fun ten free mode used => request_answered hs ?_, fun which free busy => request_answered hs ?_,
    fun known free fresh legs => ?_⟩
  · rw [takeSetParam, if_neg (by omega), if_pos (lockRefuses_of_locked s lock mode), refuse_eq]
  · rw [takeSetParam_of_open (by omega) (.inl free), if_pos ⟨ten, mode, used⟩, refuse_eq]
  · have notAll : s.allLegsFree = false := by
      rw [← Bool.not_eq_true, allLegsFree_iff]
      exact fun all => by obtain ⟨k, hk, use⟩ := busy; exact use (all k hk)
    rw [takeSetParam_of_open (by omega) free, if_neg (by omega), if_pos ⟨which, by simp [notAll]⟩, refuse_eq]
  · have clamped : clamp (paramRange id).1 (paramRange id).2 value.toNat = v := by
      rw [paramRange_eq known]
      refine clamp_eq ?_ _
      simp only [id] at known ⊢
      interval_cases identifier.toNat <;> decide
    have unused : ¬ (id = 10 ∧ s.mode ≠ .maintenance ∧ s.silenceUsed = true) := fun ⟨ten, mode, used⟩ => by
      rcases fresh ten with h | h
      · exact mode h
      · simp [h] at used
    have allFree : ¬ ((id = 1 ∨ id = 4) ∧ (!s.allLegsFree) = true) := fun ⟨which, busy⟩ => by
      simp [(allLegsFree_iff s).mpr (legs which)] at busy
    refine ⟨afterParam id v { s with params := s.params.set id v }, request_answered hs ?_, ?_, ?_, fun i hi => ?_, ?_, ?_⟩
    · rw [takeSetParam_of_open known free, if_neg unused, if_neg allFree, clamped]
    · rw [← values_set s.params known]
      unfold afterParam
      split_ifs <;> rfl
    · unfold afterParam
      split_ifs <;> rfl
    · refine (afterParam_entry id v _ hi).trans ?_
      by_cases six : id = 6
      · rw [if_pos six, limitedEntry]
        exact if_congr (by simp only [six, true_and]; rfl) rfl rfl
      · rw [if_neg six]
        exact (if_neg fun both => six both.1).symm
    · exact afterParam_silenceUsed id v _
    · refine (afterParam_silence id v _).trans (if_congr Iff.rfl rfl ?_)
      exact silenceAfterParam_eq ..

end Sys2Proof.Machine
end

section
/-! PROOFS. What a RESTART leaves (O4), and the tick on an empty queue (O2) -/

namespace Sys2Proof.Machine

/-! ### RESTART -/

theorem modeAfterRestart_eq (m : Mode) : modeAfterRestart m = if m = .maintenance then .maintenance else .normal := by
  cases m <;> rfl

theorem silenceAfterRestart_eq (m : Mode) (interval : Nat) : silenceAfterRestart m interval =
    if interval = 0 then .stopped
    else if m = .maintenance then .paused (100 * interval)
    else .running (setFor interval) := by
  cases m <;> rfl

theorem restartedEntry_eq (e : Entry) :
    let back := e.state == .challenged || e.state == .checking || e.state == .admitted
    restartedEntry e = { e with
      state := if back then .enrolled else e.state
      pending := if back then none else e.pending
      sk := if back then none else e.sk
      timer := if back then none else e.timer
      register := []
      screening := false
      interdigit := none
      stack := []
      ownedLeg := none } := by
  intro back
  cases h : e.state <;> simp [back, restartedEntry, h]

/-- Settles O4: the reply is formed on the records that the RESTART leaves, and READY is queued behind it. -/
theorem restartClearsWhatRuns : Obligations.RestartClearsWhatRuns := by
  intro s j tag hs mode
  have sent : s.transmitting.map detached = s.transmitting.map (fun x => match x with
      | .reply r => .reply { r with slot := none }
      | .report q => .report q) :=
    congrArg (fun f => s.transmitting.map f) (funext fun x => by cases x <;> rfl)
  have directory : mapTable restartedEntry s.directory = _ :=
    congrArg (fun f => mapTable f s.directory) (funext restartedEntry_eq)
  have taken := requestArrives_nowThen j 39 tag 0 takeRestart s (restartRecords s) .ok [] _ hs (by decide) (.inr (by decide))
    (by decide) rfl
  refine congrArg Host.Outcome.next (taken.trans ?_)
  rw [readyReport, restartRecords, modeAfterRestart_eq, silenceAfterRestart_eq, sent, directory] <;> rfl

/-! ### The tick -/

theorem countDown_eq_afterTick : countDown = afterTick := by
  funext ⟨ticks, partway⟩
  cases partway <;> rfl

theorem silenceDue_iff (t : SilenceTimer) : t.due = true ↔ t.HasRunOut := by
  cases t with
  | running c => obtain ⟨ticks, _ | _⟩ := c <;> simp [SilenceTimer.due]
  | stopped => simp [SilenceTimer.due]
  | paused n => simp [SilenceTimer.due]

theorem huntDue_iff (s : State) (k : Nat) : (s.leg k).huntDue = true ↔ ∃ o, s.openLeg? k = some o ∧ HasRunOut o.inb.hunt := by
  simp only [openLeg_eq_some_iff]
  cases h : (s.leg k).use <;> simp [Leg.huntDue, h, ranOut_iff]

theorem entry_passTick {i : Nat} (s : State) (hi : i < 512) : (passTick s).entry i = { s.entry i with
    timer := (s.entry i).timer.map (fun x => ⟨x.kind, afterTick x.count⟩)
    interdigit := (s.entry i).interdigit.map afterTick } := by
  have mapped : (passTick s).entry i = tickEntry (s.entry i) := readAt_mapTable _ _ _ _ i hi
  rw [mapped, tickEntry, countDown_eq_afterTick]

theorem leg_passTick {k : Nat} (s : State) (hk : k < 48) : (passTick s).leg k = tickLeg (s.leg k) :=
  readAt_mapTable _ _ _ _ k hk

theorem tickLeg_stamp (l : Leg) : (tickLeg l).stamp = l.stamp := by
  unfold tickLeg
  split <;> rfl

theorem tickLeg_use_of_opened {l : Leg} {w : Owner} {o : OpenLeg} (h : l.use = .opened w o) : (tickLeg l).use =
    .opened w { o with inb := { o.inb with hunt := o.inb.hunt.map afterTick } } := by
  simp only [tickLeg, h, countDown_eq_afterTick]

theorem tickLeg_of_closed {l : Leg} (h : l.use.isOpen = false) : tickLeg l = l := by
  unfold tickLeg
  split
  next opened => simp [opened, LegUse.isOpen] at h
  next => rfl

/-- On an empty queue the tick leaves the expiries that are due, and the retry behind them. -/
theorem pending_passTick {s : State} (idle : s.pending = []) : (passTick s).pending = (passTick s).dueEvents := by
  rw [passTick, show (countTimers s).pending = [] from idle]
  rfl

/-- Which expiries are due, read off the records: one membership for each kind of timer. -/
theorem mem_dueEvents (s : State) (c : Instr) : c ∈ s.dueEvents ↔
    (∃ k, (k < 48 ∧ (s.leg k).huntDue = true) ∧ .huntTimerExpiry k = c) ∨
    (∃ i, (i < 512 ∧ (s.entry i).timerDue .window = true) ∧ .admissionWindowExpiry i = c) ∨
    (∃ i, (i < 512 ∧ (s.entry i).timerDue .lockout = true) ∧ .lockoutExpiry i = c) ∨
    (∃ i, (i < 512 ∧ ranOut (s.entry i).interdigit = true) ∧ .interdigitExpiry i = c) ∨
    (∃ x ∈ s.calls, ranOut x.grace = true ∧ .graceTimerExpiry x.ref = c) ∨
    (s.silence.due = true ∧ c = .silenceTimerExpiry) ∨ c = .jobRetryTick := by
  simp only [State.dueEvents, List.mem_append, List.mem_map, mem_places _ Leg.atReset, mem_places _ Entry.vacant,
    List.mem_filter, List.mem_singleton, or_assoc, and_assoc, State.leg, State.entry]
  cases s.silence.due <;> simp

theorem getLast_dueEvents (s : State) : s.dueEvents.getLast? = some .jobRetryTick := by
  rw [State.dueEvents, List.getLast?_append]
  rfl

/-- Settles O2: each timer one tick later, and each list of expiries from the timers that have run out. -/
theorem idleStepIsOneTick : Obligations.IdleStepIsOneTick := by
  intro s running idle
  refine ⟨passTick s, ?_, rfl, fun i hi => entry_passTick s hi, fun k hk => ?_, ?_, ?_, ?_, ?_, ?_, ?_, ?_, ?_, ?_⟩
  · rw [step, idle]
    exact congrArg Host.Outcome.next (unlessHeld_of_running _ running)
  · rw [leg_passTick s hk]
    refine ⟨tickLeg_stamp _, ?_⟩
    cases use : (s.leg k).use with
    | opened w o => exact tickLeg_use_of_opened use
    | free => exact (congrArg Leg.use (tickLeg_of_closed (by rw [use]; rfl))).trans use
    | reserved w => exact (congrArg Leg.use (tickLeg_of_closed (by rw [use]; rfl))).trans use
  · rw [← countDown_eq_afterTick]
    rfl
  · rw [← countDown_eq_afterTick]
    cases silence : s.silence <;> simp [passTick, countTimers, tickSilence, silence]
  · intro k
    simp [pending_passTick idle, mem_dueEvents, huntDue_iff]
  · intro i
    simp [pending_passTick idle, mem_dueEvents, timerDue_iff]
  · intro i
    simp [pending_passTick idle, mem_dueEvents, timerDue_iff]
  · intro i
    simp [pending_passTick idle, mem_dueEvents, ranOut_iff]
  · intro r
    simp [pending_passTick idle, mem_dueEvents, ranOut_iff, and_comm]
  · simp [pending_passTick idle, mem_dueEvents, silenceDue_iff]
  · rw [pending_passTick idle, getLast_dueEvents]

end Sys2Proof.Machine
end

section
/-! PROOFS. The admissions that MAINT ENTER and the silence expiry end, with their CANCELLED replies in order (O51) -/

namespace Sys2Proof.Machine

/-! ### The CANCELLED replies owed (R105) -/

/-- The CANCELLED reply of entry `i` to the request of a kind whose slot still waits for it. -/
def State.owedReply (kind : Byte) (i : Nat) (s : State) : Option Reply :=
  (s.deferredSlot kind i).bind (fun m => (s.slot m).map (fun h => ⟨some m, kind + 64, h.tag, .cancelled, wordBytes i⟩))

/-- The CANCELLED reply that entry `i` is owed in its state, if one is. -/
def State.cancelledReply (s : State) (i : Nat) : Option Reply :=
  match (s.entry i).state with
  | .challenged => s.owedReply kindAdmitBegin i
  | .checking => s.owedReply kindAdmitAnswer i
  | _ => none

/-- Whether a held request of a kind waits for entry `i`. -/
def waitsFor (kind : Byte) (i : Nat) : Option HeldRequest → Bool
  | some h => h.kind == kind && h.awaiting == some i
  | none => false

theorem deferredSlot_eq_find (kind : Byte) (i : Nat) (s : State) :
    s.deferredSlot kind i = (List.range 4).find? (fun m => waitsFor kind i (s.slot m)) :=
  lowest_eq_find (waitsFor kind i) none s.requestBuffer

theorem cancelledReplies_eq (s : State) : s.cancelledReplies = s.admissions.filterMap s.cancelledReply := by
  rw [State.admissions, places_eq_filter _ Entry.vacant, List.filterMap_filter]
  refine List.filterMap_congr fun i _ => ?_
  have entry : readAt s.directory Entry.vacant i = s.entry i := rfl
  rw [entry, State.cancelledReply, State.owedReply, State.owedReply, deferredSlot_eq_find, deferredSlot_eq_find]
  cases h : (s.entry i).state <;> simp only [Entry.inAdmission, h] <;> rfl

/-- The request in slot `m` after the replies in `rs` are formed: where one is its own, it owes nothing more. -/
def State.slotAfter (s : State) (rs : List Reply) (m : Nat) : Option HeldRequest :=
  if ∃ r ∈ rs, r.slot = some m then (s.slot m).map (fun h => { h with awaiting := none }) else s.slot m

theorem answerDeferred_cancelled (kind : Byte) (i : Nat) (s : State) :
    (s.owedReply kind i = none ∧ answerDeferred kind i .cancelled (wordBytes i) s = s) ∨
    ∃ m h r, m < 4 ∧ s.slot m = some h ∧ h.awaiting = some i ∧ r.slot = some m ∧ s.owedReply kind i = some r ∧
      answerDeferred kind i .cancelled (wordBytes i) s = formReply r (s.setSlot m (some { h with awaiting := none })) := by
  rcases answerDeferred_spec kind i .cancelled (wordBytes i) s with ⟨none, same⟩ | ⟨m, h, found, hm, held, -, awaits, formed⟩
  · exact .inl ⟨by rw [State.owedReply, none]; rfl, same⟩
  · exact .inr ⟨m, h, _, hm, held, awaits, rfl, by rw [State.owedReply, found, Option.bind_some, held]; rfl, formed⟩

theorem cancelReply_cases (i : Nat) (s : State) :
    (s.cancelledReply i = none ∧ cancelReply i s = s) ∨
    ∃ m h r, m < 4 ∧ s.slot m = some h ∧ h.awaiting = some i ∧ r.slot = some m ∧ s.cancelledReply i = some r ∧
      cancelReply i s = formReply r (s.setSlot m (some { h with awaiting := none })) := by
  unfold State.cancelledReply cancelReply
  cases (s.entry i).state with
  | challenged => exact answerDeferred_cancelled kindAdmitBegin i s
  | checking => exact answerDeferred_cancelled kindAdmitAnswer i s
  | _ => exact .inl ⟨rfl, rfl⟩

/-- A directory and request slots put in place of those of a state: the link's queues do not read them. -/
def State.withEntriesAndSlots (d : Table Entry 512) (b : Table (Option HeldRequest) 4) (s : State) : State :=
  { s with directory := d, requestBuffer := b }

theorem linkApart_withEntriesAndSlots (d : Table Entry 512) (b : Table (Option HeldRequest) 4) :
    LinkApart (State.withEntriesAndSlots d b) := ⟨fun _ => rfl, fun _ _ _ _ _ => rfl⟩

/-- Replies formed one after another. -/
def formReplies (rs : List Reply) (s : State) : State := rs.foldl (fun u r => formReply r u) s

theorem LinkApart.formReplies {f : State → State} (apart : LinkApart f) (rs : List Reply) (s : State) :
    formReplies rs (f s) = f (formReplies rs s) := by
  induction rs generalizing s with
  | nil => rfl
  | cons r rs ih =>
    have step : ∀ u : State, Machine.formReplies (r :: rs) u = Machine.formReplies rs (Machine.formReply r u) := fun _ => rfl
    rw [step, step, apart.formReply, ih]

theorem cancelAdmission_withEntriesAndSlots (i : Nat) (s : State) : cancelAdmission .enrolled i s =
    (formReplies (s.cancelledReply i).toList s).withEntriesAndSlots (cancelAdmission .enrolled i s).directory
      (cancelAdmission .enrolled i s).requestBuffer := by
  rcases cancelReply_cases i s with ⟨none, same⟩ | ⟨m, h, r, -, -, -, -, owed, formed⟩
  · rw [none, cancelAdmission, same]
    rfl
  · have settled : cancelReply i s = State.withEntriesAndSlots s.directory _ (formReply r s) :=
      formed.trans ((linkApart_withEntriesAndSlots s.directory _).formReply s r)
    rw [owed, cancelAdmission, settled]
    rfl

theorem entry_cancelAdmission {i : Nat} (hi : i < 512) (s : State) : (cancelAdmission .enrolled i s).entry i =
    { s.entry i with state := .enrolled, pending := none, timer := none } := by
  rw [cancelAdmission]
  dsimp only
  rw [entry_setEntry_self _ (by omega), cancelReply_entry]

theorem slot_cancelAdmission (i : Nat) (s : State) (m : Nat) :
    (cancelAdmission .enrolled i s).slot m = s.slotAfter (s.cancelledReply i).toList m := by
  have slots : (cancelAdmission .enrolled i s).slot m = (cancelReply i s).slot m := rfl
  rw [slots]
  rcases cancelReply_cases i s with ⟨none, same⟩ | ⟨n, h, r, hn, held, -, slot, owed, formed⟩
  · simp [State.slotAfter, none, same]
  · rw [formed, slot_formReply, slot_setSlot, owed]
    by_cases same : n = m
    · subst same
      simp [State.slotAfter, hn, held, slot]
    · simp [State.slotAfter, same, slot]

/-- The cancellation of entry `i` leaves the reply owed for another entry as it is. -/
theorem cancelledReply_cancelAdmission {i j : Nat} (other : i ≠ j) (s : State) :
    (cancelAdmission .enrolled i s).cancelledReply j = s.cancelledReply j := by
  have tags : ∀ m, ((cancelAdmission .enrolled i s).slot m).map (fun h => h.tag) = (s.slot m).map (fun h => h.tag) := by
    intro m
    rw [slot_cancelAdmission, State.slotAfter]
    split <;> simp [Option.map_map, Function.comp_def]
  have waits : ∀ kind m, waitsFor kind j ((cancelAdmission .enrolled i s).slot m) = waitsFor kind j (s.slot m) := by
    intro kind m
    have slots : (cancelAdmission .enrolled i s).slot m = (cancelReply i s).slot m := rfl
    rw [slots]
    rcases cancelReply_cases i s with ⟨-, same⟩ | ⟨n, h, r, hn, held, awaits, -, -, formed⟩
    · rw [same]
    · rw [formed, slot_formReply, slot_setSlot]
      split
      next here =>
        rw [← here.1, held]
        simp [waitsFor, awaits, other]
      next => rfl
  have owed : ∀ kind, (cancelAdmission .enrolled i s).owedReply kind j = s.owedReply kind j := by
    intro kind
    rw [State.owedReply, State.owedReply, deferredSlot_eq_find, deferredSlot_eq_find]
    simp only [waits]
    refine congrArg _ (funext fun m => ?_)
    have mapped := congrArg (Option.map (fun tag => (⟨some m, kind + 64, tag, .cancelled, wordBytes j⟩ : Reply))) (tags m)
    simpa only [Option.map_map, Function.comp_def] using mapped
  rw [State.cancelledReply, State.cancelledReply, entry_cancelAdmission_ne .enrolled other, owed, owed]

/-- Replies formed for a list and then for another settle their slots together. -/
theorem slotAfter_append {s t : State} {rs : List Reply} (h : ∀ m, t.slot m = s.slotAfter rs m) (more : List Reply) (m : Nat) :
    t.slotAfter more m = s.slotAfter (rs ++ more) m := by
  simp only [State.slotAfter, h, List.mem_append, or_and_right, exists_or]
  by_cases first : ∃ r ∈ rs, r.slot = some m <;> by_cases second : ∃ r ∈ more, r.slot = some m <;>
    simp [first, second, Option.map_map, Function.comp_def]

/-- The admissions of a list cancelled one after another. -/
theorem cancelList_spec {l : List Nat} (nodup : l.Nodup) (range : ∀ i ∈ l, i < 512) (s : State) :
    ∀ t, l.foldl (fun s i => cancelAdmission .enrolled i s) s = t →
    t = (formReplies (l.filterMap s.cancelledReply) s).withEntriesAndSlots t.directory t.requestBuffer ∧
    (∀ i, i ∈ l → t.entry i = { s.entry i with state := .enrolled, pending := none, timer := none }) ∧
    (∀ i, i ∉ l → t.entry i = s.entry i) ∧
    ∀ m, t.slot m = s.slotAfter (l.filterMap s.cancelledReply) m := by
  induction l generalizing s with
  | nil =>
    rintro t rfl
    exact ⟨rfl, by simp, fun _ _ => rfl, fun m => by simp [State.slotAfter]⟩
  | cons i l ih =>
    intro t ht
    obtain ⟨fresh, nodup⟩ := List.nodup_cons.mp nodup
    have hi : i < 512 := range i (by simp)
    obtain ⟨rest, inList, apart, slots⟩ := ih nodup (fun j hj => range j (by simp [hj])) (cancelAdmission .enrolled i s) t ht
    have owed : l.filterMap (cancelAdmission .enrolled i s).cancelledReply = l.filterMap s.cancelledReply :=
      List.filterMap_congr fun j hj => cancelledReply_cancelAdmission (by rintro rfl; exact fresh hj) s
    have all : (i :: l).filterMap s.cancelledReply = (s.cancelledReply i).toList ++ l.filterMap s.cancelledReply := by
      cases h : s.cancelledReply i <;> simp [h]
    refine ⟨?_, fun j hj => ?_, fun j hj => ?_, fun m => ?_⟩
    · have first : Machine.formReplies (l.filterMap s.cancelledReply) (cancelAdmission .enrolled i s) =
          State.withEntriesAndSlots _ _ (formReplies (l.filterMap s.cancelledReply) (formReplies (s.cancelledReply i).toList s)) :=
        (congrArg _ (cancelAdmission_withEntriesAndSlots i s)).trans ((linkApart_withEntriesAndSlots _ _).formReplies _ _)
      have joined : formReplies (l.filterMap s.cancelledReply) (formReplies (s.cancelledReply i).toList s) =
          formReplies ((i :: l).filterMap s.cancelledReply) s := by
        rw [all]
        exact (List.foldl_append ..).symm
      rw [owed, first, joined] at rest
      exact rest
    · rcases List.mem_cons.mp hj with rfl | hj
      · rw [apart j fresh, entry_cancelAdmission hi]
      · rw [inList j hj, entry_cancelAdmission_ne .enrolled (by rintro rfl; exact fresh hj)]
    · obtain ⟨other, hj⟩ := not_or.mp (mt List.mem_cons.mpr hj)
      rw [apart j hj, entry_cancelAdmission_ne .enrolled (Ne.symm other)]
    · rw [slots, owed, all, slotAfter_append (slot_cancelAdmission i s)]

/-- Every admission cancelled, with the replies in entry order (R105). -/
theorem cancelAdmissions_spec (s : State) : ∀ t, cancelAdmissions s = t →
    t = (formReplies s.cancelledReplies s).withEntriesAndSlots t.directory t.requestBuffer ∧
    (∀ i < 512, (s.entry i).inAdmission = true →
      t.entry i = { s.entry i with state := .enrolled, pending := none, timer := none }) ∧
    (∀ i < 512, (s.entry i).inAdmission = false → t.entry i = s.entry i) ∧
    ∀ m, t.slot m = s.slotAfter s.cancelledReplies m := by
  intro t ht
  rw [cancelledReplies_eq]
  obtain ⟨link, inList, apart, slots⟩ :=
    cancelList_spec (admissions_nodup s) (fun i hi => ((mem_admissions s i).mp hi).1) s t ht
  exact ⟨link, fun i hi now => inList i ((mem_admissions s i).mpr ⟨hi, now⟩),
    fun i _ now => apart i (by simp [mem_admissions, now]), slots⟩

theorem admissions_length (s : State) : s.admissions.length =
    (List.range 512).countP (fun i => (s.entry i).state == .challenged || (s.entry i).state == .checking) := by
  rw [State.admissions, places_eq_filter _ Entry.vacant, List.countP_eq_length_filter]
  rfl

/-- Disjoint alternatives are counted together. -/
theorem countP_or_of_apart {α : Type} (p q : α → Bool) (apart : ∀ x, p x = true → q x = false) (l : List α) :
    l.countP (fun x => p x || q x) = l.countP p + l.countP q := by
  induction l with
  | nil => rfl
  | cons x l ih =>
    rw [List.countP_cons, List.countP_cons, List.countP_cons, ih]
    cases hp : p x
    · simp [Nat.add_assoc]
    · simp [apart x hp, Nat.add_right_comm]

theorem returned_eq (s : State) :
    s.admissions.length + (places (fun e => e.state == .admitted) s.directory).length = (List.range 512).countP (fun i =>
      (s.entry i).state == .challenged || (s.entry i).state == .checking || (s.entry i).state == .admitted) := by
  rw [countP_or_of_apart (fun i => (s.entry i).state == .challenged || (s.entry i).state == .checking), admissions_length,
    places_eq_filter _ Entry.vacant, ← List.countP_eq_length_filter]
  · rfl
  · intro i
    cases (s.entry i).state <;> decide

/-! ### The modes that end them -/

/-- A control mode and a silence timer put in place of those of a state: the link's queues do not read them. -/
theorem linkApart_modeAndSilence (m : Mode) (x : SilenceTimer) :
    LinkApart (fun s => { s with mode := m, silence := x }) := ⟨fun _ => rfl, fun _ _ _ _ _ => rfl⟩

theorem maintenanceEntry_of_admitted {e : Entry} (h : e.state = .admitted) : maintenanceEntry e =
    { e with state := .enrolled, sk := none, register := [], screening := false, interdigit := none } := by
  rw [maintenanceEntry, h]

theorem maintenanceEntry_of_not_admitted {e : Entry} (h : e.state ≠ .admitted) : maintenanceEntry e = e := by
  unfold maintenanceEntry
  split
  next now => exact absurd now h
  next => rfl

/-- Settles O51: both entries cancel the admissions of a state that differs from the first in its mode and silence timer. -/
theorem modeEntriesEndAdmissions : Obligations.ModeEntriesEndAdmissions := by
  intro s j tag mode
  dsimp only
  generalize owed : s.cancelledReplies = rs
  refine ⟨fun hs noCall free => ?_, fun running due => ?_, fun u running undue => ?_⟩
  · obtain ⟨silence, paused⟩ : ∃ x, x = (match s.silence with
        | .running c => SilenceTimer.paused c.ticks
        | x => x) := ⟨_, rfl⟩
    obtain ⟨u, cancelled⟩ : ∃ u, cancelAdmissions { s with mode := .maintenance, silence := silence } = u := ⟨_, rfl⟩
    obtain ⟨link, ended, kept, slots⟩ := cancelAdmissions_spec _ u cancelled
    have replies := (linkApart_modeAndSilence .maintenance silence).formReplies rs s
    have sameReplies : State.cancelledReplies { s with mode := .maintenance, silence := silence } = rs := owed
    rw [sameReplies, replies] at link
    have entry : ∀ i < 512, State.entry { u with directory := mapTable maintenanceEntry u.directory } i =
        maintenanceEntry (u.entry i) := fun i hi => readAt_mapTable _ _ _ _ i hi
    refine ⟨{ u with directory := mapTable maintenanceEntry u.directory }, request_answered hs ?_, ?_,
      fun i hi => ⟨fun now => ?_, fun now => ?_, fun out notAdmitted => ?_⟩,
      fun m _ => (slots m).trans ?_⟩
    · rw [takeMaintEnter, if_neg (by simp [mode]), if_neg (by simp [mode]),
        if_neg (by simp [noCall, (allLegsFree_iff s).mpr free]), ← returned_eq, ← cancelled, paused] <;> rfl
    · subst paused
      exact congrArg (fun v : State => { v with directory := mapTable maintenanceEntry u.directory }) link
    · rw [entry i hi, ended i hi ((inAdmission_iff _).mpr now)]
      exact maintenanceEntry_of_not_admitted (by simp)
    · have out : ¬ ((s.entry i).state = .challenged ∨ (s.entry i).state = .checking) := by simp [now]
      rw [entry i hi, kept i hi (by rw [← Bool.not_eq_true, inAdmission_iff]; exact out)]
      exact maintenanceEntry_of_admitted now
    · rw [entry i hi, kept i hi (by rw [← Bool.not_eq_true, inAdmission_iff]; exact out)]
      exact maintenanceEntry_of_not_admitted notAdmitted
    · rw [State.slotAfter, sameReplies]
      rfl
  · obtain ⟨base, reported⟩ : ∃ base, queueReport (.standaloneEntered s.admissions.length)
        { s with mode := .standalone, silence := .stopped } = base := ⟨_, rfl⟩
    have apart := linkApart_modeAndSilence .standalone .stopped
    have moved := (apart.queueReport s (.standaloneEntered s.admissions.length)).symm.trans reported
    have entries : ∀ i, base.entry i = s.entry i := fun i => entry_of_directory (by rw [← reported]; simp) i
    have slotsKept : ∀ m, base.slot m = s.slot m := fun m => by rw [← reported]; simp [State.slot]
    have sameReplies : base.cancelledReplies = rs := by
      rw [← owed]
      simp only [State.cancelledReplies, entries, slotsKept]
    obtain ⟨u, cancelled⟩ : ∃ u, cancelAdmissions base = u := ⟨_, rfl⟩
    obtain ⟨link, ended, kept, slots⟩ := cancelAdmissions_spec base u cancelled
    refine ⟨u, event_taken enterStandalone running ?_, ?_, fun i hi => ⟨fun now => ?_, fun out => ?_⟩, fun m _ => ?_⟩
    · rw [enterStandalone, if_pos ⟨mode, (silenceDue_iff _).mpr due⟩, reported, cancelled]
    · rw [sameReplies, ← moved, apart.formReplies, admissions_length] at link
      exact link
    · rw [ended i hi ((inAdmission_iff _).mpr (by rw [entries]; exact now)), entries]
    · rw [kept i hi (by rw [← Bool.not_eq_true, inAdmission_iff, entries]; exact out), entries]
    · rw [slots, State.slotAfter, sameReplies, slotsKept]
  · refine event_taken enterStandalone running (if_neg fun ⟨normal, due⟩ => ?_)
    exact undue.elim (fun other => other normal) fun wait => wait ((silenceDue_iff _).mp due)

end Sys2Proof.Machine
end

section
/-! PROOFS. The key point, the sync pattern, and one frame event of a direction (O45) -/

namespace Sys2Proof.Machine

/-! ### The key point (R58) -/

theorem bindKey_of_active {r : Nat} {block current : Long} {k : DirectionKeys} {a : EpochKey} (active : k.active = some a)
    (now : a.epoch = epochOf r block) : bindKey r block current k = (k, some a.key) := by
  simp only [bindKey, active, if_pos now]

theorem bindKey_of_standby {r : Nat} {block current : Long} {k : DirectionKeys} {b : EpochKey}
    (past : ∀ a, k.active = some a → a.epoch ≠ epochOf r block) (standby : k.standby = some b)
    (now : b.epoch = epochOf r block) : bindKey r block current k =
      ({ k with active := some b, standby := none, wanted := some (followingEpoch r (epochOf r block)) }, some b.key) := by
  cases active : k.active with
  | none => simp only [bindKey, active, standby, if_pos now]
  | some a => simp only [bindKey, active, standby, if_neg (past a active), if_pos now]

theorem bindKey_of_neither {r : Nat} {block current : Long} {k : DirectionKeys}
    (past : ∀ a, k.active = some a → a.epoch ≠ epochOf r block) (other : ∀ b, k.standby = some b → b.epoch ≠ epochOf r block) :
    bindKey r block current k = ({ k with active := none, standby := none, wanted := some (epochOf r current) }, none) := by
  cases active : k.active <;> cases standby : k.standby
  · simp only [bindKey, active, standby]
  · simp only [bindKey, active, standby, if_neg (other _ standby)]
  · simp only [bindKey, active, standby, if_neg (past _ active)]
  · simp only [bindKey, active, standby, if_neg (past _ active), if_neg (other _ standby)]

/-- The inbound direction's key point is for its current block. -/
theorem bindKey_bindsBlock (r : Nat) (block : Long) (k : DirectionKeys) :
    BindsBlock r block k (bindKey r block block k).1 (bindKey r block block k).2 := by
  refine ⟨fun a active now => ?_, fun b past standby now => ?_, fun past other => ?_⟩
  · rw [bindKey_of_active active now]
    exact ⟨rfl, rfl⟩
  · rw [bindKey_of_standby past standby now]
    exact ⟨rfl, rfl⟩
  · rw [bindKey_of_neither past other]
    exact ⟨rfl, rfl⟩

/-! ### The sync pattern (R18) -/

theorem validSync_eq_some_iff (p : Nat) (t : List Byte) (n : Long) : validSync p t = some n ↔ SyncPattern p t n := by
  have carried : carriedNumber (t.drop 8) = BitVec.ofNat 32 ((t.getD 8 0).toNat * 16777216 + (t.getD 9 0).toNat * 65536 +
      (t.getD 10 0).toNat * 256 + (t.getD 11 0).toNat) := by
    simp [carriedNumber, List.getD_eq_getElem?_getD, List.getElem?_drop]
  have period : ∀ m : Long, isSyncBlock p m = true ↔ m.toNat % p = 0 := fun m => beq_iff_eq
  unfold validSync SyncPattern
  simp only [period, syncMarker, ← carried]
  split
  next valid =>
    obtain ⟨length, marker, check, sync⟩ := valid
    simp only [length, marker, check, true_and, Option.some.injEq]
    exact ⟨fun same => ⟨same.symm, same ▸ sync⟩, fun both => both.1.symm⟩
  next invalid =>
    simp only [reduceCtorEq, false_iff]
    rintro ⟨length, marker, check, rfl, sync⟩
    exact invalid ⟨length, marker, check, sync⟩

theorem validSync_eq_none_iff (p : Nat) (t : List Byte) : validSync p t = none ↔ ∀ n, ¬ SyncPattern p t n := by
  simp only [← validSync_eq_some_iff, Option.eq_none_iff_forall_not_mem, Option.mem_def]

/-! ### The outbound direction (R59, R60) -/

theorem outboundFrame_of_running {o : Outbound} (running : o.state ≠ .wait) (p : Params) (d : Nat) (x : Byte) :
    outboundFrame p d x o =
      let o := if o.filling.length = 128 then o.turnOver p d else o
      ({ o with filling := o.filling ++ [x] }, o.driven p o.filling.length) := by
  unfold outboundFrame
  split
  next wait => exact absurd wait running
  next => rfl

/-- After a block the outbound direction's record follows from its key point. -/
theorem outboundFrame_of_block {p : Params} {d : Nat} {x : Byte} {o : Outbound} (running : o.state ≠ .wait)
    (block : o.filling.length = 128) {keys : DirectionKeys} {key : Option Key}
    (bound : bindKey p.epochLength o.counter (o.counter + 1) o.keys = (keys, key)) :
    outboundFrame p d x o =
      let turned : Outbound := ⟨if key.isSome then .run else .late, keys, o.counter + 1, [], o.filling,
        some ⟨o.counter, key.map (fun key => generator key o.counter d)⟩⟩
      ({ turned with filling := [x] }, turned.driven p 0) := by
  rw [outboundFrame_of_running running, if_pos block, Outbound.turnOver, bound]
  rfl

/-! ### The inbound direction (R61 to R65) -/

theorem inboundFrame_of_hunt {i : Inbound} (hunt : i.state = .hunt) (p : Params) (d : Nat) (x : Byte) :
    inboundFrame p d x i = (i.huntFrame p x, byteOf p.idleCode) := by
  rw [inboundFrame, hunt]

theorem inboundFrame_of_skipping {i : Inbound} (found : i.state ≠ .hunt) (skip : 0 < i.skip) (p : Params) (d : Nat) (x : Byte) :
    inboundFrame p d x i = ({ i with skip := i.skip - 1 }, byteOf p.idleCode) := by
  unfold inboundFrame
  split
  next hunt => exact absurd hunt found
  next => rw [if_pos skip]

theorem inboundFrame_of_placing {i : Inbound} (found : i.state ≠ .hunt) (skip : i.skip = 0) (p : Params) (d : Nat) (x : Byte) :
    inboundFrame p d x i =
      let i := if i.filling.length = 128 then i.blockEnd p d else i
      (i.place p x, i.driven p i.filling.length) := by
  unfold inboundFrame
  split
  next hunt => exact absurd hunt found
  next => rw [if_neg (by omega)]

/-- The history tested in HUNT: the last 13 samples. -/
theorem huntFrame_of_pattern {p : Params} {x : Byte} {i : Inbound} {n : Long}
    (pattern : SyncPattern p.syncPeriod ((i.history ++ [x]).drop (i.history.length - 12)) n) :
    i.huntFrame p x = i.adopt p n := by
  have last : (i.history ++ [x]).length - 13 = i.history.length - 12 := by simp
  have tested := (validSync_eq_some_iff p.syncPeriod _ n).mpr pattern
  unfold Inbound.huntFrame
  dsimp only
  rw [last, tested]

theorem huntFrame_of_no_pattern {p : Params} {x : Byte} {i : Inbound}
    (noPattern : ∀ n, ¬ SyncPattern p.syncPeriod ((i.history ++ [x]).drop (i.history.length - 12)) n) :
    i.huntFrame p x = { i with history := (i.history ++ [x]).drop (i.history.length - 12) } := by
  have last : (i.history ++ [x]).length - 13 = i.history.length - 12 := by simp
  have tested := (validSync_eq_none_iff p.syncPeriod _).mpr noPattern
  unfold Inbound.huntFrame
  dsimp only
  rw [last, tested]

theorem inboundDriven_eq (p : Params) (i : Inbound) (q : Nat) : i.driven p q =
    if i.delivery = none then byteOf p.idleCode else i.draining.getD q (byteOf p.idleCode) := by
  cases h : i.delivery <;> simp [Inbound.driven, h]

theorem place_of_unchecked {p : Params} {i : Inbound}
    (unchecked : ¬ (i.filling.length = 124 ∧ i.counter.toNat % p.syncPeriod = 0)) (x : Byte) :
    i.place p x = { i with filling := i.filling ++ [x] } :=
  if_neg fun ⟨position, sync⟩ => unchecked ⟨position, beq_iff_eq.mp sync⟩

theorem place_of_checked {p : Params} {i : Inbound}
    (checked : i.filling.length = 124 ∧ i.counter.toNat % p.syncPeriod = 0) (x : Byte) :
    i.place p x = ({ i with filling := i.filling ++ [x] } : Inbound).syncCheck p :=
  if_pos ⟨checked.1, beq_iff_eq.mpr checked.2⟩

/-- After a block the inbound direction's record: the next block with its key point, the samples recovered, the first of the
next block placed. -/
theorem inboundFrame_of_block {p : Params} {d : Nat} {x : Byte} {i : Inbound} (found : i.state ≠ .hunt) (skip : i.skip = 0)
    (block : i.filling.length = 128) : inboundFrame p d x i =
      ({ i.blockEnd p d with filling := [x] }, (i.blockEnd p d).driven p 0) := by
  rw [inboundFrame_of_placing found skip, if_pos block]
  exact congrArg (fun j : Inbound => (j, _)) (place_of_unchecked (i := i.blockEnd p d) (by simp [Inbound.blockEnd]) x)

theorem isSome_state (bound : Option Key) : (if bound.isSome then InState.run else .late) = match bound with
    | some _ => InState.run
    | none => .late := by
  cases bound <;> rfl

/-- Settles O45: the outbound event by its state and its key point, the inbound event by its state and the sync test. -/
theorem outboundFrameEvent : Obligations.OutboundFrameEvent := by
  refine ⟨fun p d x o wait => ?_, fun p d x o running => ⟨fun inside => ?_, fun block => ?_⟩, fun p d x i => ⟨?_, ?_, ?_, ?_⟩⟩
  · rw [outboundFrame, wait]
  · rw [outboundFrame_of_running running, if_neg (Nat.ne_of_lt inside)]
    rfl
  · obtain ⟨keys, key, bound⟩ : ∃ keys key, bindKey p.epochLength o.counter (o.counter + 1) o.keys = (keys, key) := ⟨_, _, rfl⟩
    rw [outboundFrame_of_block running block bound]
    refine ⟨rfl, rfl, rfl, fun a active now => ?_, fun b past standby now => ?_, fun past other => ?_⟩
    · cases bound.symm.trans (bindKey_of_active active now)
      exact ⟨rfl, rfl, rfl, rfl⟩
    · cases bound.symm.trans (bindKey_of_standby past standby now)
      exact ⟨rfl, rfl, rfl, rfl⟩
    · cases bound.symm.trans (bindKey_of_neither past other)
      exact ⟨rfl, rfl, rfl, rfl⟩
  · intro hunt
    rw [inboundFrame_of_hunt hunt]
    refine ⟨rfl, huntFrame_of_no_pattern, fun n pattern => ?_⟩
    dsimp only
    rw [huntFrame_of_pattern pattern]
    exact ⟨bindKey_bindsBlock _ _ _, by rw [Inbound.adopt, isSome_state] <;> rfl⟩
  · intro found skip
    rw [inboundFrame_of_skipping found skip]
    exact ⟨rfl, rfl⟩
  · intro found skip inside
    rw [inboundFrame_of_placing found skip, if_neg (Nat.ne_of_lt inside)]
    refine ⟨inboundDriven_eq p i _, fun unchecked => place_of_unchecked unchecked x, fun checked pattern => ?_,
      fun checked noPattern => ?_⟩
    · exact (place_of_checked checked x).trans (if_pos ((validSync_eq_some_iff _ _ _).mpr pattern))
    · refine (place_of_checked checked x).trans ((if_neg (mt (validSync_eq_some_iff _ _ _).mp noPattern)).trans ?_)
      by_cases limit : i.misses + 1 < p.missLimit
      · rw [if_pos limit]
        exact if_neg (by simpa using limit)
      · rw [if_neg limit]
        exact if_pos (by simpa using limit)
  · intro found skip block
    rw [inboundFrame_of_block found skip block]
    refine ⟨bindKey_bindsBlock _ _ _, ?_, ?_⟩
    · rw [Inbound.blockEnd, isSome_state] <;> rfl
    · dsimp only
      rw [inboundDriven_eq]
      cases bound : i.bound with
      | none => simp only [Inbound.blockEnd, bound]; rfl
      | some key => simp only [Inbound.blockEnd, bound]; rfl

end Sys2Proof.Machine
end

section
/-! PROOFS. A hold fill of another length shifts the segments behind it: the counterexample to O46 -/

namespace Sys2Proof.Machine

/-! ### A hold fill that is not a segment -/

/-- Eight block words whose permutation has slot 7 carry segment 0. -/
def wordsDisplacingZero : List Word := List.replicate 8 1

/-- A block whose sample at position `q` is `q`. -/
def countingBlock : List Byte := (List.range 128).map (BitVec.ofNat 8)

theorem permutation_wordsDisplacingZero : permutation wordsDisplacingZero = [1, 2, 3, 4, 5, 6, 7, 0] := by decide

/-- What the receiver makes of the sync block 0 when the segment delivered before is empty: the hold fill of segment 0 is
empty too, so segment 2 stands where segment 1 belongs. -/
theorem recoverBlock_with_empty_fill :
    (recoverBlock wordsDisplacingZero 0 1 0 (some []) ((List.range 128).map
      (scrambledSample wordsDisplacingZero 0 1 0 countingBlock))).getD 16 0 = 32 := by decide

/-- Refutes O46: its clause on the segments that are not displaced lets the last segment delivered have any length, and where
segment 0 is displaced a hold fill that has not 16 samples shifts every segment behind it. In the counterexample the last segment
is empty, and the first sample of segment 1 is recovered as 32, the first of segment 2, where 16 was sent. -/
theorem not_descramblerUndoesScrambler : ¬ Obligations.DescramblerUndoesScrambler := by
  intro h
  obtain ⟨-, synced, -⟩ := h wordsDisplacingZero 0 1 0 (some []) countingBlock (by decide) (by simp [countingBlock])
  obtain ⟨-, segments⟩ := synced (by decide)
  have recovered := segments 1 (by decide) (by rw [permutation_wordsDisplacingZero]; decide) 0 (by decide)
  have sixteen := recoverBlock_with_empty_fill.symm.trans recovered
  exact absurd sixteen (by decide)

end Sys2Proof.Machine
end

section
/-! PROOFS. The turn of one leg: what a change of a direction leaves of the other legs, the calls and the reports that wait -/

namespace Sys2Proof.Machine

/-! ### The turn of one leg: what a change of a direction leaves -/

theorem openLeg_congr {s t : State} {k : Nat} (h : t.leg k = s.leg k) : t.openLeg? k = s.openLeg? k := by
  rw [State.openLeg?, State.openLeg?, h]

theorem leg_updateOpen_ne {k j : Nat} (h : j ≠ k) (f : OpenLeg → OpenLeg) (s : State) : (s.updateOpen k f).leg j = s.leg j := by
  unfold State.updateOpen
  split
  · rw [leg_setLeg, if_neg (by rintro ⟨rfl, -⟩; exact h rfl)]
  · rfl

theorem leg_evaluateCalls (s : State) (j : Nat) : (evaluateCalls s).leg j = s.leg j := by
  simp only [State.leg, evaluateCalls_keeps]

theorem leg_noticeRunning (k : Nat) (was : Bool) (s : State) (j : Nat) : (noticeRunning k was s).leg j = s.leg j := by
  simp only [State.leg, noticeRunning_keeps]

theorem leg_offerEpoch_ne {k j : Nat} (h : j ≠ k) (d : Direction) (s : State) : (offerEpoch k d s).leg j = s.leg j := by
  have placed : ∀ sk e, (placeEpochJob k d sk e s).leg j = s.leg j := fun sk e => by
    unfold placeEpochJob
    split
    · exact leg_updateOpen_ne h _ _
    · exact leg_updateOpen_ne h _ _
  unfold offerEpoch
  (repeat' split) <;> simp only [placed]

theorem leg_directionChanged_ne {k j : Nat} (h : j ≠ k) (d : Direction) (before after : OpenLeg) (s : State) :
    (directionChanged k d before after s).leg j = s.leg j := by
  rw [directionChanged, leg_noticeRunning, leg_offerEpoch_ne h]
  split
  · rw [leg_queueReport, leg_updateOpen_ne h]
  · exact leg_updateOpen_ne h _ _

/-- The state with the leg's record kept and the change of state told, before the offer. -/
def changeTold (k : Nat) (d : Direction) (before after : OpenLeg) (s : State) : State :=
  match changeReport k d (before.stateOf d) after with
  | some r => queueReport r (s.updateOpen k (fun _ => after))
  | none => s.updateOpen k (fun _ => after)

theorem directionChanged_eq (k : Nat) (d : Direction) (before after : OpenLeg) (s : State) :
    directionChanged k d before after s = noticeRunning k before.running (offerEpoch k d (changeTold k d before after s)) := rfl

theorem leg_changeTold {s : State} {k : Nat} {w : Owner} {o : OpenLeg} (hk : k < 48) (use : (s.leg k).use = .opened w o)
    (d : Direction) (before after : OpenLeg) :
    (changeTold k d before after s).leg k = ⟨(s.leg k).stamp, .opened w after⟩ := by
  have kept : (s.updateOpen k (fun _ => after)).leg k = ⟨(s.leg k).stamp, .opened w after⟩ := by
    rw [updateOpen_of_use use, leg_setLeg_self hk]
  unfold changeTold
  split
  · rw [leg_queueReport, kept]
  · exact kept

theorem leg_directionChanged {s : State} {k : Nat} {w : Owner} {o : OpenLeg} (hk : k < 48) (use : (s.leg k).use = .opened w o)
    (d : Direction) (before after : OpenLeg) : ∃ keys : DirectionKeys,
    (directionChanged k d before after s).leg k = ⟨(s.leg k).stamp, .opened w (after.setKeys d keys)⟩ ∧
      keys = { after.keys d with outstanding := keys.outstanding, marked := keys.marked } := by
  have told := leg_changeTold hk use d before after
  obtain ⟨keys, leg, same⟩ := leg_offerEpoch hk (congrArg Leg.use told) d
  exact ⟨keys, by rw [directionChanged_eq, leg_noticeRunning, leg, told], same⟩

/-! ### Reports behind those that wait -/

/-- While a frame is sent it stays in transmission, and the reports that wait keep their places. -/
def State.QueueGrows (s t : State) : Prop :=
  s.transmitting ≠ none → t.transmitting = s.transmitting ∧ s.reportQueue <+: t.reportQueue

theorem State.QueueGrows.refl (s : State) : s.QueueGrows s := fun _ => ⟨rfl, List.prefix_rfl⟩

theorem State.QueueGrows.of_same {s t : State} (transmitting : t.transmitting = s.transmitting)
    (reports : t.reportQueue = s.reportQueue) : s.QueueGrows t := fun _ => ⟨transmitting, reports ▸ List.prefix_rfl⟩

theorem State.QueueGrows.trans {s t u : State} (h : s.QueueGrows t) (h' : t.QueueGrows u) : s.QueueGrows u := fun busy => by
  obtain ⟨sends, reports⟩ := h busy
  obtain ⟨sends', reports'⟩ := h' (by rw [sends]; exact busy)
  exact ⟨sends'.trans sends, reports.trans reports'⟩

theorem State.QueueGrows.queueReport (r : Report) (s : State) : s.QueueGrows (queueReport r s) := by
  intro busy
  rcases queueReport_spec r s with ⟨-, same⟩ | ⟨-, -, queued⟩ | ⟨-, -, dropped⟩
  · rw [same]
    exact ⟨rfl, List.prefix_rfl⟩
  · rw [queued.trans (transmitNext_of_busy busy)]
    exact ⟨rfl, List.prefix_append _ _⟩
  · rw [dropped]
    exact ⟨rfl, List.prefix_rfl⟩

theorem State.QueueGrows.queueReports (rs : List Report) (s : State) : s.QueueGrows (queueReports rs s) := by
  induction rs generalizing s with
  | nil => exact .refl s
  | cons r rs ih => exact (State.QueueGrows.queueReport r s).trans (ih _)

theorem State.QueueGrows.evaluateCalls (s : State) : s.QueueGrows (evaluateCalls s) :=
  State.QueueGrows.trans (t := { s with calls := s.calls.map s.evaluateCall }) (.of_same rfl rfl) (.queueReports _ _)

theorem State.QueueGrows.directionChanged (k : Nat) (d : Direction) (before after : OpenLeg) (s : State) :
    s.QueueGrows (directionChanged k d before after s) := by
  have kept : s.QueueGrows (s.updateOpen k (fun _ => after)) := .of_same (by simp) (by simp)
  have told : s.QueueGrows (changeTold k d before after s) := by
    unfold changeTold
    split
    · exact kept.trans (.queueReport _ _)
    · exact kept
  have offered : s.QueueGrows (offerEpoch k d (changeTold k d before after s)) := told.trans (.of_same (by simp) (by simp))
  rw [directionChanged_eq, noticeRunning]
  split
  · exact offered.trans (.evaluateCalls _)
  · exact offered

theorem calls_directionChanged_length (k : Nat) (d : Direction) (before after : OpenLeg) (s : State) :
    (directionChanged k d before after s).calls.length = s.calls.length := by
  have told : (changeTold k d before after s).calls = s.calls := by
    unfold changeTold
    split <;> simp
  have offered : (offerEpoch k d (changeTold k d before after s)).calls = s.calls := by simp [told]
  rw [directionChanged_eq, noticeRunning]
  split
  · rw [evaluateCalls_calls, List.length_map, offered]
  · rw [offered]

/-! ### The turns of several legs -/

/-- In turns that each touch one leg, a leg has its turn on its record as it stood. -/
theorem leg_of_turns {f : State → Nat → State} (apart : ∀ u j k, k ≠ j → (f u j).leg k = u.leg k)
    (params : ∀ u j, (f u j).params = u.params) {l : List Nat} (nodup : l.Nodup) (s : State) (k : Nat) :
    (k ∉ l → (l.foldl f s).leg k = s.leg k) ∧
    (k ∈ l → ∃ u : State, u.leg k = s.leg k ∧ u.params = s.params ∧ (l.foldl f s).leg k = (f u k).leg k) := by
  induction l generalizing s with
  | nil => exact ⟨fun _ => rfl, fun h => absurd h (by simp)⟩
  | cons j l ih =>
    obtain ⟨fresh, nodup⟩ := List.nodup_cons.mp nodup
    obtain ⟨outside, inside⟩ := ih nodup (f s j)
    refine ⟨fun h => ?_, fun h => ?_⟩
    · obtain ⟨other, h⟩ := not_or.mp (mt List.mem_cons.mpr h)
      rw [List.foldl_cons, outside h, apart s j k other]
    · by_cases same : k = j
      · subst same
        exact ⟨s, rfl, rfl, outside fresh⟩
      · obtain ⟨u, leg, sameParams, turn⟩ := inside ((List.mem_cons.mp h).resolve_left same)
        exact ⟨u, leg.trans (apart s j k same), sameParams.trans (params s j), turn⟩

end Sys2Proof.Machine
end

section
/-! PROOFS. The loss of the frame reference: FRAME_LOST, and every OPEN leg hunting afresh (O48) -/

namespace Sys2Proof.Machine

/-! ### The loss of the frame reference (R34, R68) -/

theorem openLeg_of_closed {s : State} {k : Nat} (closed : (s.leg k).use.isOpen = false) : s.openLeg? k = none := by
  rw [State.openLeg?]
  cases h : (s.leg k).use with
  | opened w o => simp [h, LegUse.isOpen] at closed
  | _ => rfl

theorem lossHunt_of_closed {s : State} {k : Nat} (closed : (s.leg k).use.isOpen = false) : lossHunt k s = s := by
  simp only [lossHunt, openLeg_of_closed closed]

/-- An OPEN leg whose inbound direction hunts afresh. -/
def OpenLeg.hunting (o : OpenLeg) (p : Params) : OpenLeg := { o with inb := o.inb.toHunt p }

theorem lossHunt_of_opened {s : State} {k : Nat} {w : Owner} {o : OpenLeg} (use : (s.leg k).use = .opened w o) :
    lossHunt k s = directionChanged k .inbound o (o.hunting s.params) s := by
  simp only [lossHunt, openLeg_of_use use, OpenLeg.hunting]

theorem isOpen_cases (s : State) (k : Nat) :
    (s.leg k).use.isOpen = false ∨ ∃ w o, (s.leg k).use = .opened w o := by
  cases h : (s.leg k).use with
  | free => exact .inl rfl
  | reserved w => exact .inl rfl
  | opened w o => exact .inr ⟨w, o, rfl⟩

theorem leg_lossHunt_ne {j k : Nat} (h : k ≠ j) (s : State) : (lossHunt j s).leg k = s.leg k := by
  rcases isOpen_cases s j with closed | ⟨w, o, use⟩
  · rw [lossHunt_of_closed closed]
  · rw [lossHunt_of_opened use, leg_directionChanged_ne h]

theorem State.QueueGrows.lossHunts (l : List Nat) (s : State) : s.QueueGrows (l.foldl (fun s k => lossHunt k s) s) := by
  induction l generalizing s with
  | nil => exact .refl s
  | cons k l ih =>
    refine State.QueueGrows.trans ?_ (ih (lossHunt k s))
    rcases isOpen_cases s k with closed | ⟨w, o, use⟩
    · rw [lossHunt_of_closed closed]
      exact .refl s
    · rw [lossHunt_of_opened use]
      exact .directionChanged _ _ _ _ _

theorem lossHunts_of_closed (l : List Nat) {s : State} (closed : ∀ k ∈ l, (s.leg k).use.isOpen = false) :
    l.foldl (fun s k => lossHunt k s) s = s := by
  induction l with
  | nil => rfl
  | cons k l ih => rw [List.foldl_cons, lossHunt_of_closed (closed k (by simp)), ih fun j hj => closed j (by simp [hj])]

/-- A report queued first, by an idle transmitter taken at once, keeps its place before all that follow. -/
theorem firstReport_kept {s t : State} {r : Report} (enabled : s.reportMask.getLsbD (r.kind - 128) = true)
    (grows : (queueReport r s).QueueGrows t) :
    (s.transmitting = none → s.replyQueue = [] → s.reportQueue = [] → t.transmitting = some (.report ⟨r, s.lostFlag⟩)) ∧
    (s.transmitting ≠ none → s.reportQueue.length < 32 → t.reportQueue[s.reportQueue.length]? = some ⟨r, s.lostFlag⟩) := by
  refine ⟨fun idle noReply noReport => ?_, fun busy room => ?_⟩
  · have queued := queueReport_admitted enabled (by simp [noReport])
    have taken : (queueReport r s).transmitting = some (.report ⟨r, s.lostFlag⟩) := by
      rw [queued, transmitNext_of_report (s := { s with reportQueue := _, lostFlag := false }) idle noReply (by rw [noReport]; rfl)]
    rw [(grows (by simp [taken])).1, taken]
  · have queued : (queueReport r s) = { s with reportQueue := s.reportQueue ++ [⟨r, s.lostFlag⟩], lostFlag := false } :=
      (queueReport_admitted enabled room).trans (transmitNext_of_busy busy)
    rw [queued] at grows
    obtain ⟨more, reports⟩ := (grows busy).2
    rw [← reports]
    simp

theorem lossHunts_calls_length (l : List Nat) (s : State) :
    (l.foldl (fun s k => lossHunt k s) s).calls.length = s.calls.length := by
  induction l generalizing s with
  | nil => rfl
  | cons k l ih =>
    rw [List.foldl_cons, ih]
    rcases isOpen_cases s k with closed | ⟨w, o, use⟩
    · rw [lossHunt_of_closed closed]
    · rw [lossHunt_of_opened use, calls_directionChanged_length]

theorem openLegs_eq (s : State) : s.openLegs = (List.range 48).countP (fun k => (s.leg k).use.isOpen) := by
  rw [State.openLegs, places_eq_filter _ Leg.atReset, List.countP_eq_length_filter]
  rfl

/-! ### The reports of a loss, where all are admitted -/

theorem evaluateCalls_of_no_calls {s : State} (noCall : s.calls = []) : evaluateCalls s = s := by
  rw [evaluateCalls, noCall, List.filterMap_nil, List.map_nil, ← noCall]
  rfl

theorem directionChanged_of_no_calls {s : State} (noCall : s.calls = []) (k : Nat) (d : Direction) (before after : OpenLeg) :
    directionChanged k d before after s = offerEpoch k d (changeTold k d before after s) := by
  have told : (changeTold k d before after s).calls = s.calls := by
    unfold changeTold
    split <;> simp
  rw [directionChanged_eq, noticeRunning]
  split
  · exact evaluateCalls_of_no_calls (by simp [told, noCall])
  · rfl

/-- A state in which every report is admitted as it comes: none is masked, none was lost, a frame is sent, and no call
stands. -/
structure State.ListsReports (s : State) : Prop where
  enabled : ∀ b < 32, s.reportMask.getLsbD b = true
  noneLost : s.lostFlag = false
  busy : s.transmitting ≠ none
  noCall : s.calls = []

theorem queueReport_listed {s : State} (lists : s.ListsReports) {r : Report} (kind : r.kind - 128 < 32)
    (room : s.reportQueue.length < 32) :
    queueReport r s = { s with reportQueue := s.reportQueue ++ [⟨r, false⟩], lostFlag := false } := by
  rw [queueReport_admitted (lists.enabled _ kind) room, lists.noneLost]
  exact transmitNext_of_busy lists.busy

theorem changeTold_of_hunting {o : OpenLeg} (hunts : o.inb.state = .hunt) (k : Nat) (p : Params) (s : State) :
    changeTold k .inbound o (o.hunting p) s = s.updateOpen k (fun _ => o.hunting p) := by
  have report : changeReport k .inbound (o.stateOf .inbound) (o.hunting p) = none :=
    changeReport_inbound.trans (if_pos hunts.symm)
  rw [changeTold, report]

theorem changeTold_of_found {o : OpenLeg} (found : o.inb.state ≠ .hunt) (k : Nat) (p : Params) (s : State) :
    changeTold k .inbound o (o.hunting p) s =
      queueReport (.legState k .inbound .hunt 0) (s.updateOpen k (fun _ => o.hunting p)) := by
  have report : changeReport k .inbound (o.stateOf .inbound) (o.hunting p) = some (.legState k .inbound .hunt 0) :=
    changeReport_inbound.trans (if_neg (Ne.symm found))
  rw [changeTold, report]

/-- The report that the loss brings for leg `k`. -/
def State.huntReport (s : State) (k : Nat) : Option QueuedReport :=
  (s.openLeg? k).bind (fun o => if o.inb.state = .hunt then none else some ⟨.legState k .inbound .hunt 0, false⟩)

theorem lossHunt_listed {s : State} (lists : s.ListsReports) (k : Nat)
    (room : s.reportQueue.length + (if (s.leg k).use.isOpen then 1 else 0) ≤ 32) :
    (lossHunt k s).ListsReports ∧ (lossHunt k s).reportQueue = s.reportQueue ++ (s.huntReport k).toList := by
  rcases isOpen_cases s k with closed | ⟨w, o, use⟩
  · rw [lossHunt_of_closed closed, State.huntReport, openLeg_of_closed closed]
    exact ⟨lists, by simp⟩
  · have reports : s.huntReport k = if o.inb.state = .hunt then none else some ⟨.legState k .inbound .hunt 0, false⟩ := by
      rw [State.huntReport, openLeg_of_use use, Option.bind_some]
    rw [lossHunt_of_opened use, directionChanged_of_no_calls lists.noCall, reports]
    by_cases hunts : o.inb.state = .hunt
    · rw [changeTold_of_hunting hunts, if_pos hunts]
      exact ⟨⟨by simpa using lists.enabled, by simpa using lists.noneLost, by simpa using lists.busy,
        by simpa using lists.noCall⟩, by simp⟩
    · have kept : (s.updateOpen k (fun _ => o.hunting s.params)).ListsReports :=
        ⟨by simpa using lists.enabled, by simpa using lists.noneLost, by simpa using lists.busy, by simpa using lists.noCall⟩
      have room : s.reportQueue.length < 32 := by simpa [use, LegUse.isOpen] using room
      rw [changeTold_of_found hunts, queueReport_listed kept (r := .legState k .inbound .hunt 0) (by simp [Report.kind])
        (by simpa using room),
        if_neg hunts]
      exact ⟨⟨by simpa using lists.enabled, by simp, by simpa using lists.busy, by simpa using lists.noCall⟩, by simp⟩

/-- The reports of the legs' turns, in the order of the turns. -/
theorem lossHunts_listed {l : List Nat} (nodup : l.Nodup) {s : State} (lists : s.ListsReports)
    (room : s.reportQueue.length + l.countP (fun k => (s.leg k).use.isOpen) ≤ 32) :
    (l.foldl (fun s k => lossHunt k s) s).reportQueue = s.reportQueue ++ l.filterMap s.huntReport := by
  induction l generalizing s with
  | nil => simp
  | cons k l ih =>
    obtain ⟨fresh, nodup⟩ := List.nodup_cons.mp nodup
    have legs : ∀ j ∈ l, (lossHunt k s).leg j = s.leg j := fun j hj => leg_lossHunt_ne (by rintro rfl; exact fresh hj) s
    have later : l.filterMap (lossHunt k s).huntReport = l.filterMap s.huntReport :=
      List.filterMap_congr fun j hj => by rw [State.huntReport, State.huntReport, openLeg_congr (legs j hj)]
    have count : l.countP (fun j => ((lossHunt k s).leg j).use.isOpen) = l.countP (fun j => (s.leg j).use.isOpen) :=
      List.countP_congr fun j hj => by rw [legs j hj]
    rw [List.countP_cons] at room
    obtain ⟨listsNext, reports⟩ := lossHunt_listed lists k (by omega)
    have length : (s.huntReport k).toList.length ≤ if (s.leg k).use.isOpen then 1 else 0 := by
      rcases isOpen_cases s k with closed | ⟨w, o, use⟩
      · simp [State.huntReport, openLeg_of_closed closed]
      · simp only [use, LegUse.isOpen, if_true]
        cases s.huntReport k <;> simp
    rw [List.foldl_cons, ih nodup listsNext (by rw [count, reports, List.length_append]; omega), reports, later]
    cases h : s.huntReport k <;> simp [h]

/-! ### The loss as a whole -/

/-- The state in which the legs take their turns: the reference LOST and FRAME_LOST queued. -/
def referenceLost (s : State) : State := queueReport (.frameLost s.openLegs) { s with frameReference := .lost }

theorem leg_referenceLost (s : State) (k : Nat) : (referenceLost s).leg k = s.leg k := leg_queueReport _ _ k

theorem params_referenceLost (s : State) : (referenceLost s).params = s.params := by simp [referenceLost]

theorem loseReference_of_present {s : State} (present : s.frameReference = .present) : loseReference s =
    (List.range 48).foldl (fun s k => lossHunt k s) (referenceLost s) := by
  rw [loseReference, present]
  rfl

theorem foldl_congr_of_params {f g : State → Nat → State} {p : Params} (keeps : ∀ u k, (f u k).params = u.params)
    (agree : ∀ u k, u.params = p → g u k = f u k) (l : List Nat) (s : State) (params : s.params = p) :
    l.foldl f s = l.foldl g s := by
  induction l generalizing s with
  | nil => rfl
  | cons k l ih => rw [List.foldl_cons, List.foldl_cons, agree s k params, ih _ ((keeps s k).trans params)]

/-- Settles O48: FRAME_LOST first, then the turn of each OPEN leg on its record as it stood. -/
theorem referenceLossHuntsEveryLeg : Obligations.ReferenceLossHuntsEveryLeg := by
  intro s running
  refine ⟨fun lost => event_taken loseReference running (by rw [loseReference, lost]), fun present => ?_⟩
  obtain ⟨t, ht⟩ : ∃ t, (List.range 48).foldl (fun s k => lossHunt k s) (referenceLost s) = t := ⟨_, rfl⟩
  have turns := fun k => leg_of_turns (f := fun s k => lossHunt k s) (fun u j k h => leg_lossHunt_ne h u)
    (fun u j => by simp) (List.nodup_range (n := 48)) (referenceLost s) k
  rw [ht] at turns
  have frame : t.frameReference = .lost ∧ t.resetHeld = false ∧ t.params = s.params ∧ t.heldInbound = s.heldInbound ∧
      t.heldOutbound = s.heldOutbound ∧ t.channelTable = s.channelTable ∧ t.directory = s.directory ∧ t.groups = s.groups ∧
      t.mode = s.mode := by
    rw [← ht]
    simp [referenceLost, running]
  obtain ⟨lost, held, params, inbound, outbound, channels, directory, groups, mode⟩ := frame
  have pin : ∀ x, t.onPin x = some s.idle := fun x => by
    have idle : t.idle = s.idle := by rw [State.idle, State.idle, params]
    simp [State.onPin, held, lost, idle]
  refine ⟨t, event_taken loseReference running ((loseReference_of_present present).trans ht), lost,
    fun c _ => ⟨pin _, pin _⟩, fun k closed => ?_, fun k o w use => ?_, ?_, fun enabled noneLost busy noCall room => ?_,
    fun free => ?_, fun enabled => ?_, inbound, outbound, channels, directory, groups, mode, params, ?_⟩
  · by_cases hk : k < 48
    · obtain ⟨u, leg, -, turn⟩ := (turns k).2 (List.mem_range.mpr hk)
      have same := leg.trans (leg_referenceLost s k)
      rw [turn, lossHunt_of_closed (by rw [same]; exact closed), same]
    · rw [(turns k).1 (by simpa using hk), leg_referenceLost]
  · have hk := lt_of_opened use
    obtain ⟨u, leg, sameParams, turn⟩ := (turns k).2 (List.mem_range.mpr hk)
    have same := leg.trans (leg_referenceLost s k)
    have useNow : (u.leg k).use = .opened w o := by rw [same, use]
    obtain ⟨keys, turned, kept⟩ := leg_directionChanged hk useNow .inbound o (o.hunting u.params)
    have params : u.params = s.params := sameParams.trans (params_referenceLost s)
    refine ⟨{ o.inb.toHunt s.params with keys := keys }, ?_, rfl, rfl, rfl, rfl, rfl, rfl, rfl, rfl, ?_, ?_, ?_⟩
    · rw [turn, lossHunt_of_opened useNow, turned, same, params]
      rfl
    · exact (congrArg DirectionKeys.active kept).trans rfl
    · exact (congrArg DirectionKeys.standby kept).trans rfl
    · exact (congrArg DirectionKeys.wanted kept).trans rfl
  · rw [← openLegs_eq, ← ht]
    refine foldl_congr_of_params (fun u k => by simp) (fun u k sameParams => ?_) _ _ (params_referenceLost s)
    unfold lossHunt
    cases u.openLeg? k with
    | none => rfl
    | some o =>
      rw [sameParams]
      rfl
  · have queued : referenceLost s =
        { s with frameReference := .lost, reportQueue := s.reportQueue ++ [⟨.frameLost s.openLegs, false⟩], lostFlag := false } :=
      queueReport_listed (s := { s with frameReference := .lost }) ⟨enabled, noneLost, busy, noCall⟩ (by simp [Report.kind])
        (by show s.reportQueue.length < 32; omega)
    have lists : (referenceLost s).ListsReports := by
      rw [queued]
      exact ⟨enabled, rfl, busy, noCall⟩
    have legs : (List.range 48).countP (fun k => ((referenceLost s).leg k).use.isOpen) = s.openLegs := by
      rw [openLegs_eq]
      simp only [leg_referenceLost]
    have reports := lossHunts_listed List.nodup_range lists (by
      rw [legs, openLegs_eq, queued]
      simpa using room)
    have same : (referenceLost s).huntReport = s.huntReport := funext fun k => by
      rw [State.huntReport, State.huntReport, openLeg_congr (leg_referenceLost s k)]
    rw [ht, same, queued] at reports
    rw [reports, openLegs_eq, List.append_assoc]
    rfl
  · have noneOpen : s.openLegs = 0 := by
      rw [openLegs_eq, List.countP_eq_zero]
      exact fun k hk => by simp [free k (List.mem_range.mp hk)]
    rw [← ht, lossHunts_of_closed _ fun k hk => by rw [leg_referenceLost]; exact free k (List.mem_range.mp hk), referenceLost,
      noneOpen]
  · rw [← openLegs_eq]
    exact firstReport_kept (s := { s with frameReference := .lost }) (r := .frameLost s.openLegs)
      (by simpa [Report.kind] using enabled) (ht ▸ State.QueueGrows.lossHunts _ _)
  · rw [← ht, lossHunts_calls_length]
    simp [referenceLost]

end Sys2Proof.Machine
end

section
/-! PROOFS. The two frame events of a leg apart from the samples the highway holds -/

namespace Sys2Proof.Machine

/-! ### The highway's samples apart from the records -/

/-- Held and transmitted samples put in place of those of a state. -/
def State.withHighway (heldIn heldOut port matrix : Table (Option Byte) 128) (s : State) : State :=
  { s with heldInbound := heldIn, heldOutbound := heldOut, portTransmit := port, matrixTransmit := matrix }

section
variable (hi ho pt mt : Table (Option Byte) 128) (s : State)

theorem linkApart_withHighway : LinkApart (State.withHighway hi ho pt mt) := ⟨fun _ => rfl, fun _ _ _ _ _ => rfl⟩

theorem updateOpen_withHighway (k : Nat) (f : OpenLeg → OpenLeg) :
    (s.withHighway hi ho pt mt).updateOpen k f = (s.updateOpen k f).withHighway hi ho pt mt := by
  have leg : (s.withHighway hi ho pt mt).leg k = s.leg k := rfl
  rw [State.updateOpen, State.updateOpen, leg]
  cases (s.leg k).use <;> rfl

theorem evaluateCalls_withHighway :
    evaluateCalls (s.withHighway hi ho pt mt) = (evaluateCalls s).withHighway hi ho pt mt := by
  have queued : ∀ (rs : List Report) (u : State),
      queueReports rs (u.withHighway hi ho pt mt) = (queueReports rs u).withHighway hi ho pt mt := fun rs => by
    induction rs with
    | nil => exact fun _ => rfl
    | cons r rs ih =>
      exact fun u => (congrArg (queueReports rs) ((linkApart_withHighway hi ho pt mt).queueReport u r)).trans (ih _)
  exact queued _ { s with calls := s.calls.map s.evaluateCall }

theorem placeEpochJob_withHighway (k : Nat) (d : Direction) (sk : Key) (e : Long) :
    placeEpochJob k d sk e (s.withHighway hi ho pt mt) = (placeEpochJob k d sk e s).withHighway hi ho pt mt := by
  have room : (s.withHighway hi ho pt mt).jobPlace = s.jobPlace := rfl
  rw [placeEpochJob, placeEpochJob, room, updateOpen_withHighway, updateOpen_withHighway]
  split <;> rfl

theorem offerEpoch_withHighway (k : Nat) (d : Direction) :
    offerEpoch k d (s.withHighway hi ho pt mt) = (offerEpoch k d s).withHighway hi ho pt mt := by
  have opened : (s.withHighway hi ho pt mt).openLeg? k = s.openLeg? k := rfl
  simp only [offerEpoch, opened, placeEpochJob_withHighway]
  (repeat' split) <;> rfl

theorem directionChanged_withHighway (k : Nat) (d : Direction) (before after : OpenLeg) :
    directionChanged k d before after (s.withHighway hi ho pt mt) =
      (directionChanged k d before after s).withHighway hi ho pt mt := by
  have told : changeTold k d before after (s.withHighway hi ho pt mt) =
      (changeTold k d before after s).withHighway hi ho pt mt := by
    unfold changeTold
    rw [updateOpen_withHighway]
    split
    · exact (linkApart_withHighway hi ho pt mt).queueReport _ _
    · rfl
  have notice : ∀ (was : Bool) (u : State),
      noticeRunning k was (u.withHighway hi ho pt mt) = (noticeRunning k was u).withHighway hi ho pt mt := fun was u => by
    have same : ((u.withHighway hi ho pt mt).noticed k && (u.withHighway hi ho pt mt).legRunning k != was) =
        (u.noticed k && u.legRunning k != was) := rfl
    rw [noticeRunning, noticeRunning, same, evaluateCalls_withHighway]
    split <;> rfl
  rw [directionChanged_eq, directionChanged_eq, told, offerEpoch_withHighway, notice]

theorem outboundEvent_withHighway (k : Nat) (x : Byte) : outboundEvent k x (s.withHighway hi ho pt mt) =
    ((outboundEvent k x s).1.withHighway hi ho pt mt, (outboundEvent k x s).2) := by
  have opened : (s.withHighway hi ho pt mt).openLeg? k = s.openLeg? k := rfl
  rw [outboundEvent, outboundEvent, opened]
  cases s.openLeg? k with
  | none => rfl
  | some o => exact congrArg (fun t => (t, _)) (directionChanged_withHighway hi ho pt mt s k _ _ _)

theorem inboundEvent_withHighway (k : Nat) (x : Byte) : inboundEvent k x (s.withHighway hi ho pt mt) =
    ((inboundEvent k x s).1.withHighway hi ho pt mt, (inboundEvent k x s).2) := by
  have opened : (s.withHighway hi ho pt mt).openLeg? k = s.openLeg? k := rfl
  rw [inboundEvent, inboundEvent, opened]
  cases s.openLeg? k with
  | none => rfl
  | some o => exact congrArg (fun t => (t, _)) (directionChanged_withHighway hi ho pt mt s k _ _ _)

/-- The two frame events of leg `k`, with the samples they give: a LEG channel's frame but for its held samples. -/
def legEvents (k : Nat) (rxPort rxMatrix : Byte) (s : State) : State × ChannelOutput :=
  let o := outboundEvent k rxMatrix s
  if (s.leg k).use.isLoop then
    let i := inboundEvent k o.2 o.1
    (i.1, ⟨s.idle, i.2⟩)
  else
    let i := inboundEvent k rxPort o.1
    (i.1, ⟨o.2, i.2⟩)

theorem legFrame_eq (k c : Nat) (rxPort rxMatrix : Byte) : legFrame k c rxPort rxMatrix s =
    legEvents k rxPort rxMatrix (s.withHighway (writeAt s.heldInbound c none) (writeAt s.heldOutbound c none)
      s.portTransmit s.matrixTransmit) := rfl

theorem legEvents_withHighway (k : Nat) (rxPort rxMatrix : Byte) :
    legEvents k rxPort rxMatrix (s.withHighway hi ho pt mt) =
      ((legEvents k rxPort rxMatrix s).1.withHighway hi ho pt mt, (legEvents k rxPort rxMatrix s).2) := by
  have leg : (s.withHighway hi ho pt mt).leg k = s.leg k := rfl
  simp only [legEvents, leg, outboundEvent_withHighway, inboundEvent_withHighway]
  split <;> rfl

end

/-! ### The two events of an OPEN leg -/

section
variable {s : State} {k : Nat} {w : Owner} {o : OpenLeg} {rxPort rxMatrix : Byte}

theorem legEvents_of_closed (closed : s.openLeg? k = none) : (legEvents k rxPort rxMatrix s).1 = s := by
  simp only [legEvents, outboundEvent, inboundEvent, closed]
  split <;> rfl

/-- The outbound event on the leg's record, then the inbound event on what that leaves. -/
theorem legEvents_of_opened (use : (s.leg k).use = .opened w o) {o1 : OpenLeg}
    (opened : (directionChanged k .outbound o { o with out := (outboundFrame s.params o.outD rxMatrix o.out).1 } s).openLeg? k =
      some o1) :
    legEvents k rxPort rxMatrix s =
      let out := outboundFrame s.params o.outD rxMatrix o.out
      let inb := inboundFrame s.params o1.inD (if w = .loopTest then out.2 else rxPort) o1.inb
      (directionChanged k .inbound o1 { o1 with inb := inb.1 } (directionChanged k .outbound o { o with out := out.1 } s),
        ⟨if w = .loopTest then s.idle else out.2, inb.2⟩) := by
  have loop : (s.leg k).use.isLoop = true ↔ w = .loopTest := by
    rw [isLoop_iff, use]
    exact ⟨fun ⟨_, same⟩ => by cases same; rfl, fun same => ⟨o, by rw [same]⟩⟩
  simp only [legEvents, outboundEvent, inboundEvent, openLeg_of_use use, opened, directionChanged_keeps, loop]
  split <;> rfl

end

end Sys2Proof.Machine
end

section
/-! PROOFS. One channel's turn in a frame, CLEAR and LEG -/

namespace Sys2Proof.Machine

/-! ### A channel's own turn in a frame -/

/-- What turns other than `c`'s leave unchanged, `c`'s turn finds as it stood at first, and leaves for good. -/
theorem read_of_turns {α : Type} {f : State → Nat → State} {inv : State → Prop} (read : State → α) {c : Nat}
    (kept : ∀ u d, inv u → inv (f u d)) {l : List Nat} (apart : ∀ u, ∀ d ∈ l, inv u → d ≠ c → read (f u d) = read u)
    (nodup : l.Nodup) (mem : c ∈ l) (s : State) (hs : inv s) :
    ∃ u, inv u ∧ read u = read s ∧ read (l.foldl f s) = read (f u c) := by
  have others : ∀ (l' : List Nat) (u : State), (∀ d ∈ l', d ∈ l ∧ d ≠ c) → inv u →
      inv (l'.foldl f u) ∧ read (l'.foldl f u) = read u := fun l' => by
    induction l' with
    | nil => exact fun u _ hu => ⟨hu, rfl⟩
    | cons d l' ih =>
      intro u inside hu
      obtain ⟨inL, other⟩ := inside d (by simp)
      obtain ⟨hinv, same⟩ := ih (f u d) (fun e he => inside e (by simp [he])) (kept u d hu)
      exact ⟨hinv, same.trans (apart u d inL hu other)⟩
  obtain ⟨before, behind, rfl⟩ := List.append_of_mem mem
  obtain ⟨-, rest, distinct⟩ := List.nodup_append.mp nodup
  obtain ⟨fresh, -⟩ := List.nodup_cons.mp rest
  obtain ⟨invBefore, sameBefore⟩ := others before s (fun d hd => ⟨by simp [hd], distinct d hd c (by simp)⟩) hs
  obtain ⟨-, sameBehind⟩ := others behind (f (before.foldl f s) c)
    (fun d hd => ⟨by simp [hd], by rintro rfl; exact fresh hd⟩) (kept _ c invBefore)
  exact ⟨before.foldl f s, invBefore, sameBefore, by rw [List.foldl_append, List.foldl_cons, sameBehind]⟩

/-- What every turn of a frame reads and leaves as the pulse found it. -/
def State.SameFrame (s u : State) : Prop :=
  u.channelTable = s.channelTable ∧ u.routedAs = s.routedAs ∧ u.params = s.params

theorem SameFrame.channelFrame {s u : State} (h : s.SameFrame u) (restored : Bool) (f : FrameSamples) (c : Nat) :
    s.SameFrame (channelFrame restored f u c) := by
  simpa [State.SameFrame] using h

theorem mem_frameOrder (c : Nat) : c ∈ frameOrder ↔ c < 128 := by
  simp only [frameOrder, List.mem_flatMap, List.mem_range, List.mem_cons, List.not_mem_nil, or_false]
  constructor
  · rintro ⟨n, hn, rfl | rfl⟩ <;> omega
  · intro hc
    by_cases low : c < 64
    · exact ⟨c, low, .inl rfl⟩
    · exact ⟨c - 64, by omega, .inr (by omega)⟩

theorem frameOrder_nodup : frameOrder.Nodup := by
  refine List.nodup_flatMap.mpr ⟨fun n _ => by simp, List.pairwise_lt_range.imp_of_mem fun {m n} hm hn low => ?_⟩
  have hm := List.mem_range.mp hm
  have hn := List.mem_range.mp hn
  refine List.disjoint_left.mpr fun x inM inN => ?_
  simp only [List.mem_cons, List.not_mem_nil, or_false] at inM inN
  omega

/-- What channel `c` holds, and drives on its two sides. -/
def State.samplesAt (c : Nat) (s : State) : (Option Byte × Option Byte) × (Option Byte × Option Byte) :=
  ((readAt s.heldInbound none c, readAt s.heldOutbound none c), (readAt s.portTransmit none c, readAt s.matrixTransmit none c))

/-- The samples that arrive at a channel, the idle code where its timeslot does not pass. -/
def received (f : FrameSamples) (side : Table Byte 128) (idle : Byte) (c : Nat) : Byte :=
  if c % 64 < f.slots then readAt side 0 c else idle

/-- What a channel drives of the sample due: the idle code after a change of its routing, nothing where its timeslot does not
pass. -/
def drivenAs (f : FrameSamples) (changed : Bool) (idle : Byte) (c : Nat) (x : Byte) : Option Byte :=
  if c % 64 < f.slots then some (if changed then idle else x) else none

section
variable {restored : Bool} {f : FrameSamples} {u : State} {c : Nat}

theorem legEvents_idle (s : State) (k : Nat) (rp rm : Byte) : (legEvents k rp rm s).1.idle = s.idle := by
  rw [State.idle, State.idle, legEvents]
  split <;> simp

theorem driveChannel_eq (changed : Bool) (y : ChannelOutput) : driveChannel c (decide (c % 64 < f.slots)) changed y u =
    u.withHighway u.heldInbound u.heldOutbound (writeAt u.portTransmit c (drivenAs f changed u.idle c y.port))
      (writeAt u.matrixTransmit c (drivenAs f changed u.idle c y.matrix)) := by
  simp only [driveChannel, drivenAs, decide_eq_true_eq]
  rfl

theorem channelFrame_of_clear (clear : u.routing c = .clear) : channelFrame restored f u c =
    let changed := restored || Routing.clear != readAt u.routedAs .clear c
    u.withHighway (writeAt u.heldInbound c (some (received f f.port u.idle c)))
      (writeAt u.heldOutbound c (some (received f f.matrix u.idle c)))
      (writeAt u.portTransmit c (drivenAs f changed u.idle c ((readAt u.heldOutbound none c).getD u.idle)))
      (writeAt u.matrixTransmit c (drivenAs f changed u.idle c ((readAt u.heldInbound none c).getD u.idle))) := by
  simp only [channelFrame, clear, driveChannel_eq, received, decide_eq_true_eq]
  rfl

theorem channelFrame_of_leg {k : Nat} (routed : u.routing c = .leg k) : channelFrame restored f u c =
    let changed := restored || Routing.leg k != readAt u.routedAs .clear c
    let turn := legEvents k (received f f.port u.idle c) (received f f.matrix u.idle c) u
    turn.1.withHighway (writeAt u.heldInbound c none) (writeAt u.heldOutbound c none)
      (writeAt u.portTransmit c (drivenAs f changed u.idle c turn.2.port))
      (writeAt u.matrixTransmit c (drivenAs f changed u.idle c turn.2.matrix)) := by
  simp only [channelFrame, routed, driveChannel_eq, received, decide_eq_true_eq, legFrame_eq, legEvents_withHighway]
  have idle : ∀ rp rm, ((legEvents k rp rm u).1.withHighway (writeAt u.heldInbound c none) (writeAt u.heldOutbound c none)
      u.portTransmit u.matrixTransmit).idle = u.idle := fun rp rm => legEvents_idle u k rp rm
  rw [idle]
  rfl

end

end Sys2Proof.Machine
end

section
/-! PROOFS. What a frame's turns leave of the legs, and the frame as the turns of its LEG channels -/

namespace Sys2Proof.Machine

/-! ### What the two events leave of the legs -/

section
variable {s : State} {k : Nat} {w : Owner} {o : OpenLeg} {rxPort rxMatrix : Byte}

/-- The two events of an OPEN leg: what its sides carry, and its record, in which the offers may have changed the marks. -/
theorem legEvents_turn (use : (s.leg k).use = .opened w o) :
    let out := outboundFrame s.params o.outD rxMatrix o.out
    let inb := inboundFrame s.params o.inD (if w = .loopTest then out.2 else rxPort) o.inb
    (legEvents k rxPort rxMatrix s).2 = ⟨if w = .loopTest then s.idle else out.2, inb.2⟩ ∧
    ∃ a b : DirectionKeys,
      (legEvents k rxPort rxMatrix s).1.leg k =
        ⟨(s.leg k).stamp, .opened w { o with out := { out.1 with keys := a }, inb := { inb.1 with keys := b } }⟩ ∧
      a = { out.1.keys with outstanding := a.outstanding, marked := a.marked } ∧
      b = { inb.1.keys with outstanding := b.outstanding, marked := b.marked } := by
  intro out inb
  have hk := lt_of_opened use
  obtain ⟨a, one, keptA⟩ := leg_directionChanged hk use .outbound o { o with out := out.1 }
  have useOne := congrArg Leg.use one
  obtain ⟨b, two, keptB⟩ := leg_directionChanged hk useOne .inbound
    (({ o with out := out.1 } : OpenLeg).setKeys .outbound a)
    { ({ o with out := out.1 } : OpenLeg).setKeys .outbound a with inb := inb.1 }
  rw [legEvents_of_opened use (openLeg_of_use useOne)]
  exact ⟨rfl, a, b, two.trans (by rw [one]; rfl), keptA, keptB⟩

theorem leg_legEvents_ne {j : Nat} (h : j ≠ k) : (legEvents k rxPort rxMatrix s).1.leg j = s.leg j := by
  have outLeg : ∀ (x : Byte) (u : State), (outboundEvent k x u).1.leg j = u.leg j := fun x u => by
    unfold outboundEvent
    split
    · rfl
    · exact leg_directionChanged_ne h _ _ _ _
  have inLeg : ∀ (x : Byte) (u : State), (inboundEvent k x u).1.leg j = u.leg j := fun x u => by
    unfold inboundEvent
    split
    · rfl
    · exact leg_directionChanged_ne h _ _ _ _
  unfold legEvents
  dsimp only
  split
  · exact (inLeg _ _).trans (outLeg _ _)
  · exact (inLeg _ _).trans (outLeg _ _)

theorem owner_legEvents (j : Nat) : ((legEvents k rxPort rxMatrix s).1.leg j).use.owner? = (s.leg j).use.owner? := by
  by_cases own : j = k
  · subst own
    cases opened : s.openLeg? j with
    | none => rw [legEvents_of_closed opened]
    | some o =>
      obtain ⟨w, use⟩ := (openLeg_eq_some_iff s j o).mp opened
      obtain ⟨-, a, b, leg, -, -⟩ := legEvents_turn (rxPort := rxPort) (rxMatrix := rxMatrix) use
      rw [leg, use]
      rfl
  · rw [leg_legEvents_ne own]

theorem State.QueueGrows.legEvents : s.QueueGrows (legEvents k rxPort rxMatrix s).1 := by
  have outGrows : ∀ (x : Byte) (u : State), u.QueueGrows (outboundEvent k x u).1 := fun x u => by
    unfold outboundEvent
    split
    · exact .refl u
    · exact .directionChanged _ _ _ _ _
  have inGrows : ∀ (x : Byte) (u : State), u.QueueGrows (inboundEvent k x u).1 := fun x u => by
    unfold inboundEvent
    split
    · exact .refl u
    · exact .directionChanged _ _ _ _ _
  unfold Machine.legEvents
  dsimp only
  split
  · exact (outGrows _ _).trans (inGrows _ _)
  · exact (outGrows _ _).trans (inGrows _ _)

end

/-! ### The channels of a frame -/

section
variable {restored : Bool} {f : FrameSamples} {s u : State} {c : Nat}

theorem routing_cases (u : State) (c : Nat) : u.routing c = .clear ∨ ∃ k, u.routing c = .leg k := by
  cases u.routing c with
  | clear => exact .inl rfl
  | leg k => exact .inr ⟨k, rfl⟩

theorem samplesAt_channelFrame_ne {d : Nat} (other : d ≠ c) : (channelFrame restored f u d).samplesAt c = u.samplesAt c := by
  have read : ∀ (t : Table (Option Byte) 128) x, readAt (writeAt t d x) none c = readAt t none c := fun t x => by
    rw [readAt_writeAt, if_neg (by rintro ⟨rfl, -⟩; exact other rfl)]
  rcases routing_cases u d with clear | ⟨k, routed⟩
  · rw [channelFrame_of_clear clear]
    simp only [State.samplesAt, State.withHighway, read]
  · rw [channelFrame_of_leg routed]
    simp only [State.samplesAt, State.withHighway, read]

theorem leg_channelFrame_ne {k : Nat} (apart : u.routing c ≠ .leg k) : (channelFrame restored f u c).leg k = u.leg k := by
  rcases routing_cases u c with clear | ⟨j, routed⟩
  · rw [channelFrame_of_clear clear]
    rfl
  · rw [channelFrame_of_leg routed]
    exact leg_legEvents_ne fun same => apart (routed.trans (by rw [same]))

theorem State.QueueGrows.channelFrame : u.QueueGrows (channelFrame restored f u c) := by
  rcases routing_cases u c with clear | ⟨j, routed⟩
  · rw [channelFrame_of_clear clear]
    exact .of_same rfl rfl
  · rw [channelFrame_of_leg routed]
    exact State.QueueGrows.trans (t := (Machine.legEvents j _ _ u).1) .legEvents (.of_same rfl rfl)

theorem State.QueueGrows.channelFrames (l : List Nat) (u : State) : u.QueueGrows (l.foldl (Machine.channelFrame restored f) u) := by
  induction l generalizing u with
  | nil => exact .refl u
  | cons c l ih => exact State.QueueGrows.channelFrame.trans (ih _)

/-! ### The frame and the turns of its LEG channels -/

theorem legTurn_of_clear (clear : s.routing c = .clear) (port matrix : Nat → Byte) : s.legTurn port matrix u c = u := by
  rw [State.legTurn, clear]

theorem legTurn_of_leg {k : Nat} (routed : s.routing c = .leg k) (params : u.params = s.params)
    (owner : (u.leg k).use.owner? = (s.leg k).use.owner?) (port matrix : Nat → Byte) :
    s.legTurn port matrix u c = (legEvents k (port c) (matrix c) u).1 := by
  rw [State.legTurn, routed]
  cases opened : u.openLeg? k with
  | none => simp only [opened, legEvents_of_closed opened]
  | some o =>
    obtain ⟨w, use⟩ := (openLeg_eq_some_iff u k o).mp opened
    obtain ⟨a, one, -⟩ := leg_directionChanged (lt_of_opened use) use .outbound o
      { o with out := (outboundFrame u.params o.outD (matrix c) o.out).1 }
    have openedOne := openLeg_of_use (congrArg Leg.use one)
    have loop : (s.leg k).use.owner? = some .loopTest ↔ w = .loopTest := by
      rw [← owner, use]
      exact Option.some_inj
    rw [legEvents_of_opened use openedOne]
    simp only [opened, ← params, openedOne, loop]

theorem legTurn_withHighway (hi ho pt mt : Table (Option Byte) 128) (port matrix : Nat → Byte) :
    s.legTurn port matrix (u.withHighway hi ho pt mt) c = (s.legTurn port matrix u c).withHighway hi ho pt mt := by
  have opened : ∀ (v : State) k, (v.withHighway hi ho pt mt).openLeg? k = v.openLeg? k := fun _ _ => rfl
  simp only [State.legTurn, opened, directionChanged_withHighway]
  (repeat' split) <;> rfl

theorem channelFrame_eq_legTurn (same : s.SameFrame u) (owner : ∀ k, (u.leg k).use.owner? = (s.leg k).use.owner?) :
    ∃ hi ho pt mt, channelFrame restored f u c =
      (s.legTurn (received f f.port s.idle) (received f f.matrix s.idle) u c).withHighway hi ho pt mt := by
  obtain ⟨channels, -, params⟩ := same
  have routing : u.routing c = s.routing c := by rw [State.routing, State.routing, channels]
  have idle : u.idle = s.idle := by rw [State.idle, State.idle, params]
  rcases routing_cases s c with clear | ⟨k, routed⟩
  · rw [legTurn_of_clear clear, channelFrame_of_clear (routing.trans clear)]
    exact ⟨_, _, _, _, rfl⟩
  · rw [legTurn_of_leg routed params (owner k), channelFrame_of_leg (routing.trans routed), idle]
    exact ⟨_, _, _, _, rfl⟩

theorem owner_channelFrame (k : Nat) : ((channelFrame restored f u c).leg k).use.owner? = (u.leg k).use.owner? := by
  rcases routing_cases u c with clear | ⟨j, routed⟩
  · rw [channelFrame_of_clear clear]
    rfl
  · rw [channelFrame_of_leg routed]
    exact owner_legEvents k

theorem legTurns_withHighway (hi ho pt mt : Table (Option Byte) 128) (port matrix : Nat → Byte) (l : List Nat) (u : State) :
    l.foldl (s.legTurn port matrix) (u.withHighway hi ho pt mt) =
      (l.foldl (s.legTurn port matrix) u).withHighway hi ho pt mt := by
  induction l generalizing u with
  | nil => rfl
  | cons c l ih => rw [List.foldl_cons, List.foldl_cons, legTurn_withHighway, ih]

/-- The frame's turns on the records are those of its LEG channels, whatever samples are held. -/
theorem channelFrames_eq (l : List Nat) {u : State} (same : s.SameFrame u)
    (owner : ∀ k, (u.leg k).use.owner? = (s.leg k).use.owner?) : ∃ hi ho pt mt,
    l.foldl (channelFrame restored f) u =
      (l.foldl (s.legTurn (received f f.port s.idle) (received f f.matrix s.idle)) u).withHighway hi ho pt mt := by
  induction l generalizing u with
  | nil => exact ⟨u.heldInbound, u.heldOutbound, u.portTransmit, u.matrixTransmit, rfl⟩
  | cons c l ih =>
    obtain ⟨hi, ho, pt, mt, rest⟩ := ih (SameFrame.channelFrame same restored f c) (fun k => (owner_channelFrame k).trans (owner k))
    obtain ⟨hi', ho', pt', mt', turn⟩ := channelFrame_eq_legTurn (restored := restored) (f := f) (c := c) same owner
    refine ⟨hi, ho, pt, mt, ?_⟩
    rw [List.foldl_cons, List.foldl_cons, rest, turn, legTurns_withHighway]
    rfl

end

end Sys2Proof.Machine
end

section
/-! PROOFS. The frame: every channel's samples, the records after its legs' turns, and what a pulse in LOST restores (O47) -/

namespace Sys2Proof.Machine

/-! ### The frame as a whole (R24 to R35) -/

/-- The state in which the channels take their turns: the reference PRESENT, and FRAME_RESTORED queued where it was LOST. -/
def pulseTaken (s : State) : State :=
  if s.frameReference = .lost then queueReport .frameRestored { s with frameReference := .present, watchRunning := true }
  else { s with frameReference := .present, watchRunning := true }

theorem acceptPulse_eq (f : FrameSamples) (s : State) :
    acceptPulse f s = runFrame (decide (s.frameReference = .lost)) f (pulseTaken s) := by
  unfold acceptPulse
  cases h : s.frameReference with
  | present => simp [pulseTaken, h]
  | lost => simp [pulseTaken, h]

section
variable (s : State)

theorem pulseTaken_sameFrame : s.SameFrame (pulseTaken s) := by
  unfold pulseTaken State.SameFrame
  split <;> simp

theorem leg_pulseTaken (k : Nat) : (pulseTaken s).leg k = s.leg k := by
  unfold pulseTaken
  split
  · exact leg_queueReport _ _ _
  · rfl

theorem samplesAt_pulseTaken (c : Nat) : (pulseTaken s).samplesAt c = s.samplesAt c := by
  unfold pulseTaken State.samplesAt
  split <;> simp

theorem running_pulseTaken (running : s.resetHeld = false) : (pulseTaken s).resetHeld = false := by
  unfold pulseTaken
  split <;> simp [running]

theorem reference_pulseTaken : (pulseTaken s).frameReference = .present ∧ (pulseTaken s).watchRunning = true := by
  unfold pulseTaken
  split <;> simp

end

theorem legTurns_of_clear {s : State} {l : List Nat} (clear : ∀ c ∈ l, s.routing c = .clear) (port matrix : Nat → Byte)
    {u : State} : l.foldl (s.legTurn port matrix) u = u := by
  induction l with
  | nil => rfl
  | cons c l ih => rw [List.foldl_cons, legTurn_of_clear (clear c (by simp)), ih fun d hd => clear d (by simp [hd])]

/-- What a channel does in a frame is read where its own turn leaves it. -/
theorem samplesAt_frame {s : State} {restored : Bool} {f : FrameSamples} {c : Nat} (hc : c < 128) : ∃ u, s.SameFrame u ∧
    u.samplesAt c = s.samplesAt c ∧
    (frameOrder.foldl (channelFrame restored f) (pulseTaken s)).samplesAt c = (channelFrame restored f u c).samplesAt c := by
  obtain ⟨u, same, before, after⟩ := read_of_turns (f := channelFrame restored f) (inv := s.SameFrame)
    (State.samplesAt c)
    (fun u d h => SameFrame.channelFrame h restored f d) (fun u d _ _ other => samplesAt_channelFrame_ne other) frameOrder_nodup
    ((mem_frameOrder c).mpr hc) (pulseTaken s) (pulseTaken_sameFrame s)
  exact ⟨u, same, before.trans (samplesAt_pulseTaken s c), after⟩

/-- Where no other channel is routed to a leg, its channel's turn finds the leg's record as it stood, too. -/
theorem legAt_frame {s : State} {restored : Bool} {f : FrameSamples} {c k : Nat} (hc : c < 128)
    (alone : ∀ d < 128, d ≠ c → s.routing d ≠ .leg k) : ∃ u, s.SameFrame u ∧
    (u.samplesAt c, u.leg k) = (s.samplesAt c, s.leg k) ∧
    ((frameOrder.foldl (channelFrame restored f) (pulseTaken s)).samplesAt c,
      (frameOrder.foldl (channelFrame restored f) (pulseTaken s)).leg k) =
      ((channelFrame restored f u c).samplesAt c, (channelFrame restored f u c).leg k) := by
  obtain ⟨u, same, before, after⟩ := read_of_turns (f := channelFrame restored f) (inv := s.SameFrame)
    (fun u => (u.samplesAt c, u.leg k))
    (fun u d h => SameFrame.channelFrame h restored f d) (fun u d hd h other => by
      have routing : u.routing d = s.routing d := by rw [State.routing, State.routing, h.1]
      rw [samplesAt_channelFrame_ne other, leg_channelFrame_ne (by
        rw [routing]
        exact alone d ((mem_frameOrder d).mp hd) other)]) frameOrder_nodup
    ((mem_frameOrder c).mpr hc) (pulseTaken s) (pulseTaken_sameFrame s)
  exact ⟨u, same, before.trans (by rw [samplesAt_pulseTaken, leg_pulseTaken]), after⟩

theorem samplesAt_channelFrame_clear {restored : Bool} {f : FrameSamples} {u : State} {c : Nat} (hc : c < 128)
    (clear : u.routing c = .clear) : (channelFrame restored f u c).samplesAt c =
      let changed := restored || Routing.clear != readAt u.routedAs .clear c
      ((some (received f f.port u.idle c), some (received f f.matrix u.idle c)),
        (drivenAs f changed u.idle c ((readAt u.heldOutbound none c).getD u.idle),
          drivenAs f changed u.idle c ((readAt u.heldInbound none c).getD u.idle))) := by
  rw [channelFrame_of_clear clear]
  simp only [State.samplesAt, State.withHighway, readAt_writeAt, hc, and_self, if_true]

theorem samplesAt_channelFrame_leg {restored : Bool} {f : FrameSamples} {u : State} {c k : Nat} (hc : c < 128)
    (routed : u.routing c = .leg k) : (channelFrame restored f u c).samplesAt c =
      let changed := restored || Routing.leg k != readAt u.routedAs .clear c
      let gives := (legEvents k (received f f.port u.idle c) (received f f.matrix u.idle c) u).2
      ((none, none), (drivenAs f changed u.idle c gives.port, drivenAs f changed u.idle c gives.matrix)) := by
  rw [channelFrame_of_leg routed]
  simp only [State.samplesAt, State.withHighway, readAt_writeAt, hc, and_self, if_true]

theorem drivenAs_eq (f : FrameSamples) (reference : FrameReference) (now before : Routing) (idle : Byte) (c : Nat) (x : Byte) :
    drivenAs f (decide (reference = .lost) || now != before) idle c x =
      if c % 64 < f.slots then some (if reference = .present ∧ before = now then x else idle) else none := by
  have changed : (decide (reference = .lost) || now != before) = true ↔ ¬ (reference = .present ∧ before = now) := by
    cases reference with
    | lost => simp
    | present =>
      simp only [reduceCtorEq, decide_false, Bool.false_or, bne_iff_ne, true_and]
      exact ne_comm
  refine if_congr Iff.rfl (congrArg some ?_) rfl
  by_cases same : reference = .present ∧ before = now
  · rw [if_pos same, if_neg fun h => changed.mp h same]
  · rw [if_neg same, if_pos (changed.mpr same)]

/-- Settles O47: the turn of each channel, and the frame as the turns of its LEG channels. -/
theorem frameCarriesClearChannels : Obligations.FrameCarriesClearChannels := by
  intro s f running
  obtain ⟨turned, hturned⟩ : ∃ turned,
    frameOrder.foldl (channelFrame (decide (s.frameReference = .lost)) f) (pulseTaken s) = turned := ⟨_, rfl⟩
  obtain ⟨t, ht⟩ : ∃ t : State, { turned with
      routedAs := s.channelTable
      afterFrame := List.replicate (f.slots - 64) turned.idle } = t := ⟨_, rfl⟩
  have frame : turned.frameReference = .present ∧ turned.watchRunning = true ∧ turned.channelTable = s.channelTable ∧
      turned.resetHeld = false ∧ turned.params = s.params := by
    obtain ⟨channels, -, params⟩ := pulseTaken_sameFrame s
    rw [← hturned]
    simp [reference_pulseTaken, channels, params, running_pulseTaken s running]
  obtain ⟨reference, watch, channels, held, params⟩ := frame
  have pulse : acceptPulse f s = t := by
    rw [acceptPulse_eq, ← ht, ← channels, ← hturned]
    rfl
  have idle : turned.idle = s.idle := by rw [State.idle, State.idle, params]
  have pin : ∀ x, t.onPin x = x := fun x => by
    rw [← ht]
    simp [State.onPin, held, reference]
  obtain ⟨hi, ho, pt, mt, turns⟩ := channelFrames_eq (restored := decide (s.frameReference = .lost)) (f := f) frameOrder
    (pulseTaken_sameFrame s) (fun k => by rw [leg_pulseTaken])
  rw [hturned] at turns
  have growsTurned : (pulseTaken s).QueueGrows turned := hturned ▸ State.QueueGrows.channelFrames _ _
  have grows : (pulseTaken s).QueueGrows t := growsTurned.trans (ht ▸ .of_same rfl rfl)
  have whole : t = { frameOrder.foldl (s.legTurn (received f f.port s.idle) (received f f.matrix s.idle)) (pulseTaken s) with
      heldInbound := t.heldInbound
      heldOutbound := t.heldOutbound
      portTransmit := t.portTransmit
      matrixTransmit := t.matrixTransmit
      afterFrame := t.afterFrame
      routedAs := s.channelTable } := by
    generalize frameOrder.foldl (s.legTurn (received f f.port s.idle) (received f f.matrix s.idle)) (pulseTaken s) = records
      at turns ⊢
    rw [← ht, turns]
    rfl
  refine ⟨t, event_taken (acceptPulse f) running pulse, event_taken (acceptPulse f) running pulse, ht ▸ reference, ht ▸ watch,
    ht ▸ channels, ht ▸ rfl, fun n late => ?_, fun c hc => ⟨fun clear => ?_, fun k w o routed use alone => ?_⟩, ?_,
    fun lost enabled => ?_, fun u k w d o before after hk use noWait => directionChanged_brings hk use noWait, fun clear => ?_⟩
  · rw [State.afterFrameDriven, pin, ← ht]
    simp only [idle, List.getElem?_replicate, Config.timeslots]
    exact if_congr (by omega) rfl rfl
  · obtain ⟨u, ⟨uChannels, uRouted, uParams⟩, before, after⟩ := samplesAt_frame (restored := decide (s.frameReference = .lost))
      (f := f) (s := s) hc
    have uClear : u.routing c = .clear := by rw [State.routing, uChannels]; exact clear
    have uIdle : u.idle = s.idle := by rw [State.idle, State.idle, uParams]
    rw [hturned, samplesAt_channelFrame_clear hc uClear, uIdle, uRouted] at after
    simp only [State.samplesAt, Prod.mk.injEq] at before after
    obtain ⟨⟨heldIn, heldOut⟩, -⟩ := before
    obtain ⟨⟨newIn, newOut⟩, port, matrix⟩ := after
    rw [heldOut, drivenAs_eq] at port
    rw [heldIn, drivenAs_eq] at matrix
    rw [State.portDriven, State.matrixDriven, pin, pin, clear, ← ht]
    exact ⟨newIn, newOut, port, matrix⟩
  · obtain ⟨u, ⟨uChannels, uRouted, uParams⟩, before, after⟩ := legAt_frame (restored := decide (s.frameReference = .lost))
      (f := f) (s := s) hc alone
    have uLeg : u.routing c = .leg k := by rw [State.routing, uChannels]; exact routed
    have uIdle : u.idle = s.idle := by rw [State.idle, State.idle, uParams]
    obtain ⟨-, leg⟩ := Prod.mk.inj before
    obtain ⟨samples, legAfter⟩ := Prod.mk.inj after
    have uUse : (u.leg k).use = .opened w o := by rw [leg, use]
    obtain ⟨gives, a, b, turn, keptA, keptB⟩ := legEvents_turn (rxPort := received f f.port s.idle c)
      (rxMatrix := received f f.matrix s.idle c) uUse
    rw [hturned, samplesAt_channelFrame_leg hc uLeg, uIdle, uRouted, gives, uParams, uIdle] at samples
    rw [hturned, channelFrame_of_leg uLeg, uIdle] at legAfter
    rw [uParams, leg] at turn
    rw [uParams] at keptA keptB
    simp only [State.samplesAt, Prod.mk.injEq] at samples
    obtain ⟨⟨newIn, newOut⟩, port, matrix⟩ := samples
    rw [drivenAs_eq] at port matrix
    rw [State.portDriven, State.matrixDriven, pin, pin, routed, ← ht]
    exact ⟨newIn, newOut, port, matrix, a, b, legAfter.trans turn, keptA, keptB⟩
  · exact whole
  · have queued : pulseTaken s = queueReport .frameRestored { s with frameReference := .present, watchRunning := true } :=
      if_pos lost
    rw [queued] at grows
    exact firstReport_kept (s := { s with frameReference := .present, watchRunning := true }) (r := .frameRestored) enabled grows
  · have still : frameOrder.foldl (s.legTurn (received f f.port s.idle) (received f f.matrix s.idle)) (pulseTaken s) =
        pulseTaken s := legTurns_of_clear (fun c hc => clear c ((mem_frameOrder c).mp hc)) _ _
    rw [still] at whole
    have apart : LinkApart (fun u => { u with
        heldInbound := t.heldInbound
        heldOutbound := t.heldOutbound
        portTransmit := t.portTransmit
        matrixTransmit := t.matrixTransmit
        afterFrame := t.afterFrame
        routedAs := s.channelTable }) := ⟨fun _ => rfl, fun _ _ _ _ _ => rfl⟩
    cases now : s.frameReference with
    | present =>
      rw [pulseTaken, if_neg (by simp [now])] at whole
      exact whole
    | lost =>
      rw [pulseTaken, if_pos now] at whole
      exact whole.trans (apart.queueReport { s with frameReference := .present, watchRunning := true } .frameRestored).symm

end Sys2Proof.Machine
end

section
/-! PROOFS. The evaluation of the calls (O34) -/

namespace Sys2Proof.Machine

/-! ### Replies that wait -/

/-- Reports leave the replies that wait as they are, where an idle transmitter has nothing waiting. -/
def State.RepliesWait (s t : State) : Prop :=
  s.IdleHasNothingWaiting → t.IdleHasNothingWaiting ∧ t.replyQueue = s.replyQueue

theorem State.RepliesWait.refl (s : State) : s.RepliesWait s := fun h => ⟨h, rfl⟩

theorem State.RepliesWait.trans {s t u : State} (h : s.RepliesWait t) (h' : t.RepliesWait u) : s.RepliesWait u := fun idle =>
  ⟨(h' (h idle).1).1, (h' (h idle).1).2.trans (h idle).2⟩

theorem State.RepliesWait.of_same {s t : State} (transmitting : t.transmitting = s.transmitting)
    (replies : t.replyQueue = s.replyQueue) (reports : t.reportQueue = s.reportQueue) : s.RepliesWait t := fun idle =>
  ⟨fun now => by rw [replies, reports]; exact idle (transmitting ▸ now), replies⟩

theorem State.RepliesWait.queueReport (r : Report) (s : State) : s.RepliesWait (queueReport r s) := by
  intro idle
  rcases queueReport_spec r s with ⟨-, same⟩ | ⟨-, -, queued⟩ | ⟨-, -, dropped⟩
  · rw [same]
    exact ⟨idle, rfl⟩
  · rw [queued]
    by_cases busy : s.transmitting = none
    · obtain ⟨noReply, noReport⟩ := idle busy
      rw [transmitNext_of_report (s := { s with reportQueue := _, lostFlag := false }) busy noReply (by rw [noReport]; rfl)]
      exact ⟨fun now => by simp at now, rfl⟩
    · rw [transmitNext_of_busy (s := { s with reportQueue := _, lostFlag := false }) busy]
      exact ⟨fun now => absurd now busy, rfl⟩
  · rw [dropped]
    exact ⟨fun now => idle now, rfl⟩

theorem State.RepliesWait.queueReports (rs : List Report) (s : State) : s.RepliesWait (queueReports rs s) := by
  induction rs generalizing s with
  | nil => exact .refl s
  | cons r rs ih => exact (State.RepliesWait.queueReport r s).trans (ih _)

theorem State.RepliesWait.evaluateCalls (s : State) : s.RepliesWait (evaluateCalls s) :=
  State.RepliesWait.trans (t := { s with calls := s.calls.map s.evaluateCall }) (.of_same rfl rfl rfl) (.queueReports _ _)

/-! ### Reports that are all admitted -/

theorem queueReports_listed {s : State} (enabled : ∀ b < 32, s.reportMask.getLsbD b = true) (noneLost : s.lostFlag = false)
    (busy : s.transmitting ≠ none) (rs : List Report) (kinds : ∀ r ∈ rs, r.kind - 128 < 32)
    (room : s.reportQueue.length + rs.length ≤ 32) : queueReports rs s =
      { s with reportQueue := s.reportQueue ++ rs.map (fun r => ⟨r, false⟩), lostFlag := false } := by
  induction rs generalizing s with
  | nil =>
    rw [List.map_nil, List.append_nil, ← noneLost]
    rfl
  | cons r rs ih =>
    have room' : s.reportQueue.length + rs.length + 1 ≤ 32 := by simpa [Nat.add_assoc] using room
    have first : queueReport r s = { s with reportQueue := s.reportQueue ++ [⟨r, false⟩], lostFlag := false } := by
      rw [queueReport_admitted (enabled _ (kinds r (by simp))) (by omega), noneLost]
      exact transmitNext_of_busy busy
    have rest : queueReports (r :: rs) s = queueReports rs (queueReport r s) := rfl
    rw [rest, first, ih (s := { s with reportQueue := _, lostFlag := false }) enabled rfl busy
      (fun r' hr => kinds r' (by simp [hr])) (by simp; omega)]
    simp [List.append_assoc]

theorem kind_secureReport {s : State} {c : Call} {r : Report} (h : s.secureReport c = some r) : r.kind - 128 < 32 := by
  unfold State.secureReport at h
  split at h
  · cases h
  · split at h
    · cases h
    · cases h
      simp [Report.kind]

/-! ### The secure status (R146 to R148) -/

/-- A leg runs: it is OPEN and both its directions are in RUN. -/
theorem legRunning_iff (s : State) (k : Nat) : s.legRunning k = true ↔
    ∃ w o, (s.leg k).use = .opened w o ∧ o.out.state = .run ∧ o.inb.state = .run := by
  cases h : s.openLeg? k with
  | none =>
    have closed : ∀ w o, (s.leg k).use ≠ .opened w o := fun w o use => by simp [openLeg_of_use use] at h
    simp [State.legRunning, h, closed]
  | some o =>
    obtain ⟨w, use⟩ := (openLeg_eq_some_iff s k o).mp h
    simp [State.legRunning, h, use, OpenLeg.running]

theorem extensionSecure_iff (s : State) (i : Nat) : s.extensionSecure i = true ↔
    ∃ k, (s.entry i).ownedLeg = some k ∧ ∃ w o, (s.leg k).use = .opened w o ∧ o.out.state = .run ∧ o.inb.state = .run := by
  cases h : (s.entry i).ownedLeg <;> simp [State.extensionSecure, h, legRunning_iff]

theorem bPartyShort_iff (s : State) (c : Call) : s.bPartyShort c = true ↔
    ∃ i, c.b = .extension i ∧ (s.entry i).secure = true ∧ (s.entry i).ownedLeg = none := by
  cases h : c.b <;> simp [State.bPartyShort, h, shortOfLeg_iff]

theorem statusOf_secure_iff (s : State) (c : Call) :
    s.statusOf c = .secure ↔ s.extensionSecure c.a = true ∧ s.bPartySecure c = true := by
  unfold State.statusOf
  split <;> rename_i h
  · simpa using h
  · split <;> simpa using h

theorem statusOf_short_iff (s : State) (c : Call) : s.statusOf c = .clearByCapacity ↔
    s.statusOf c ≠ .secure ∧ (s.shortOfLeg c.a = true ∨ s.bPartyShort c = true) := by
  unfold State.statusOf
  split
  · simp
  · split <;> rename_i short <;> simpa using short

theorem bPartySecure_iff (s : State) (c : Call) : s.bPartySecure c = true ↔ match c.b with
    | .extension i => ∃ k, (s.entry i).ownedLeg = some k ∧
        ∃ w o, (s.leg k).use = .opened w o ∧ o.out.state = .run ∧ o.inb.state = .run
    | .group _ => ∃ k, c.tieLeg = some k ∧ ∃ w o, (s.leg k).use = .opened w o ∧ o.out.state = .run ∧ o.inb.state = .run
    | .service _ => True := by
  unfold State.bPartySecure
  cases c.b with
  | extension i => exact extensionSecure_iff s i
  | group g => cases c.tieLeg <;> simp [legRunning_iff]
  | service v => simp

theorem evaluateCalls_frame (s : State) : evaluateCalls s = { s with
    calls := (evaluateCalls s).calls
    replyQueue := (evaluateCalls s).replyQueue
    reportQueue := (evaluateCalls s).reportQueue
    lostFlag := (evaluateCalls s).lostFlag
    transmitting := (evaluateCalls s).transmitting } := by
  have link : ∀ (rs : List Report) (u : State), LinkOnly u (queueReports rs u) := fun rs => by
    induction rs with
    | nil => exact fun _ => rfl
    | cons r rs ih => exact fun u => (LinkOnly.queueReport r u).trans (ih _)
  have only : LinkOnly { s with calls := s.calls.map s.evaluateCall } (evaluateCalls s) := link _ _
  have buffer : (evaluateCalls s).requestBuffer = s.requestBuffer := by simp
  have calls := evaluateCalls_calls s
  generalize evaluateCalls s = t at only buffer calls ⊢
  rw [calls]
  rw [LinkOnly, buffer] at only
  exact only

/-- The report of a call, from the call as it stood and as it is evaluated. -/
theorem secureReport_eq (s : State) (c : Call) : (s.secureReport c).map (fun r => (⟨r, false⟩ : QueuedReport)) =
    if c.state = .talking ∧ (s.evaluateCall c).status ≠ c.status then
      some ⟨.callSecure c.ref (s.evaluateCall c).status c.requiresSecure, false⟩
    else none := by
  cases state : c.state with
  | alerting => simp [State.secureReport, state]
  | talking =>
    by_cases same : s.statusOf c = c.status <;> simp [State.secureReport, State.evaluateCall, state, same]

/-- Settles O34: each call's evaluation from its parties' legs, and the reports one after another. -/
theorem evaluationOfCalls : Obligations.EvaluationOfCalls := by
  intro s t running extension far short
  refine ⟨?_, fun idle => (State.RepliesWait.evaluateCalls s idle).2, by simp [t], fun n c here => ?_,
    fun enabled noneLost busy room => ?_⟩
  · exact evaluateCalls_frame s
  · have evaluated : t.calls[n]? = some (s.evaluateCall c) := by simp [t, here]
    refine ⟨s.evaluateCall c, evaluated, fun alerting => by rw [State.evaluateCall, alerting], fun talking => ?_⟩
    have farSecure : s.bPartySecure c = true ↔ far c := bPartySecure_iff s c
    have eval : s.evaluateCall c = { c with status := s.statusOf c, grace := graceAfter s.params c (s.statusOf c) } := by
      rw [State.evaluateCall, talking]
    rw [eval]
    refine ⟨rfl, ?_, ?_, fun plain => by simp [graceAfter, plain], fun requires secure => ?_, fun requires insecure => ?_⟩
    · exact (statusOf_secure_iff s c).trans (and_congr (extensionSecure_iff s c.a) farSecure)
    · exact (statusOf_short_iff s c).trans
        (and_congr_right fun _ => or_congr (shortOfLeg_iff s c.a) (bPartyShort_iff s c))
    · have secure : s.statusOf c = .secure := secure
      simp [graceAfter, requires, secure]
    · have insecure : s.statusOf c ≠ .secure := insecure
      cases grace : c.grace with
      | none => simp only [graceAfter, requires, insecure, grace, if_true, if_false]; rfl
      | some count => simp [graceAfter, requires, insecure, grace]
  · have kinds : ∀ r ∈ s.calls.filterMap s.secureReport, r.kind - 128 < 32 := fun r hr => by
      obtain ⟨c, -, report⟩ := List.mem_filterMap.mp hr
      exact kind_secureReport report
    have few : (s.calls.filterMap s.secureReport).length ≤ s.calls.length := List.length_filterMap_le _ _
    have listed := queueReports_listed (s := { s with calls := s.calls.map s.evaluateCall }) enabled noneLost busy _ kinds
      (by show s.reportQueue.length + _ ≤ 32; omega)
    have evaluated : t.calls = s.calls.map s.evaluateCall := evaluateCalls_calls s
    have zipped : s.calls.zip t.calls = s.calls.map (fun c => (c, s.evaluateCall c)) := by
      rw [evaluated]
      simpa using List.zip_map' (f := id) (g := s.evaluateCall) (l := s.calls)
    have same : t = _ := listed
    refine ⟨by rw [same], by rw [same], ?_⟩
    rw [zipped, same, List.filterMap_map, List.map_filterMap]
    refine congrArg (s.reportQueue ++ ·) (List.filterMap_congr fun c _ => ?_)
    exact secureReport_eq s c

end Sys2Proof.Machine
end

section
/-! PROOFS. Legs freed one after another: what becomes of the legs, their channels and their owners -/

namespace Sys2Proof.Machine

/-! ### One leg freed -/

theorem leg_of_le (s : State) {k : Nat} (high : 48 ≤ k) : s.leg k = ⟨0, .free⟩ := readAt_of_le _ _ _ high

theorem leg_freeTheLeg (k : Nat) (s : State) (j : Nat) :
    (freeTheLeg k s).leg j = if k = j then ⟨(s.leg k).stamp, .free⟩ else s.leg j := by
  rw [State.leg, freeTheLeg_legs]
  by_cases same : k = j
  · subst same
    rw [if_pos rfl]
    by_cases hk : k < 48
    · split
      next free =>
        cases h : s.leg k with
        | mk stamp use =>
          rw [h] at free
          cases use with
          | free => exact h
          | _ => cases free
      next => rw [readAt_writeAt, if_pos ⟨rfl, hk⟩]
    · have past : ∀ t : Table Leg 48, readAt t Leg.atReset k = ⟨0, .free⟩ := fun t => readAt_of_le _ _ _ (Nat.le_of_not_lt hk)
      rw [past, State.leg, past]
  · rw [if_neg same]
    split
    · rfl
    · rw [readAt_writeAt, if_neg (fun both => same both.1)]
      rfl

theorem routing_freeTheLeg_of_opened {s : State} {k : Nat} {w : Owner} {o : OpenLeg} (use : (s.leg k).use = .opened w o)
    (d : Nat) : (freeTheLeg k s).routing d = if o.channel = d ∧ o.channel < 128 then .clear else s.routing d := by
  rw [State.routing, freeTheLeg_channelTable, use]
  exact readAt_writeAt _ _ _ _ _

theorem routing_freeTheLeg_of_closed {s : State} {k : Nat} (closed : (s.leg k).use.isOpen = false) (d : Nat) :
    (freeTheLeg k s).routing d = s.routing d := by
  rw [State.routing, freeTheLeg_channelTable]
  cases use : (s.leg k).use with
  | opened w o => simp [use, LegUse.isOpen] at closed
  | _ => rfl

/-- The owned leg fields after a leg is freed. -/
theorem entry_freeTheLeg (k : Nat) (s : State) (i : Nat) : (freeTheLeg k s).entry i =
    if (s.leg k).use.owner? = some (.extension i) then { s.entry i with ownedLeg := none } else s.entry i := by
  rw [State.entry, freeTheLeg_directory]
  cases owner : (s.leg k).use.owner? with
  | none => rfl
  | some w =>
    cases w with
    | extension l =>
      by_cases same : l = i
      · subst same
        rw [if_pos rfl]
        by_cases hl : l < 512
        · exact readAt_writeAt_self _ _ _ _ hl
        · have past : ∀ t : Table Entry 512, readAt t Entry.vacant l = Entry.vacant := fun t =>
            readAt_of_le _ _ _ (Nat.le_of_not_lt hl)
          rw [past, State.entry, past]
          rfl
      · rw [if_neg (by simpa using same)]
        exact readAt_writeAt_ne _ _ _ _ _ same
    | _ => rfl

/-! ### Legs freed, one after another (R53, R55, R77) -/

/-- The state `t` comes from `s` by legs becoming FREE, each OPEN one's channel CLEAR, and its extension owning it no longer; of
the legs, the channels and the owned legs nothing else differs. -/
structure LegsFreed (s t : State) : Prop where
  leg : ∀ k, t.leg k = s.leg k ∨ t.leg k = ⟨(s.leg k).stamp, .free⟩
  cleared : ∀ k w o, (s.leg k).use = .opened w o → t.leg k ≠ s.leg k → o.channel < 128 → t.routing o.channel = .clear
  disowned : ∀ k i, (s.leg k).use.owner? = some (.extension i) → t.leg k ≠ s.leg k → (t.entry i).ownedLeg = none
  owned : ∀ i, (t.entry i).ownedLeg = (s.entry i).ownedLeg ∨ (t.entry i).ownedLeg = none ∧
    ∃ k, (s.leg k).use.owner? = some (.extension i) ∧ t.leg k ≠ s.leg k
  routing : ∀ d, t.routing d = s.routing d ∨ t.routing d = .clear ∧
    ∃ k o, s.openLeg? k = some o ∧ o.channel = d ∧ t.leg k ≠ s.leg k

namespace LegsFreed

theorem of_same {s t : State} (leg : ∀ k, t.leg k = s.leg k) (owned : ∀ i, (t.entry i).ownedLeg = (s.entry i).ownedLeg)
    (routing : ∀ d, t.routing d = s.routing d) : LegsFreed s t where
  leg k := .inl (leg k)
  cleared k _ _ _ other := absurd (leg k) other
  disowned k _ _ other := absurd (leg k) other
  owned i := .inl (owned i)
  routing d := .inl (routing d)

theorem refl (s : State) : LegsFreed s s := of_same (fun _ => rfl) (fun _ => rfl) (fun _ => rfl)

theorem free_of_ne {s t : State} (h : LegsFreed s t) {k : Nat} (other : t.leg k ≠ s.leg k) :
    t.leg k = ⟨(s.leg k).stamp, .free⟩ := (h.leg k).resolve_left other

/-- A FREE leg stays so. -/
theorem stays_free {s t : State} (h : LegsFreed s t) {k : Nat} {stamp : Byte} (free : s.leg k = ⟨stamp, .free⟩) :
    t.leg k = ⟨stamp, .free⟩ := by
  rcases h.leg k with same | freed
  · rw [same, free]
  · rw [freed, free]

theorem kept_of_owner {s t : State} (h : LegsFreed s t) {k : Nat} {w : Owner} (owner : (t.leg k).use.owner? = some w) :
    t.leg k = s.leg k := by
  rcases h.leg k with same | freed
  · exact same
  · rw [freed] at owner
    cases owner

/-- A leg changed by the first frees is not the leg it was after the others. -/
theorem ne_trans {s t u : State} (h : LegsFreed s t) (h' : LegsFreed t u) {k : Nat} (other : t.leg k ≠ s.leg k) :
    u.leg k ≠ s.leg k := by
  rw [h'.stays_free (h.free_of_ne other), ← h.free_of_ne other]
  exact other

theorem trans {s t u : State} (h : LegsFreed s t) (h' : LegsFreed t u) : LegsFreed s u where
  leg k := by
    rcases h'.leg k with same | freed
    · rw [same]
      exact h.leg k
    · rcases h.leg k with same | free
      · rw [freed, same]
        exact .inr rfl
      · rw [freed, free]
        exact .inr rfl
  cleared k w o use other inRange := by
    by_cases first : t.leg k = s.leg k
    · exact h'.cleared k w o (by rw [first, use]) (by rw [first]; exact other) inRange
    · rcases h'.routing o.channel with same | ⟨clear, -⟩
      · rw [same]
        exact h.cleared k w o use first inRange
      · exact clear
  disowned k i owner other := by
    by_cases first : t.leg k = s.leg k
    · exact h'.disowned k i (by rw [first, owner]) (by rw [first]; exact other)
    · rcases h'.owned i with same | ⟨none, -⟩
      · rw [same]
        exact h.disowned k i owner first
      · exact none
  owned i := by
    rcases h'.owned i with same | ⟨none, k, owner, other⟩
    · rw [same]
      rcases h.owned i with first | ⟨none, k, owner, other⟩
      · exact .inl first
      · exact .inr ⟨none, k, owner, h.ne_trans h' other⟩
    · have kept := h.kept_of_owner owner
      exact .inr ⟨none, k, by rw [← kept, owner], by rw [← kept]; exact other⟩
  routing d := by
    rcases h'.routing d with same | ⟨clear, k, o, opened, channel, other⟩
    · rw [same]
      rcases h.routing d with first | ⟨clear, k, o, opened, channel, other⟩
      · exact .inl first
      · exact .inr ⟨clear, k, o, opened, channel, h.ne_trans h' other⟩
    · obtain ⟨w, use⟩ := (openLeg_eq_some_iff t k o).mp opened
      have kept := h.kept_of_owner (congrArg LegUse.owner? use)
      exact .inr ⟨clear, k, o, by rw [← opened, openLeg_congr kept], channel, by rw [← kept]; exact other⟩

/-- One leg freed. -/
theorem freeTheLeg (k : Nat) (s : State) : LegsFreed s (freeTheLeg k s) := by
  have leg : ∀ j, (Machine.freeTheLeg k s).leg j = if k = j then ⟨(s.leg k).stamp, .free⟩ else s.leg j := leg_freeTheLeg k s
  have ne : ∀ j, (Machine.freeTheLeg k s).leg j ≠ s.leg j → j = k := fun j other => by
    by_contra apart
    exact other (by rw [leg, if_neg (Ne.symm apart)])
  refine ⟨fun j => ?_, fun j w o use other inRange => ?_, fun j i owner other => ?_, fun i => ?_, fun d => ?_⟩
  · rw [leg]
    split
    next same => exact same ▸ .inr rfl
    next => exact .inl rfl
  · obtain rfl := ne j other
    rw [routing_freeTheLeg_of_opened use, if_pos ⟨rfl, inRange⟩]
  · obtain rfl := ne j other
    rw [entry_freeTheLeg, if_pos owner]
  · by_cases owner : (s.leg k).use.owner? = some (.extension i)
    · refine .inr ⟨by rw [entry_freeTheLeg, if_pos owner], k, owner, fun same => ?_⟩
      rw [← same, leg, if_pos rfl] at owner
      cases owner
    · exact .inl (by rw [entry_freeTheLeg, if_neg owner])
  · rcases isOpen_cases s k with closed | ⟨w, o, use⟩
    · exact .inl (routing_freeTheLeg_of_closed closed d)
    · rw [routing_freeTheLeg_of_opened use]
      split
      next here =>
        refine .inr ⟨rfl, k, o, openLeg_of_use use, here.1, fun same => ?_⟩
        rw [← same, leg, if_pos rfl] at use
        cases use
      next => exact .inl rfl

/-- The leg that an extension alone owns stays its own as long as it is not freed. -/
theorem owned_of_kept {s t : State} (h : LegsFreed s t) {i k : Nat} (owned : (s.entry i).ownedLeg = some k)
    (alone : ∀ l < 48, l ≠ k → (s.leg l).use.owner? ≠ some (.extension i)) (kept : t.leg k = s.leg k) :
    (t.entry i).ownedLeg = some k := by
  rcases h.owned i with same | ⟨-, l, owner, other⟩
  · rw [same, owned]
  · by_cases here : l = k
    · exact absurd kept (here ▸ other)
    · by_cases hl : l < 48
      · exact absurd owner (alone l hl here)
      · rw [leg_of_le s (Nat.le_of_not_lt hl)] at owner
        cases owner

theorem not_owned {s t : State} (h : LegsFreed s t) {i k : Nat} (other : (s.entry i).ownedLeg ≠ some k) :
    (t.entry i).ownedLeg ≠ some k := by
  rcases h.owned i with same | ⟨none, -⟩
  · rw [same]
    exact other
  · simp [none]

end LegsFreed

/-! ### Steps that free one leg or none -/

/-- The step frees one leg, of which `p` holds, or does nothing. -/
def FreesOne (p : Nat → Prop) (s t : State) : Prop := t = s ∨ ∃ k, p k ∧ t = freeTheLeg k s

/-- Entries differ in their owned legs alone. -/
def OwnedOnly (s t : State) : Prop := ∀ i, t.entry i = { s.entry i with ownedLeg := (t.entry i).ownedLeg }

theorem OwnedOnly.refl (s : State) : OwnedOnly s s := fun _ => rfl

theorem OwnedOnly.trans {s t u : State} (h : OwnedOnly s t) (h' : OwnedOnly t u) : OwnedOnly s u := fun i => by
  rw [h' i, h i]

/-- The records of legs, channels, entries, calls and groups alone differ. -/
def CallRecordsOnly (s t : State) : Prop := t = { s with
  legs := t.legs
  channelTable := t.channelTable
  directory := t.directory
  calls := t.calls
  groups := t.groups }

theorem CallRecordsOnly.trans {s t u : State} (h : CallRecordsOnly s t) (h' : CallRecordsOnly t u) : CallRecordsOnly s u := by
  rw [CallRecordsOnly, h', h]

theorem freeTheLeg_callRecords (k : Nat) (s : State) : CallRecordsOnly s (freeTheLeg k s) := by
  unfold CallRecordsOnly freeTheLeg
  dsimp only
  (repeat' split) <;> rfl

namespace FreesOne

variable {p : Nat → Prop} {s t : State} (h : FreesOne p s t)
include h

theorem legsFreed : LegsFreed s t := by
  rcases h with rfl | ⟨k, -, rfl⟩
  · exact .refl t
  · exact .freeTheLeg k s

theorem ownedOnly : OwnedOnly s t := by
  rcases h with rfl | ⟨k, -, rfl⟩
  · exact .refl t
  · intro i
    rw [entry_freeTheLeg]
    split <;> rfl

theorem callRecords : CallRecordsOnly s t := by
  rcases h with rfl | ⟨k, -, rfl⟩
  · rfl
  · exact freeTheLeg_callRecords k s

theorem calls : t.calls = s.calls := by
  rcases h with rfl | ⟨k, -, rfl⟩ <;> simp

theorem groups : t.groups = s.groups := by
  rcases h with rfl | ⟨k, -, rfl⟩ <;> simp

theorem leg_of_apart {j : Nat} (apart : ¬ p j) : t.leg j = s.leg j := by
  rcases h with rfl | ⟨k, hk, rfl⟩
  · rfl
  · rw [leg_freeTheLeg, if_neg]
    rintro rfl
    exact apart hk

end FreesOne

end Sys2Proof.Machine
end

section
/-! PROOFS. The steps of a removal: stacks, the call's own legs, its parties' legs -/

namespace Sys2Proof.Machine

/-! ### The steps of a removal (R144) -/

theorem freeHeldLeg_freesOne (held : Option Nat) (s : State) : FreesOne (fun k => held = some k) s (freeHeldLeg held s) := by
  cases held with
  | none => exact .inl rfl
  | some k => exact .inr ⟨k, rfl, rfl⟩

/-- Whether a call left on the stack of entry `a` is ALERTING. -/
def State.alertsOn (s : State) (a : Nat) : Prop :=
  ∃ x ∈ (s.entry a).stack, ∃ c, s.call x.call = some c ∧ c.state = .alerting

theorem alertsOn_iff (s : State) (a : Nat) : (s.entry a).stack.any (fun x => match s.call x.call with
    | some c => c.state == .alerting
    | none => false) = true ↔ s.alertsOn a := by
  simp only [List.any_eq_true, State.alertsOn]
  refine exists_congr fun x => and_congr_right fun _ => ?_
  cases s.call x.call <;> simp

theorem releaseCallerLeg_of_owned {s : State} {a k : Nat} (owned : (s.entry a).ownedLeg = some k)
    (reserved : (s.leg k).use.isReserved = true) (quiet : ¬ s.alertsOn a) : releaseCallerLeg a s = freeTheLeg k s := by
  have none := Bool.not_eq_true _ |>.mp (mt (alertsOn_iff s a).mp quiet)
  unfold releaseCallerLeg
  simp only [owned, reserved, Bool.true_and]
  exact if_pos (by rw [Bool.not_eq_true']; exact none)

theorem releaseCallerLeg_freesOne (a : Nat) (s : State) : FreesOne
    (fun k => (s.entry a).ownedLeg = some k ∧ (s.leg k).use.isReserved = true ∧ ¬ s.alertsOn a) s (releaseCallerLeg a s) := by
  unfold releaseCallerLeg
  cases owned : (s.entry a).ownedLeg with
  | none => exact .inl rfl
  | some k =>
    dsimp only
    split
    next both =>
      obtain ⟨reserved, quiet⟩ := Bool.and_eq_true_iff.mp both
      rw [Bool.not_eq_true', ← Bool.not_eq_true] at quiet
      exact .inr ⟨k, ⟨rfl, reserved, fun alerts => quiet ((alertsOn_iff s a).mpr alerts)⟩, rfl⟩
    next => exact .inl rfl

theorem closeIfEmptied_of_emptied {s : State} {i k r : Nat} {before : List StackItem} (owned : (s.entry i).ownedLeg = some k)
    (stood : onStack r before = true) (empty : (s.entry i).stack = []) : closeIfEmptied i before r s = freeTheLeg k s := by
  rw [closeIfEmptied, if_pos ⟨stood, empty⟩, owned]

theorem closeIfEmptied_freesOne (i : Nat) (before : List StackItem) (r : Nat) (s : State) : FreesOne
    (fun k => (s.entry i).ownedLeg = some k ∧ (s.entry i).stack = []) s (closeIfEmptied i before r s) := by
  unfold closeIfEmptied
  split
  next emptied =>
    cases owned : (s.entry i).ownedLeg with
    | none => exact .inl rfl
    | some k => exact .inr ⟨k, ⟨rfl, emptied.2⟩, rfl⟩
  next => exact .inl rfl

/-- The call off its parties' stacks. -/
def stacksLeft (c : Call) (s : State) : State :=
  match c.b with
  | .extension i => leaveStack c.ref i (leaveStack c.ref c.a s)
  | _ => leaveStack c.ref c.a s

/-- The call's own legs freed, and its group's count lowered. -/
def heldFreed (c : Call) (s : State) : State :=
  let s := freeHeldLeg c.tieLeg (freeHeldLeg c.bReservation s)
  match c.b with
  | .group g => s.setGroup g { s.group g with active := (s.group g).active - 1 }
  | _ => s

/-- The callee's leg closed where its stack, as it stood in `before`, has become empty. -/
def calleeClosed (c : Call) (before s : State) : State :=
  match c.b with
  | .extension i => closeIfEmptied i (before.entry i).stack c.ref s
  | _ => s

theorem callRemoved_eq (c : Call) (s : State) : callRemoved c s =
    let u := calleeClosed c s
      (closeIfEmptied c.a (s.entry c.a).stack c.ref (releaseCallerLeg c.a (heldFreed c (stacksLeft c s))))
    { u with calls := u.calls.filter (fun x => x.ref != c.ref) } := by
  unfold callRemoved calleeClosed heldFreed stacksLeft
  cases c.b <;> rfl

theorem entry_leaveStack (r i j : Nat) (s : State) : (leaveStack r i s).entry j =
    if i = j then { s.entry j with stack := (s.entry j).stack.filter (fun x => x.call != r) } else s.entry j := by
  rw [leaveStack, entry_setEntry]
  by_cases same : i = j
  · subst same
    by_cases hi : i < 512
    · rw [if_pos ⟨rfl, hi⟩, if_pos rfl]
      rfl
    · have past : s.entry i = Entry.vacant := readAt_of_le _ _ _ (Nat.le_of_not_lt hi)
      rw [if_neg (fun both => hi both.2), if_pos rfl, past]
      rfl
  · rw [if_neg (fun both => same both.1), if_neg same]

/-- Whether entry `i` is a party of the call. -/
def Call.HasParty (c : Call) (i : Nat) : Prop := c.a = i ∨ c.b = .extension i

theorem entry_stacksLeft_of_party {c : Call} {i : Nat} (party : c.HasParty i) (s : State) : (stacksLeft c s).entry i =
    { s.entry i with stack := (s.entry i).stack.filter (fun x => x.call != c.ref) } := by
  unfold stacksLeft
  cases b : c.b with
  | extension l =>
    by_cases caller : c.a = i <;> by_cases callee : l = i
    · simp [entry_leaveStack, caller, callee, List.filter_filter]
    · simp [entry_leaveStack, caller, callee]
    · simp [entry_leaveStack, caller, callee]
    · simp [Call.HasParty, b, caller, callee] at party
  | group g => simp [entry_leaveStack, party.resolve_right (by simp [b])]
  | service v => simp [entry_leaveStack, party.resolve_right (by simp [b])]

theorem entry_stacksLeft_of_apart {c : Call} {i : Nat} (apart : ¬ c.HasParty i) (s : State) :
    (stacksLeft c s).entry i = s.entry i := by
  obtain ⟨caller, callee⟩ := not_or.mp apart
  unfold stacksLeft
  cases b : c.b with
  | extension l => simp [entry_leaveStack, caller, show l ≠ i from fun same => callee (by rw [b, same])]
  | group g => simp [entry_leaveStack, caller]
  | service v => simp [entry_leaveStack, caller]

theorem stacksLeft_legsFreed (c : Call) (s : State) : LegsFreed s (stacksLeft c s) := by
  refine .of_same (fun k => ?_) (fun i => ?_) fun d => ?_
  · unfold stacksLeft
    cases c.b <;> rfl
  · by_cases party : c.HasParty i
    · rw [entry_stacksLeft_of_party party]
    · rw [entry_stacksLeft_of_apart party]
  · unfold stacksLeft
    cases c.b <;> rfl

/-! ### The call's own legs -/

section
variable (c : Call) (s : State)

theorem heldFreed_legsFreed : LegsFreed s (heldFreed c s) := by
  have freed := (freeHeldLeg_freesOne c.bReservation s).legsFreed.trans
    (freeHeldLeg_freesOne c.tieLeg (freeHeldLeg c.bReservation s)).legsFreed
  refine freed.trans (.of_same (fun k => ?_) (fun i => ?_) fun d => ?_)
  all_goals
    unfold heldFreed
    cases c.b <;> rfl

theorem heldFreed_ownedOnly : OwnedOnly s (heldFreed c s) := by
  have freed := (freeHeldLeg_freesOne c.bReservation s).ownedOnly.trans
    (freeHeldLeg_freesOne c.tieLeg (freeHeldLeg c.bReservation s)).ownedOnly
  refine freed.trans fun i => ?_
  unfold heldFreed
  cases c.b <;> rfl

theorem heldFreed_calls : (heldFreed c s).calls = s.calls := by
  have freed := (freeHeldLeg_freesOne c.tieLeg (freeHeldLeg c.bReservation s)).calls.trans
    (freeHeldLeg_freesOne c.bReservation s).calls
  refine .trans ?_ freed
  unfold heldFreed
  cases c.b <;> rfl

theorem leg_heldFreed (k : Nat) :
    (heldFreed c s).leg k = (freeHeldLeg c.tieLeg (freeHeldLeg c.bReservation s)).leg k := by
  unfold heldFreed
  cases c.b <;> rfl

theorem leg_heldFreed_of_apart {k : Nat} (noReservation : c.bReservation ≠ some k) (noTie : c.tieLeg ≠ some k) :
    (heldFreed c s).leg k = s.leg k := by
  rw [leg_heldFreed, (freeHeldLeg_freesOne _ _).leg_of_apart noTie, (freeHeldLeg_freesOne _ _).leg_of_apart noReservation]

theorem leg_heldFreed_of_held {k : Nat} (held : c.bReservation = some k ∨ c.tieLeg = some k) :
    (heldFreed c s).leg k = ⟨(s.leg k).stamp, .free⟩ := by
  have later := (freeHeldLeg_freesOne c.tieLeg (freeHeldLeg c.bReservation s)).legsFreed
  rw [leg_heldFreed]
  rcases held with reservation | tie
  · refine later.stays_free ?_
    rw [reservation, freeHeldLeg, leg_freeTheLeg, if_pos rfl]
  · have first := (freeHeldLeg_freesOne c.bReservation s).legsFreed
    have stamp : ((freeHeldLeg c.bReservation s).leg k).stamp = (s.leg k).stamp := by
      rcases first.leg k with same | freed
      · rw [same]
      · rw [freed]
    rw [tie, freeHeldLeg, leg_freeTheLeg, if_pos rfl, stamp]

end

/-! ### The removal as a whole -/

theorem calleeClosed_freesOne (c : Call) (before s : State) : FreesOne
    (fun k => ∃ i, c.b = .extension i ∧ (s.entry i).ownedLeg = some k ∧ (s.entry i).stack = []) s (calleeClosed c before s) := by
  unfold calleeClosed
  cases b : c.b with
  | extension i =>
    rcases closeIfEmptied_freesOne i (before.entry i).stack c.ref s with same | ⟨k, both, freed⟩
    · exact .inl same
    · exact .inr ⟨k, ⟨i, rfl, both⟩, freed⟩
  | _ => exact .inl rfl

/-- A removal up to its last two steps, with the records of its parties' stacks left and the call's own legs freed. -/
def legsHeldFreed (c : Call) (s : State) : State := heldFreed c (stacksLeft c s)

/-- A removal with the caller's RESERVED leg released, and its leg closed with its last call. -/
def callerClosed (c : Call) (s : State) : State :=
  closeIfEmptied c.a (s.entry c.a).stack c.ref (releaseCallerLeg c.a (legsHeldFreed c s))

section
variable (c : Call) (s : State)

theorem callRemoved_stages : callRemoved c s = { calleeClosed c s (callerClosed c s) with
    calls := (calleeClosed c s (callerClosed c s)).calls.filter (fun x => x.ref != c.ref) } := callRemoved_eq c s

theorem legsHeldFreed_legsFreed : LegsFreed s (legsHeldFreed c s) :=
  (stacksLeft_legsFreed c s).trans (heldFreed_legsFreed c _)

theorem callerClosed_legsFreed : LegsFreed (legsHeldFreed c s) (callerClosed c s) :=
  (releaseCallerLeg_freesOne c.a (legsHeldFreed c s)).legsFreed.trans (closeIfEmptied_freesOne c.a _ c.ref _).legsFreed

theorem callRemoved_legsFreed_last : LegsFreed (callerClosed c s) (callRemoved c s) := by
  rw [callRemoved_stages]
  exact (calleeClosed_freesOne c s (callerClosed c s)).legsFreed.trans (.of_same (fun _ => rfl) (fun _ => rfl) fun _ => rfl)

theorem callRemoved_legsFreed : LegsFreed s (callRemoved c s) :=
  ((legsHeldFreed_legsFreed c s).trans (callerClosed_legsFreed c s)).trans (callRemoved_legsFreed_last c s)

theorem callerClosed_ownedOnly : OwnedOnly (stacksLeft c s) (callerClosed c s) :=
  ((heldFreed_ownedOnly c _).trans (releaseCallerLeg_freesOne c.a (legsHeldFreed c s)).ownedOnly).trans
    (closeIfEmptied_freesOne c.a _ c.ref _).ownedOnly

theorem callRemoved_ownedOnly : OwnedOnly (stacksLeft c s) (callRemoved c s) := by
  rw [callRemoved_stages]
  exact (callerClosed_ownedOnly c s).trans ((calleeClosed_freesOne c s (callerClosed c s)).ownedOnly.trans fun _ => rfl)

theorem entry_callRemoved_of_party {i : Nat} (party : c.HasParty i) : (callRemoved c s).entry i = { s.entry i with
    stack := (s.entry i).stack.filter (fun x => x.call != c.ref), ownedLeg := ((callRemoved c s).entry i).ownedLeg } := by
  rw [callRemoved_ownedOnly c s i, entry_stacksLeft_of_party party]

theorem entry_callRemoved_of_apart {i : Nat} (apart : ¬ c.HasParty i) : (callRemoved c s).entry i =
    { s.entry i with ownedLeg := ((callRemoved c s).entry i).ownedLeg } := by
  rw [callRemoved_ownedOnly c s i, entry_stacksLeft_of_apart apart]

theorem callRemoved_callRecords : CallRecordsOnly s (callRemoved c s) := by
  have left : CallRecordsOnly s (stacksLeft c s) := by
    unfold stacksLeft
    cases c.b <;> rfl
  have held : CallRecordsOnly (stacksLeft c s) (legsHeldFreed c s) := by
    refine ((freeHeldLeg_freesOne c.bReservation _).callRecords.trans (freeHeldLeg_freesOne c.tieLeg _).callRecords).trans ?_
    unfold legsHeldFreed heldFreed
    cases c.b <;> rfl
  have closed : CallRecordsOnly (legsHeldFreed c s) (callerClosed c s) :=
    (releaseCallerLeg_freesOne c.a _).callRecords.trans (closeIfEmptied_freesOne c.a _ c.ref _).callRecords
  refine ((left.trans held).trans closed).trans ((calleeClosed_freesOne c s _).callRecords.trans ?_)
  rw [callRemoved_stages]
  rfl

end

end Sys2Proof.Machine
end

section
/-! PROOFS. Which legs a removal frees, END and the grace expiry (O33) -/

namespace Sys2Proof.Machine

/-! ### Which legs a removal frees -/

/-- Entry `i` owns leg `k`, and no other leg has it for its owner. -/
structure State.OwnsAlone (s : State) (i k : Nat) : Prop where
  owned : (s.entry i).ownedLeg = some k
  owner : (s.leg k).use.owner? = some (.extension i)
  alone : ∀ l < 48, l ≠ k → (s.leg l).use.owner? ≠ some (.extension i)

theorem LegsFreed.freed_of_ne {s u : State} (h : LegsFreed s u) {i k : Nat} (owner : (s.leg k).use.owner? = some (.extension i))
    (other : u.leg k ≠ s.leg k) : u.leg k = ⟨(s.leg k).stamp, .free⟩ ∧ (u.entry i).ownedLeg = none ∧
      ∀ w o, (s.leg k).use = .opened w o → o.channel < 128 → u.routing o.channel = .clear :=
  ⟨h.free_of_ne other, h.disowned k i owner other, fun w o use => h.cleared k w o use other⟩

/-- A FREE leg is not one that an extension owns. -/
theorem leg_ne_of_owner {s : State} {k : Nat} {w : Owner} {stamp : Byte} (owner : (s.leg k).use.owner? = some w) :
    (⟨stamp, .free⟩ : Leg) ≠ s.leg k := by
  intro same
  rw [← same] at owner
  cases owner

section
variable {c : Call} {s : State} {i k : Nat}

theorem stack_legsHeldFreed_of_party (party : c.HasParty i) :
    ((legsHeldFreed c s).entry i).stack = (s.entry i).stack.filter (fun x => x.call != c.ref) := by
  rw [legsHeldFreed, heldFreed_ownedOnly c _ i, entry_stacksLeft_of_party party]

theorem stack_callerClosed_of_party (party : c.HasParty i) :
    ((callerClosed c s).entry i).stack = (s.entry i).stack.filter (fun x => x.call != c.ref) := by
  rw [callerClosed_ownedOnly c s i, entry_stacksLeft_of_party party]

theorem legsHeldFreed_calls : (legsHeldFreed c s).calls = s.calls := by
  have left : (stacksLeft c s).calls = s.calls := by
    unfold stacksLeft
    cases c.b <;> rfl
  rw [legsHeldFreed, heldFreed_calls, left]

/-- The caller hears no call any more: no other call on its stack is ALERTING. -/
theorem alertsOn_legsHeldFreed_iff : (legsHeldFreed c s).alertsOn c.a ↔
    ∃ x ∈ (s.entry c.a).stack, x.call ≠ c.ref ∧ ∃ y, s.call x.call = some y ∧ y.state = .alerting := by
  simp only [State.alertsOn, stack_legsHeldFreed_of_party (.inl rfl), State.call, legsHeldFreed_calls, List.mem_filter, bne_iff_ne,
    and_assoc]

/-- The caller's RESERVED leg is released when no call left on its stack is ALERTING. -/
theorem leg_callRemoved_of_quiet (alone : s.OwnsAlone c.a k) (reserved : (s.leg k).use.isReserved = true)
    (quiet : ∀ x ∈ (s.entry c.a).stack, x.call ≠ c.ref → ∀ y, s.call x.call = some y → y.state ≠ .alerting) :
    (callRemoved c s).leg k ≠ s.leg k := by
  have held := legsHeldFreed_legsFreed c s
  have later := (callerClosed_legsFreed c s).trans (callRemoved_legsFreed_last c s)
  by_cases kept : (legsHeldFreed c s).leg k = s.leg k
  · have quietNow : ¬ (legsHeldFreed c s).alertsOn c.a := by
      rw [alertsOn_legsHeldFreed_iff]
      rintro ⟨x, hx, other, y, found, alerts⟩
      exact quiet x hx other y found alerts
    have released := releaseCallerLeg_of_owned (held.owned_of_kept alone.owned alone.alone kept) (by rw [kept]; exact reserved) quietNow
    have rest := (closeIfEmptied_freesOne c.a (s.entry c.a).stack c.ref (releaseCallerLeg c.a (legsHeldFreed c s))).legsFreed.trans
      (callRemoved_legsFreed_last c s)
    rw [rest.stays_free (by rw [released, leg_freeTheLeg, if_pos rfl])]
    exact leg_ne_of_owner alone.owner
  · exact held.ne_trans later kept

/-- The leg of a party whose last call this was is freed. -/
theorem leg_callRemoved_of_last (party : c.HasParty i) (alone : s.OwnsAlone i k)
    (stood : ∃ x ∈ (s.entry i).stack, x.call = c.ref) (last : ∀ x ∈ (s.entry i).stack, x.call = c.ref) :
    (callRemoved c s).leg k ≠ s.leg k := by
  have onIt : onStack c.ref (s.entry i).stack = true := by
    obtain ⟨x, hx, same⟩ := stood
    exact List.any_eq_true.mpr ⟨x, hx, by simp [same]⟩
  have empty : (s.entry i).stack.filter (fun x => x.call != c.ref) = [] :=
    List.filter_eq_nil_iff.mpr fun x hx => by simp [last x hx]
  have owner := alone.owner
  rcases party with caller | callee
  · subst caller
    have before := (legsHeldFreed_legsFreed c s).trans (releaseCallerLeg_freesOne c.a (legsHeldFreed c s)).legsFreed
    have emptied : ((releaseCallerLeg c.a (legsHeldFreed c s)).entry c.a).stack = [] := by
      rw [(releaseCallerLeg_freesOne c.a (legsHeldFreed c s)).ownedOnly c.a]
      exact (stack_legsHeldFreed_of_party (.inl rfl)).trans empty
    by_cases kept : (releaseCallerLeg c.a (legsHeldFreed c s)).leg k = s.leg k
    · have closed := closeIfEmptied_of_emptied (before.owned_of_kept alone.owned alone.alone kept) onIt emptied
      rw [(callRemoved_legsFreed_last c s).stays_free (by rw [callerClosed, closed, leg_freeTheLeg, if_pos rfl])]
      exact leg_ne_of_owner owner
    · exact before.ne_trans ((closeIfEmptied_freesOne c.a _ c.ref _).legsFreed.trans (callRemoved_legsFreed_last c s)) kept
  · have before := (legsHeldFreed_legsFreed c s).trans (callerClosed_legsFreed c s)
    by_cases kept : (callerClosed c s).leg k = s.leg k
    · have closed : calleeClosed c s (callerClosed c s) = freeTheLeg k (callerClosed c s) := by
        rw [calleeClosed, callee]
        exact closeIfEmptied_of_emptied (before.owned_of_kept alone.owned alone.alone kept) onIt
          ((stack_callerClosed_of_party (.inr callee)).trans empty)
      have leg : (callRemoved c s).leg k = (freeTheLeg k (callerClosed c s)).leg k := by
        rw [callRemoved_stages, closed]
        rfl
      rw [leg, leg_freeTheLeg, if_pos rfl]
      exact leg_ne_of_owner owner
    · exact before.ne_trans (callRemoved_legsFreed_last c s) kept

/-- A leg that is not the call's own is freed only as the leg of a party: the caller's released, or a party's closed. -/
theorem leg_callRemoved_of_apart (noReservation : c.bReservation ≠ some k) (noTie : c.tieLeg ≠ some k)
    (caller : (s.entry c.a).ownedLeg = some k → (∃ x ∈ (s.entry c.a).stack, x.call ≠ c.ref) ∧
      ((s.leg k).use.isReserved = true →
        ∃ x ∈ (s.entry c.a).stack, x.call ≠ c.ref ∧ ∃ y, s.call x.call = some y ∧ y.state = .alerting))
    (callee : ∀ i, c.b = .extension i → (s.entry i).ownedLeg = some k → ∃ x ∈ (s.entry i).stack, x.call ≠ c.ref) :
    (callRemoved c s).leg k = s.leg k := by
  have left : (stacksLeft c s).leg k = s.leg k := by
    unfold stacksLeft
    cases c.b <;> rfl
  have held : (legsHeldFreed c s).leg k = s.leg k := by
    rw [legsHeldFreed, leg_heldFreed_of_apart c _ noReservation noTie, left]
  have freed := legsHeldFreed_legsFreed c s
  have released : (releaseCallerLeg c.a (legsHeldFreed c s)).leg k = s.leg k := by
    refine ((releaseCallerLeg_freesOne c.a _).leg_of_apart ?_).trans held
    rintro ⟨owned, reserved, quiet⟩
    by_cases ownedFirst : (s.entry c.a).ownedLeg = some k
    · rw [held] at reserved
      exact quiet (alertsOn_legsHeldFreed_iff.mpr ((caller ownedFirst).2 reserved))
    · exact freed.not_owned ownedFirst owned
  have releasedFreed := freed.trans (releaseCallerLeg_freesOne c.a (legsHeldFreed c s)).legsFreed
  have closed : (callerClosed c s).leg k = s.leg k := by
    refine ((closeIfEmptied_freesOne c.a _ c.ref _).leg_of_apart ?_).trans released
    rintro ⟨owned, empty⟩
    by_cases ownedFirst : (s.entry c.a).ownedLeg = some k
    · obtain ⟨x, hx, other⟩ := (caller ownedFirst).1
      rw [(releaseCallerLeg_freesOne c.a (legsHeldFreed c s)).ownedOnly c.a] at empty
      rw [show ((legsHeldFreed c s).entry c.a).stack = _ from stack_legsHeldFreed_of_party (.inl rfl)] at empty
      exact absurd (List.filter_eq_nil_iff.mp empty x hx) (by simpa using other)
    · exact releasedFreed.not_owned ownedFirst owned
  have closedFreed := freed.trans (callerClosed_legsFreed c s)
  rw [callRemoved_stages]
  refine ((calleeClosed_freesOne c s _).leg_of_apart ?_).trans closed
  rintro ⟨i, b, owned, empty⟩
  by_cases ownedFirst : (s.entry i).ownedLeg = some k
  · obtain ⟨x, hx, other⟩ := callee i b ownedFirst
    rw [stack_callerClosed_of_party (.inr b)] at empty
    exact absurd (List.filter_eq_nil_iff.mp empty x hx) (by simpa using other)
  · exact closedFreed.not_owned ownedFirst owned

end

/-! ### END and the grace expiry -/

theorem removeCall_of_call {s : State} {r : Nat} {c : Call} (found : s.call r = some c) :
    removeCall r none s = evaluateCalls (callRemoved c s) := by
  rw [removeCall, found]
  exact takeOut_eq c s

theorem removeCall_of_reason {s : State} {r : Nat} {c : Call} (found : s.call r = some c) (why : Reason) :
    removeCall r (some why) s = removeCall r none (queueReport (.callEnded r why c.a c.b c.state) s) := by
  have same : (queueReport (.callEnded r why c.a c.b c.state) s).call r = some c := by
    rw [State.call, show (queueReport (.callEnded r why c.a c.b c.state) s).calls = s.calls by simp]
    exact found
  rw [removeCall_of_call same, removeCall, found]
  obtain rfl := (mem_of_call found).2
  exact takeOut_eq c _

theorem calls_callRemoved (c : Call) (s : State) : (callRemoved c s).calls = s.calls.filter (fun x => x.ref != c.ref) :=
  (callRemoved_frame c s).2.2.2.2

theorem call_removeCall {s : State} {r : Nat} {c : Call} (found : s.call r = some c) : (removeCall r none s).call r = none := by
  obtain rfl := (mem_of_call found).2
  rw [removeCall_of_call found, State.call, evaluateCalls_calls, calls_callRemoved, List.find?_eq_none]
  intro y hy
  obtain ⟨x, hx, rfl⟩ := List.mem_map.mp hy
  have other : x.ref ≠ c.ref := by simpa using (List.mem_filter.mp hx).2
  simpa [evaluateCall_keeps] using other

/-- A TRUNK call without legs leaves its caller's stack, its group's count and the table. -/
theorem callRemoved_of_plain {c : Call} {s : State} {g : Nat} (b : c.b = .group g) (noTie : c.tieLeg = none)
    (noReservation : c.bReservation = none) (noLeg : (s.entry c.a).ownedLeg = none) : callRemoved c s =
      { (s.setEntry c.a { s.entry c.a with stack := (s.entry c.a).stack.filter (fun x => x.call != c.ref) }).setGroup g
          { s.group g with active := (s.group g).active - 1 } with
        calls := s.calls.filter (fun x => x.ref != c.ref) } := by
  have held : legsHeldFreed c s = (leaveStack c.ref c.a s).setGroup g { s.group g with active := (s.group g).active - 1 } := by
    rw [legsHeldFreed, heldFreed, stacksLeft, b, noTie, noReservation]
    rfl
  have noneOwned : ((legsHeldFreed c s).entry c.a).ownedLeg = none := by
    rcases (legsHeldFreed_legsFreed c s).owned c.a with same | ⟨none, -⟩
    · rw [same, noLeg]
    · exact none
  have released : releaseCallerLeg c.a (legsHeldFreed c s) = legsHeldFreed c s := by
    rw [releaseCallerLeg, noneOwned]
  have closed : callerClosed c s = legsHeldFreed c s := by
    rw [callerClosed, released, closeIfEmptied, noneOwned]
    split <;> rfl
  rw [callRemoved_stages, calleeClosed, b, closed, held]
  rfl

/-- Settles O33: END and the grace expiry by their tests, and the removal from its steps. -/
theorem callsAreRemoved : Obligations.CallsAreRemoved := by
  refine ⟨fun s j tag call hs => ⟨fun zero => request_answered hs (if_pos zero), fun some none => request_answered hs ?_⟩,
    fun s r c found => ?_⟩
  · rw [takeEnd, if_neg some, none]
    rfl
  · obtain rfl := (mem_of_call found).2
    have ends : ∀ j tag (call : Word), s.freeSlot = some j → call.toNat = c.ref → 1 ≤ c.ref →
        exec (.endCall tag call) s = .next (answered j 24 tag .ok [] (removeCall c.ref none s)) := fun j tag call hs ref low =>
      request_answered hs (by
        have some : call ≠ 0 := by
          rintro rfl
          simp at ref
          omega
        rw [takeEnd, if_neg some, ref, found]
        rfl)
    refine ⟨fun j tag call g hs ref low b noTie noReservation noLeg => ?_, ends, fun running ran => ?_, fun running wait => ?_,
      removeCall_of_reason found, call_removeCall found, callRemoved c s, removeCall_of_call found, ?_, ?_, ?_, ?_, ?_, ?_, ?_, ?_,
      ?_⟩
    · rw [ends j tag call hs ref low, removeCall_of_call found, callRemoved_of_plain b noTie noReservation noLeg]
    · exact event_taken (expireGrace c.ref) running (by rw [expireGrace, found]; exact if_pos ((ranOut_iff _).mpr ran))
    · exact event_taken (expireGrace c.ref) running (by rw [expireGrace, found]; exact if_neg (mt (ranOut_iff _).mp wait))
    · rw [← calls_callRemoved]
      exact callRemoved_callRecords c s
    · exact fun i => ⟨entry_callRemoved_of_party c s, entry_callRemoved_of_apart c s⟩
    · exact callRemoved_group c s
    · intro k held
      have free : (callRemoved c s).leg k = ⟨(s.leg k).stamp, .free⟩ := by
        have stamp : (stacksLeft c s).leg k = s.leg k := by
          unfold stacksLeft
          cases c.b <;> rfl
        rw [← stamp]
        exact ((callerClosed_legsFreed c s).trans (callRemoved_legsFreed_last c s)).stays_free (leg_heldFreed_of_held c _ held)
      refine ⟨free, fun w o use inRange => (callRemoved_legsFreed c s).cleared k w o use ?_ inRange⟩
      rw [free]
      exact leg_ne_of_owner (congrArg LegUse.owner? use)
    · intro k ⟨owned, owner, alone⟩ reserved quiet
      exact (callRemoved_legsFreed c s).freed_of_ne owner
        (leg_callRemoved_of_quiet ⟨owned, owner, alone⟩ (by rw [reserved]; rfl) quiet)
    · intro i k party ⟨owned, owner, alone⟩ stood last
      exact (callRemoved_legsFreed c s).freed_of_ne owner (leg_callRemoved_of_last party ⟨owned, owner, alone⟩ stood last)
    · intro i k party ⟨owned, owner, alone⟩ noOther noReservation noTie ⟨x, hx, other, alerts⟩
      have kept : (callRemoved c s).leg k = s.leg k := by
        refine leg_callRemoved_of_apart noReservation noTie (fun callerOwns => ?_) fun l b calleeOwns => ?_
        · obtain rfl : c.a = i := by
            by_contra apart
            exact noOther c.a apart callerOwns
          refine ⟨⟨x, hx, other⟩, fun reserved => ⟨x, hx, other, ?_⟩⟩
          cases use : (s.leg k).use with
          | reserved w => exact alerts w use
          | _ => simp [use, LegUse.isReserved] at reserved
        · obtain rfl : l = i := by
            by_contra apart
            exact noOther l apart calleeOwns
          exact ⟨x, hx, other⟩
      exact ⟨kept, (callRemoved_legsFreed c s).owned_of_kept owned alone kept⟩
    · intro k noReservation noTie noParty
      exact leg_callRemoved_of_apart noReservation noTie (fun callerOwns => absurd callerOwns (noParty c.a (.inl rfl)))
        fun l b calleeOwns => absurd calleeOwns (noParty l (.inr b))
    · intro d kept
      rcases (callRemoved_legsFreed c s).routing d with same | ⟨-, k, o, opened, channel, other⟩
      · exact same
      · exact absurd (kept k o opened channel) other

end Sys2Proof.Machine
end

section
/-! PROOFS. The removals of an entry's calls, one after another -/

namespace Sys2Proof.Machine

/-! ### One removal among several -/

theorem evaluateCall_eq (s : State) (c : Call) : s.evaluateCall c =
    { c with status := (s.evaluateCall c).status, grace := (s.evaluateCall c).grace } := by
  unfold State.evaluateCall
  split <;> rfl

theorem call_evaluateCalls (s : State) (r : Nat) : (evaluateCalls s).call r = (s.call r).map s.evaluateCall := by
  rw [State.call, State.call, evaluateCalls_calls, List.find?_map]
  refine congrArg (fun p => (s.calls.find? p).map s.evaluateCall) (funext fun c => ?_)
  simp [evaluateCall_keeps]

theorem find_filter_ref (l : List Call) (r r' : Nat) : (l.filter (fun x => x.ref != r)).find? (fun x => x.ref == r') =
    if r' = r then none else l.find? (fun x => x.ref == r') := by
  induction l with
  | nil => simp
  | cons x l ih => grind

/-- A removal with a reason, where the call stands. -/
theorem removeCall_step {s : State} {r : Nat} {c : Call} (found : s.call r = some c) (why : Reason) :
    removeCall r (some why) s = evaluateCalls (callRemoved c (queueReport (.callEnded r why c.a c.b c.state) s)) := by
  have same : (queueReport (.callEnded r why c.a c.b c.state) s).call r = some c := by
    rw [State.call, show (queueReport (.callEnded r why c.a c.b c.state) s).calls = s.calls by simp]
    exact found
  rw [removeCall_of_reason found, removeCall_of_call same]

theorem removeCall_of_none {s : State} {r : Nat} (none : s.call r = none) (why : Option Reason) : removeCall r why s = s := by
  rw [removeCall, none]

section
variable {s : State} {r : Nat} {c : Call} (found : s.call r = some c) (why : Reason)
include found

theorem leg_removeCall (k : Nat) : (removeCall r (some why) s).leg k =
    (callRemoved c (queueReport (.callEnded r why c.a c.b c.state) s)).leg k := by
  rw [removeCall_step found, leg_evaluateCalls]

theorem entry_removeCall (i : Nat) : (removeCall r (some why) s).entry i =
    (callRemoved c (queueReport (.callEnded r why c.a c.b c.state) s)).entry i := by
  rw [removeCall_step found, entry_evaluateCalls]

theorem removeCall_legsFreed : LegsFreed s (removeCall r (some why) s) := by
  have reported : LegsFreed s (queueReport (.callEnded r why c.a c.b c.state) s) :=
    .of_same (leg_queueReport _ s) (fun i => by rw [entry_queueReport]) fun d => by simp only [State.routing, queueReport_keeps]
  rw [removeCall_step found]
  refine (reported.trans (callRemoved_legsFreed c _)).trans (.of_same (leg_evaluateCalls _) (fun i => ?_) fun d => ?_)
  · rw [entry_evaluateCalls]
  · simp only [State.routing, evaluateCalls_keeps]

theorem calls_removeCall : ∃ f : Call → Call, (∀ x, f x = { x with status := (f x).status, grace := (f x).grace }) ∧
    (removeCall r (some why) s).calls = (s.calls.filter (fun x => x.ref != r)).map f := by
  refine ⟨(callRemoved c (queueReport (.callEnded r why c.a c.b c.state) s)).evaluateCall, evaluateCall_eq _, ?_⟩
  obtain rfl := (mem_of_call found).2
  rw [removeCall_step found, evaluateCalls_calls, calls_callRemoved]
  simp only [queueReport_keeps]

end

/-! ### The removals of an entry's calls -/

/-- The two parties of a call. -/
def Call.parties (c : Call) : Nat × BParty := (c.a, c.b)

/-- Whether entry `l` is a party of the call of reference `r`. -/
def State.partyOf (s : State) (l r : Nat) : Bool :=
  match s.call r with
  | some c => c.a == l || c.b == .extension l
  | none => false

theorem partyOf_of_call {s : State} {r : Nat} {c : Call} (found : s.call r = some c) (l : Nat) :
    s.partyOf l r = true ↔ c.HasParty l := by
  simp [State.partyOf, found, Call.HasParty]

theorem hasParty_congr {c d : Call} (h : c.parties = d.parties) (l : Nat) : c.HasParty l ↔ d.HasParty l := by
  obtain ⟨a, b⟩ := Prod.mk.inj h
  rw [Call.HasParty, Call.HasParty, a, b]

/-- The state `u` comes from `s` by the removal of the calls that `gone` names, from the stack of entry `i`. -/
structure RemovedInPart (i : Nat) (s : State) (gone : List StackItem) (u : State) : Prop where
  legs : LegsFreed s u
  entry : ∀ l, u.entry l = { s.entry l with
    stack := (s.entry l).stack.filter (fun x => !(gone.any (fun y => y.call == x.call) && s.partyOf l x.call))
    ownedLeg := (u.entry l).ownedLeg }
  ended : ∀ y ∈ gone, u.call y.call = none
  parties : ∀ r, (∀ y ∈ gone, y.call ≠ r) → (u.call r).map Call.parties = (s.call r).map Call.parties
  stays : ∀ c ∈ s.calls, (∀ y ∈ gone, y.call ≠ c.ref) → ∃ d ∈ u.calls, d = { c with status := d.status, grace := d.grace }
  closed : ∀ k, s.OwnsAlone i k → (s.entry i).stack ≠ [] → (u.entry i).stack = [] → u.leg k ≠ s.leg k

theorem State.OwnsAlone.of_kept {s u : State} {i k : Nat} (alone : s.OwnsAlone i k) (freed : LegsFreed s u)
    (kept : u.leg k = s.leg k) : u.OwnsAlone i k where
  owned := freed.owned_of_kept alone.owned alone.alone kept
  owner := by rw [kept, alone.owner]
  alone l hl other owner := by
    have same := freed.kept_of_owner owner
    rw [same] at owner
    exact alone.alone l hl other owner

theorem RemovedInPart.refl (i : Nat) (s : State) : RemovedInPart i s [] s where
  legs := .refl s
  entry l := by simp
  ended y hy := absurd hy List.not_mem_nil
  parties r _ := rfl
  stays c hc _ := ⟨c, hc, rfl⟩
  closed k _ some none := absurd none some

theorem call_of_calls {s u : State} {r : Nat} {f : Call → Call}
    (keeps : ∀ x, f x = { x with status := (f x).status, grace := (f x).grace })
    (calls : u.calls = (s.calls.filter (fun x => x.ref != r)).map f) (r' : Nat) :
    u.call r' = if r' = r then none else (s.call r').map f := by
  have ref : ((fun x : Call => x.ref == r') ∘ f) = fun x => x.ref == r' := funext fun x => by
    rw [Function.comp_apply, keeps]
  rw [State.call, calls, List.find?_map, ref, find_filter_ref]
  split <;> rfl

theorem RemovedInPart.step {i : Nat} {s u : State} {gone : List StackItem} (h : RemovedInPart i s gone u) {x : StackItem} {c : Call}
    (stands : s.call x.call = some c) (party : c.HasParty i) (why : Reason) :
    RemovedInPart i s (gone ++ [x]) (removeCall x.call (some why) u) := by
  have restrict : ∀ {r : Nat}, (∀ y ∈ gone ++ [x], y.call ≠ r) → (∀ y ∈ gone, y.call ≠ r) ∧ x.call ≠ r := fun all =>
    ⟨fun y hy => all y (by simp [hy]), all x (by simp)⟩
  by_cases first : ∃ y ∈ gone, y.call = x.call
  · obtain ⟨y, hy, same⟩ := first
    have any : ∀ r, (gone ++ [x]).any (fun z => z.call == r) = gone.any (fun z => z.call == r) := fun r => by
      rw [List.any_append, List.any_cons, List.any_nil, Bool.or_false]
      cases here : x.call == r with
      | false => rw [Bool.or_false]
      | true =>
        rw [Bool.or_true, List.any_eq_true.mpr ⟨y, hy, by rw [same]; exact here⟩]
    rw [removeCall_of_none (same ▸ h.ended y hy)]
    refine ⟨h.legs, fun l => ?_, fun z hz => ?_, fun r other => h.parties r (restrict other).1,
      fun d hd other => h.stays d hd (restrict other).1, h.closed⟩
    · simp only [any]
      exact h.entry l
    · rcases List.mem_append.mp hz with hz | hz
      · exact h.ended z hz
      · rw [List.mem_singleton.mp hz, ← same]
        exact h.ended y hy
  · have fresh : ∀ y ∈ gone, y.call ≠ x.call := fun y hy same => first ⟨y, hy, same⟩
    have sameParties := h.parties x.call fresh
    rw [stands, Option.map_some] at sameParties
    obtain ⟨c', found, parties⟩ := Option.map_eq_some_iff.mp sameParties
    obtain ⟨f, keeps, calls⟩ := calls_removeCall found why
    have call := call_of_calls keeps calls
    have freed := removeCall_legsFreed found why
    have isParty : ∀ l, c'.HasParty l ↔ s.partyOf l x.call = true := fun l =>
      (hasParty_congr parties l).trans (partyOf_of_call stands l).symm
    have ref : c'.ref = x.call := (mem_of_call found).2
    have turn : ∀ l, (removeCall x.call (some why) u).entry l = { u.entry l with
        stack := if s.partyOf l x.call then (u.entry l).stack.filter (fun z => z.call != x.call) else (u.entry l).stack
        ownedLeg := ((removeCall x.call (some why) u).entry l).ownedLeg } := fun l => by
      rw [entry_removeCall found why l]
      by_cases here : s.partyOf l x.call = true
      · rw [if_pos here, entry_callRemoved_of_party c' _ ((isParty l).mpr here), entry_queueReport, ref]
      · rw [if_neg here, entry_callRemoved_of_apart c' _ (mt (isParty l).mp here), entry_queueReport]
    refine ⟨h.legs.trans freed, fun l => ?_, fun z hz => ?_, fun r other => ?_, fun d hd other => ?_, fun k alone some empty => ?_⟩
    · rw [turn l, h.entry l]
      refine congrArg (fun stack => ({ s.entry l with stack := stack, ownedLeg := _ } : Entry)) ?_
      dsimp only
      split
      next here =>
        rw [List.filter_filter]
        refine List.filter_congr fun z _ => ?_
        by_cases same : x.call = z.call
        · simp [same, same ▸ here]
        · have apart : (x.call == z.call) = false := beq_eq_false_iff_ne.mpr same
          have apart' : (z.call != x.call) = true := bne_iff_ne.mpr (Ne.symm same)
          simp [apart, apart']
      next here =>
        refine List.filter_congr fun z _ => ?_
        by_cases same : x.call = z.call
        · simp [same ▸ here]
        · have apart : (x.call == z.call) = false := beq_eq_false_iff_ne.mpr same
          simp [apart]
    · rw [call]
      rcases List.mem_append.mp hz with hz | hz
      · rw [if_neg (fresh z hz), h.ended z hz]
        rfl
      · rw [List.mem_singleton.mp hz, if_pos rfl]
    · obtain ⟨others, notThis⟩ := restrict other
      rw [call, if_neg (Ne.symm notThis), ← h.parties r others, Option.map_map]
      refine congrArg (fun g => (u.call r).map g) (funext fun y => ?_)
      rw [Function.comp_apply, keeps]
      rfl
    · obtain ⟨others, notThis⟩ := restrict other
      obtain ⟨e, he, same⟩ := h.stays d hd others
      refine ⟨f e, ?_, ?_⟩
      · rw [calls]
        refine List.mem_map_of_mem (List.mem_filter.mpr ⟨he, ?_⟩)
        rw [same]
        simpa using Ne.symm notThis
      · rw [keeps, same]
    · by_cases kept : u.leg k = s.leg k
      · have stood : (u.entry i).stack ≠ [] := fun none => h.closed k alone some none kept
        have here : s.partyOf i x.call = true := (partyOf_of_call stands i).mpr party
        rw [turn i, if_pos here] at empty
        have last : ∀ z ∈ (u.entry i).stack, z.call = x.call := fun z hz => by
          simpa using List.filter_eq_nil_iff.mp empty z hz
        obtain ⟨z, hz⟩ := List.exists_mem_of_ne_nil _ stood
        have aloneNow := alone.of_kept h.legs kept
        rw [← kept, leg_removeCall found why, ← leg_queueReport (.callEnded x.call why c'.a c'.b c'.state) u]
        refine leg_callRemoved_of_last ((isParty i).mpr here) ⟨?_, ?_, ?_⟩ ?_ ?_
        · rw [entry_queueReport]
          exact aloneNow.owned
        · rw [leg_queueReport]
          exact aloneNow.owner
        · intro l hl
          rw [leg_queueReport]
          exact aloneNow.alone l hl
        · exact ⟨z, by rw [entry_queueReport]; exact hz, by rw [ref]; exact last z hz⟩
        · intro y hy
          rw [entry_queueReport] at hy
          rw [ref]
          exact last y hy
      · exact h.legs.ne_trans freed kept

end Sys2Proof.Machine
end

section
/-! PROOFS. WITHDRAW: its reply, its report, and the end of every call of the entry (O20) -/

namespace Sys2Proof.Machine

/-! ### The withdrawal (R102, R103) -/

theorem State.QueueGrows.removeCall (r : Nat) (why : Reason) (s : State) : s.QueueGrows (removeCall r (some why) s) := by
  cases found : s.call r with
  | none =>
    rw [removeCall_of_none found]
    exact .refl s
  | some c =>
    rw [removeCall_step found]
    refine (State.QueueGrows.queueReport (.callEnded r why c.a c.b c.state) s).trans (.trans (.of_same ?_ ?_) (.evaluateCalls _))
    · rw [callRemoved_callRecords]
    · rw [callRemoved_callRecords]

theorem State.RepliesWait.removeCall (r : Nat) (why : Reason) (s : State) : s.RepliesWait (removeCall r (some why) s) := by
  cases found : s.call r with
  | none =>
    rw [removeCall_of_none found]
    exact .refl s
  | some c =>
    rw [removeCall_step found]
    refine (State.RepliesWait.queueReport (.callEnded r why c.a c.b c.state) s).trans
      (.trans (.of_same ?_ ?_ ?_) (.evaluateCalls _))
    · rw [callRemoved_callRecords]
    · rw [callRemoved_callRecords]
    · rw [callRemoved_callRecords]

/-- The removals of a list of calls, each of which stands in `s` with entry `i` for a party. -/
theorem callsWithdrawn_removes {i : Nat} {s : State} (rest : List StackItem)
    (parties : ∀ x ∈ rest, ∃ c, s.call x.call = some c ∧ c.HasParty i) :
    ∀ gone u, RemovedInPart i s gone u → RemovedInPart i s (gone ++ rest) (callsWithdrawn rest u) ∧
      u.QueueGrows (callsWithdrawn rest u) ∧ u.RepliesWait (callsWithdrawn rest u) := by
  induction rest with
  | nil => exact fun gone u h => ⟨by rw [List.append_nil]; exact h, .refl u, .refl u⟩
  | cons x rest ih =>
    intro gone u h
    obtain ⟨c, stands, party⟩ := parties x (by simp)
    obtain ⟨removed, grows, waits⟩ := ih (fun y hy => parties y (by simp [hy])) (gone ++ [x]) _ (h.step stands party .withdrawn)
    rw [List.append_assoc] at removed
    exact ⟨removed, (State.QueueGrows.removeCall _ _ u).trans grows, (State.RepliesWait.removeCall _ _ u).trans waits⟩

/-- A reply to a request that is not quiet is taken at once by an idle transmitter with no reply waiting. -/
theorem transmitting_answered {j : Nat} {kind tag : Byte} {st : Status} {body : List Byte} {s : State} (loud : tag ≠ 0)
    (idle : s.transmitting = none) (noReply : s.replyQueue = []) :
    (answered j kind tag st body s).transmitting = some (.reply ⟨some j, kind + 64, tag, st, body⟩) := by
  rw [answered, if_neg loud, formReply]
  have queued : (s.setSlot j (some ⟨kind, tag, none⟩)).replyQueue ++ [⟨some j, kind + 64, tag, st, body⟩] =
      [⟨some j, kind + 64, tag, st, body⟩] := by
    rw [show (s.setSlot j (some ⟨kind, tag, none⟩)).replyQueue = [] from noReply, List.nil_append]
  rw [transmitNext_of_reply (s := { s.setSlot j _ with replyQueue := _ }) idle queued]

theorem idle_answered_ok {j : Nat} {kind tag : Byte} {body : List Byte} {s : State} (idle : s.IdleHasNothingWaiting) :
    (answered j kind tag .ok body s).IdleHasNothingWaiting := by
  by_cases quiet : tag = 0
  · rw [answered, if_pos quiet, if_pos (.inl rfl)]
    exact idle
  · rw [answered, if_neg quiet]
    exact transmitNext_idle _

theorem LinkOnly.records {s t : State} (h : LinkOnly s t) : t.classes = s.classes ∧ t.routes = s.routes ∧ t.jobs = s.jobs ∧
    t.mode = s.mode ∧ t.lock = s.lock ∧ t.params = s.params ∧ t.deviceKey = s.deviceKey ∧
    t.challengeCounter = s.challengeCounter ∧ t.referenceCounter = s.referenceCounter := by
  rw [LinkOnly] at h
  rw [h]
  exact ⟨rfl, rfl, rfl, rfl, rfl, rfl, rfl, rfl, rfl⟩

/-- Settles O20: the reply, the withdrawal's report, and the removals of the entry's calls. -/
theorem withdrawalEndsTheCalls : Obligations.WithdrawalEndsTheCalls := by
  refine ⟨fun s j tag entry hs => ⟨fun high => request_answered hs (if_pos high), fun inRange other => request_answered hs ?_⟩,
    fun s j tag entry hs inRange admitted stands => ?_⟩
  · rw [takeWithdraw, if_neg (by omega), if_pos other, refuse_eq]
  · intro i e replied left ended t
    have hi : i ≤ 511 := inRange
    have link : LinkOnly s replied := .answered j 11 tag .ok _ s
    have repliedEntry : ∀ l, replied.entry l = s.entry l := fun l => entry_of_directory (congrArg State.directory link) l
    have leftEntry : left.entry i = { e with register := [], screening := false, interdigit := none, sk := none } :=
      entry_setEntry_self _ hi _
    have otherEntry : ∀ l, l ≠ i → left.entry l = s.entry l := fun l other => by
      rw [entry_setEntry_ne _ _ _ _ (Ne.symm other), entry_queueReport, repliedEntry]
    have repliedLegs := congrArg State.legs link
    have repliedCalls := congrArg State.calls link
    have leftLeg : ∀ k, left.leg k = s.leg k := fun k =>
      (leg_queueReport (.withdrawn i .host e.stack.length) replied k).trans (by rw [State.leg, State.leg, repliedLegs])
    have leftCalls : left.calls = s.calls := by
      have queued : left.calls = replied.calls := by simp [left, State.setEntry]
      exact queued.trans repliedCalls
    have leftCall : ∀ r, left.call r = s.call r := fun r => by rw [State.call, State.call, leftCalls]
    have parties : ∀ x ∈ e.stack, ∃ c, left.call x.call = some c ∧ c.HasParty i := fun x hx => by
      obtain ⟨c, found, party⟩ := stands x hx
      exact ⟨c, (leftCall _).trans found, party⟩
    obtain ⟨removed, grows, waits⟩ := callsWithdrawn_removes e.stack parties [] left (.refl i left)
    rw [List.nil_append] at removed
    change RemovedInPart i left e.stack ended at removed
    have partyOf : ∀ l r, left.partyOf l r = s.partyOf l r := fun l r => by rw [State.partyOf, State.partyOf, leftCall]
    have noneLeft : (left.entry i).stack.filter
        (fun x => !(e.stack.any (fun y => y.call == x.call) && left.partyOf i x.call)) = [] := by
      rw [leftEntry]
      refine List.filter_eq_nil_iff.mpr fun x hx => ?_
      obtain ⟨c, found, party⟩ := stands x hx
      have here : left.partyOf i x.call = true := (partyOf i x.call).trans ((partyOf_of_call found i).mpr party)
      have named : e.stack.any (fun y => y.call == x.call) = true := List.any_eq_true.mpr ⟨x, hx, by simp⟩
      simp [here, named]
    have endedEntry := removed.entry i
    rw [noneLeft, leftEntry] at endedEntry
    have emptied : (ended.entry i).stack = [] := congrArg Entry.stack endedEntry
    have tEntry : t.entry i = { ended.entry i with state := .enrolled } := entry_setEntry_self _ hi _
    have tOther : ∀ l, l ≠ i → t.entry l = ended.entry l := fun l other => entry_setEntry_ne _ _ _ _ (Ne.symm other)
    refine ⟨?_, fun loud idle noReply => ?_, ?_, fun k some owned owner alone => ?_, removed.ended, fun c hc apart => ?_,
      fun l other => ?_, ?_⟩
    · have handled : takeWithdraw entry s = (s, .nowThen .ok [byteOf e.stack.length] (withdrawEntry i .host .enrolled)) := by
        rw [takeWithdraw, if_neg (by omega), if_neg (by simp [admitted])]
      have taken := requestArrives_nowThen j 11 tag 2 (takeWithdraw entry) s s .ok _ _ hs (by decide) (.inr (by decide))
        (by decide) handled
      have begun : withdrawalBegun i .host replied = left := by rw [withdrawalBegun_eq, repliedEntry]
      have ends : callsEnded i .host replied = ended := by
        rw [callsEnded, begun, repliedEntry]
        rfl
      refine congrArg Host.Outcome.next (taken.trans ?_)
      exact (withdrawEntry_eq i .host .enrolled replied).trans (by rw [ends])
    · have sent : replied.transmitting = _ := transmitting_answered loud idle noReply
      have growsAll := ((State.QueueGrows.queueReport (.withdrawn i .host e.stack.length) replied).trans
        (u := left) (.of_same rfl rfl)).trans grows
      exact (growsAll (by rw [sent]; simp)).1.trans sent
    · rw [tEntry, endedEntry]
    · have freed := removed.legs.freed_of_ne (i := i) (k := k) (by rw [leftLeg]; exact owner) (removed.closed k
        ⟨by rw [leftEntry]; exact owned, by rw [leftLeg]; exact owner, fun l hl apart => by rw [leftLeg]; exact alone l hl apart⟩
        (by rw [leftEntry]; exact some) emptied)
      rw [leftLeg] at freed
      obtain ⟨free, disowned, cleared⟩ := freed
      exact ⟨free, by rw [tEntry]; exact disowned, cleared⟩
    · exact removed.stays c (by rw [leftCalls]; exact hc) apart
    · rw [tOther l other, removed.entry l, otherEntry l other]
      simp only [partyOf]
      rfl
    · have kept : t.classes = replied.classes ∧ t.routes = replied.routes ∧ t.jobs = replied.jobs ∧ t.mode = replied.mode ∧
          t.lock = replied.lock ∧ t.params = replied.params ∧ t.deviceKey = replied.deviceKey ∧
          t.challengeCounter = replied.challengeCounter ∧ t.referenceCounter = replied.referenceCounter ∧
          t.requestBuffer = replied.requestBuffer := by
        simp [t, ended, left, State.setEntry]
      obtain ⟨classes, routes, jobs, mode, lock, params, deviceKey, counter, reference, slots⟩ := kept
      have waitsAll := ((State.RepliesWait.queueReport (.withdrawn i .host e.stack.length) replied).trans
        (u := left) (.of_same rfl rfl rfl)).trans waits
      obtain ⟨classes', routes', jobs', mode', lock', params', deviceKey', counter', reference'⟩ := link.records
      exact ⟨classes.trans classes', routes.trans routes', jobs.trans jobs', mode.trans mode', lock.trans lock',
        params.trans params', deviceKey.trans deviceKey', counter.trans counter', reference.trans reference', slots,
        fun idle => (waitsAll (idle_answered_ok idle)).2⟩

end Sys2Proof.Machine
end

section
/-! PROOFS. The plans of an ANSWER, and the openings they stand for. -/

namespace Sys2Proof.Machine

/-! ### The plans of an ANSWER (R138, R139) -/

/-- The plan for an entry with its own leg, or without one. -/
def State.ownPlan (s : State) (i : Nat) : LegPlan := ((s.entry i).ownedLeg.map s.ownedPlan).getD .none

theorem callerPlan_eq (s : State) (c : Call) : s.callerPlan c = s.ownPlan c.a := by
  rw [State.callerPlan, State.ownPlan]
  cases (s.entry c.a).ownedLeg <;> rfl

theorem calleePlan_of_owned {s : State} {i m : Nat} (owned : (s.entry i).ownedLeg = some m) (c : Call) :
    s.calleePlan c i = s.ownPlan i := by
  rw [State.calleePlan, State.ownPlan, owned]
  rfl

theorem ownPlan_of_owned {s : State} {i m : Nat} (owned : (s.entry i).ownedLeg = some m) :
    s.ownPlan i = s.ownedPlan m := by
  rw [State.ownPlan, owned]
  rfl

theorem ownPlan_of_reserved {s : State} {i m : Nat} {w : Owner} (owned : (s.entry i).ownedLeg = some m)
    (use : (s.leg m).use = .reserved w) : s.ownPlan i = .openOwned m := by
  rw [ownPlan_of_owned owned, State.ownedPlan, use]

theorem ownPlan_of_opened {s : State} {i m : Nat} {w : Owner} {o : OpenLeg} (owned : (s.entry i).ownedLeg = some m)
    (use : (s.leg m).use = .opened w o) : s.ownPlan i = .already m o.channel := by
  rw [ownPlan_of_owned owned, State.ownedPlan, use]

/-- The plan passes the tests of R139 on its channel byte, and opens the leg of `p`. -/
structure LegPlan.Fits (s : State) (plan : LegPlan) (channel : Byte) (p : Option Opening) : Prop where
  opens : plan.opens = p.map (fun x => x.leg)
  given : ChannelOrNone channel
  same : plan.mismatches (channelOf channel) = false
  due : ∀ x, p = some x → x.channel = channel ∧ channel.toNat ≤ 127 ∧ s.ChannelFree channel

theorem channelOf_of_channel {channel : Byte} (h : channel.toNat ≤ 127) : channelOf channel = some channel.toNat :=
  if_neg (fun none => by simp [none] at h)

theorem mismatches_of_opens {plan : LegPlan} {k : Nat} (opens : plan.opens = some k) (channel : Option Nat) :
    plan.mismatches channel = false := by
  cases plan with
  | already => cases opens
  | _ => rfl

/-- A plan that opens a leg on a channel no leg is OPEN on. -/
theorem LegPlan.Fits.of_opens {s : State} {plan : LegPlan} {x : Opening} {channel : Byte} (opens : plan.opens = some x.leg)
    (on : x.channel = channel) (inRange : channel.toNat ≤ 127) (free : s.ChannelFree channel) :
    plan.Fits s channel (some x) :=
  ⟨opens, .inl inRange, mismatches_of_opens opens _, fun y hy => by
    cases hy
    exact ⟨on, inRange, free⟩⟩

/-- The plan of a party without a leg. -/
theorem LegPlan.Fits.of_none {s : State} {channel : Byte} (given : ChannelOrNone channel) :
    LegPlan.Fits s .none channel Option.none := ⟨rfl, given, rfl, fun _ h => by cases h⟩

theorem State.OwnLeg.fits {s : State} {i : Nat} {channel : Byte} {p : Option Opening} (h : s.OwnLeg i channel p) :
    (s.ownPlan i).Fits s channel p := by
  cases p with
  | some x =>
    obtain ⟨m, sk, owned, use, -, inRange, free, rfl⟩ := h
    rw [ownPlan_of_reserved owned use]
    exact .of_opens rfl rfl inRange free
  | none =>
    rcases h with ⟨noLeg, given⟩ | ⟨m, w, o, owned, use, same, inRange⟩
    · rw [State.ownPlan, noLeg]
      exact .of_none given
    · rw [ownPlan_of_opened owned use]
      refine ⟨rfl, .inl inRange, ?_, fun _ h => by cases h⟩
      rw [channelOf_of_channel inRange, LegPlan.mismatches, same, bne_self_eq_false]

/-- Whether call `y` is another ALERTING call to entry `b` that holds a B-side reservation (R138). -/
def Call.LendsTo (y c : Call) (b : Nat) : Prop :=
  y.ref ≠ c.ref ∧ y.state = .alerting ∧ y.b = .extension b ∧ y.bReservation ≠ none

/-- What a call lends to entry `b`: its B-side reservation, with its reference. -/
def Call.lends (c : Call) (b : Nat) (y : Call) : Option (Nat × Nat) :=
  if y.ref ≠ c.ref ∧ y.state = .alerting ∧ y.b = .extension b then y.bReservation.map (fun k => (k, y.ref)) else none

theorem lends_eq_none {y c : Call} {b : Nat} (h : ¬ y.LendsTo c b) : c.lends b y = none := by
  rw [Call.lends]
  split
  next other => rw [Option.map_eq_none_iff]; by_contra held; exact h ⟨other.1, other.2.1, other.2.2, held⟩
  next => rfl

theorem lends_of_lendsTo {y c : Call} {b k : Nat} (h : y.LendsTo c b) (held : y.bReservation = some k) :
    c.lends b y = some (k, y.ref) := by
  rw [Call.lends, if_pos ⟨h.1, h.2.1, h.2.2.1⟩, held]
  rfl

theorem otherReservation_eq (s : State) (c : Call) (b : Nat) : s.otherReservation c b = (s.calls.filterMap (c.lends b)).head? :=
  rfl

theorem otherReservation_of_none {s : State} {c : Call} {b : Nat} (h : ∀ y ∈ s.calls, ¬ y.LendsTo c b) :
    s.otherReservation c b = none := by
  rw [otherReservation_eq, List.filterMap_eq_nil_iff.mpr fun y hy => lends_eq_none (h y hy)]
  rfl

theorem otherReservation_of_first {s : State} {c x : Call} {b k : Nat} {before after : List Call}
    (split : s.calls = before ++ x :: after) (none : ∀ y ∈ before, ¬ y.LendsTo c b) (first : x.LendsTo c b)
    (held : x.bReservation = some k) : s.otherReservation c b = some (k, x.ref) := by
  rw [otherReservation_eq, split, List.filterMap_append, List.filterMap_eq_nil_iff.mpr fun y hy => lends_eq_none (none y hy),
    List.nil_append, List.filterMap_cons_some (lends_of_lendsTo first held)]
  rfl

section
variable {s : State} {c : Call} {b : Nat} (noLeg : (s.entry b).ownedLeg = none) (noOwn : c.bReservation = none)
include noLeg noOwn

theorem calleePlan_of_plain (plain : (s.entry b).secure = false) : s.calleePlan c b = .none := by
  simp only [State.calleePlan, noLeg, noOwn, plain]
  exact if_neg (by decide)

theorem calleePlan_of_lent (secure : (s.entry b).secure = true) {k other : Nat}
    (lent : s.otherReservation c b = some (k, other)) : s.calleePlan c b = .transferFrom k other := by
  simp only [State.calleePlan, noLeg, noOwn, secure, lent, if_true]

theorem calleePlan_of_unlent (secure : (s.entry b).secure = true) (unlent : s.otherReservation c b = none) :
    s.calleePlan c b = (s.freeLeg.map LegPlan.reserve).getD .none := by
  simp only [State.calleePlan, noLeg, noOwn, secure, unlent, if_true]
  cases s.freeLeg <;> rfl

/-- A callee for whom no leg is found gets none (R138). -/
theorem calleePlan_of_noLeg
    (found : (s.entry b).secure = false ∨ s.freeLegList = [] ∧ ∀ y ∈ s.calls, ¬ y.LendsTo c b) :
    s.calleePlan c b = .none := by
  cases secure : (s.entry b).secure with
  | false => exact calleePlan_of_plain noLeg noOwn secure
  | true =>
    obtain ⟨noFree, unlent⟩ := found.resolve_left (by simp [secure])
    rw [calleePlan_of_unlent noLeg noOwn secure (otherReservation_of_none unlent), freeLeg_eq, noFree]
    rfl

end

/-- How the callee's leg is found, and the plan that goes with it (R138). -/
theorem State.CalleeLeg.plan {s : State} {c : Call} {b k : Nat} {loser : Option Nat} (h : s.CalleeLeg c b k loser)
    (noLeg : (s.entry b).ownedLeg = none) :
    k < 48 ∧
    (s.calleePlan c b = .transfer k ∧ c.bReservation = some k ∧ (s.leg k).use = .reserved (.bSide c.ref) ∧ loser = none ∨
     (∃ x : Call, s.calleePlan c b = .transferFrom k x.ref ∧ c.bReservation = none ∧ x.ref ≠ c.ref ∧
        (s.leg k).use = .reserved (.bSide x.ref) ∧ loser = some x.ref) ∨
     s.calleePlan c b = .reserve k ∧ c.bReservation = none ∧ (s.leg k).use = .free ∧ loser = none) := by
  have inRange : ∀ {w}, (s.leg k).use = .reserved w → k < 48 := fun use => by
    by_contra high
    simp [leg_of_le s (Nat.le_of_not_lt high)] at use
  rcases h with ⟨own, use, lost⟩ | ⟨noOwn, secure, before, x, after, split, none, first, held, use, lost⟩ |
    ⟨noOwn, secure, none, hk, use, lower, lost⟩
  · refine ⟨inRange use, .inl ⟨?_, own, use, lost⟩⟩
    rw [State.calleePlan, noLeg, own]
  · refine ⟨inRange use, .inr (.inl ⟨x, ?_, noOwn, first.1, use, lost⟩)⟩
    exact calleePlan_of_lent noLeg noOwn secure (otherReservation_of_first split none first held)
  · refine ⟨hk, .inr (.inr ⟨?_, noOwn, use, lost⟩)⟩
    rw [calleePlan_of_unlent noLeg noOwn secure (otherReservation_of_none none), freeLeg_eq_some hk use lower]
    rfl

theorem State.CalleeLeg.opens {s : State} {c : Call} {b k : Nat} {loser : Option Nat} (h : s.CalleeLeg c b k loser)
    (noLeg : (s.entry b).ownedLeg = none) : (s.calleePlan c b).opens = some k := by
  rcases (h.plan noLeg).2 with ⟨plan, -⟩ | ⟨x, plan, -⟩ | ⟨plan, -⟩ <;> rw [plan, LegPlan.opens]

theorem bPlan_of_extension {c : Call} {b : Nat} (party : c.b = .extension b) (s : State) : s.bPlan c = s.calleePlan c b := by
  rw [State.bPlan, party]

theorem bPlan_of_service {c : Call} {code : Nat} (party : c.b = .service code) (s : State) : s.bPlan c = .none := by
  rw [State.bPlan, party]

theorem bPlan_of_group {c : Call} {g : Nat} (party : c.b = .group g) (s : State) :
    s.bPlan c = (c.tieLeg.map LegPlan.openOwned).getD .none := by
  rw [State.bPlan, party]
  cases c.tieLeg <;> rfl

theorem calleeRefusal_of_extension (s : State) (b : Nat) : s.calleeRefusal (.extension b) =
    if (s.entry b).state ≠ .admitted then some .calleeUnavailable
    else if s.stackLimit b ≤ (s.entry b).stack.length then some .calleeBusy
    else none := rfl

section
variable {s : State} {c : Call} {channel : Byte} {t : Long} {p : Option Opening} {loser released : Option Nat}

theorem State.FarLeg.of_extension {b : Nat} (h : s.FarLeg c channel t p loser released) (party : c.b = .extension b) :
    c.a ≠ b ∧ (s.entry b).state = .admitted ∧ (s.entry b).stack.length < (s.classRecord (s.entry b).cls).limit ∧
      ((∃ m, (s.entry b).ownedLeg = some m) ∧ s.OwnLeg b channel p ∧ loser = none ∧ released = c.bReservation ∧
          (∀ f, c.bReservation = some f → (s.leg f).use = .reserved (.bSide c.ref)) ∨
        (s.entry b).ownedLeg = none ∧ released = none ∧ channel.toNat ≤ 127 ∧ s.ChannelFree channel ∧
          (∃ k sk, s.CalleeLeg c b k loser ∧ (s.entry b).sk = some sk ∧ p = some (s.openingFor k b sk channel)) ∨
        (s.entry b).ownedLeg = none ∧ released = none ∧ ChannelOrNone channel ∧ p = none ∧ loser = none ∧
          c.bReservation = none ∧ s.calleePlan c b = .none) := by
  rw [State.FarLeg, party] at h
  refine ⟨h.1, h.2.1, h.2.2.1, h.2.2.2.imp (And.imp_left Option.ne_none_iff_exists'.mp) (Or.imp_right ?_)⟩
  rintro ⟨noLeg, kept, given, rfl, rfl, noOwn, found⟩
  exact ⟨noLeg, kept, given, rfl, rfl, noOwn, calleePlan_of_noLeg noLeg noOwn (found.imp_right (And.imp_right
    fun unlent y hy lends => lends.2.2.2 (unlent y hy lends.1 lends.2.1 lends.2.2.1)))⟩

theorem State.FarLeg.of_group {g : Nat} (h : s.FarLeg c channel t p loser released) (party : c.b = .group g) :
    loser = none ∧ released = none ∧ (c.tieLeg = none ∧ p = none ∧ ChannelOrNone channel ∨
      ∃ k key, c.tieLeg = some k ∧ (s.leg k).use = .reserved (.tieCall c.ref) ∧ (s.group g).tieKey = some key ∧
        channel.toNat ≤ 127 ∧ s.ChannelFree channel ∧ p = some (s.tieOpening k c.ref (s.group g) key t channel)) := by
  rw [State.FarLeg, party] at h
  exact h

theorem State.FarLeg.of_service {code : Nat} (h : s.FarLeg c channel t p loser released) (party : c.b = .service code) :
    p = none ∧ loser = none ∧ released = none ∧ ChannelOrNone channel := by
  rw [State.FarLeg, party] at h
  exact h

theorem State.FarLeg.fits (h : s.FarLeg c channel t p loser released) : (s.bPlan c).Fits s channel p := by
  cases party : c.b with
  | service code =>
    obtain ⟨rfl, -, -, given⟩ := h.of_service party
    exact bPlan_of_service party s ▸ .of_none given
  | group g =>
    rw [bPlan_of_group party]
    obtain ⟨-, -, ⟨noTie, rfl, given⟩ | ⟨k, key, tie, -, -, inRange, free, rfl⟩⟩ := h.of_group party
    · rw [noTie]
      exact .of_none given
    · rw [tie]
      exact .of_opens rfl rfl inRange free
  | extension b =>
    rw [bPlan_of_extension party]
    obtain ⟨-, -, -, ⟨⟨m, owned⟩, own, -⟩ | ⟨noLeg, -, inRange, free, k, sk, found, -, rfl⟩ |
      ⟨-, -, given, rfl, -, -, plan⟩⟩ := h.of_extension party
    · rw [calleePlan_of_owned owned]
      exact own.fits
    · exact .of_opens (found.opens noLeg) rfl inRange free
    · exact plan ▸ .of_none given

theorem State.FarLeg.callee (h : s.FarLeg c channel t p loser released) : s.calleeRefusal c.b = none := by
  cases party : c.b with
  | service code => rfl
  | group g => rfl
  | extension b =>
    obtain ⟨-, admitted, room, -⟩ := h.of_extension party
    rw [calleeRefusal_of_extension, if_neg (by simp [admitted])]
    exact if_neg (Nat.not_le.mpr room)

end

end Sys2Proof.Machine
end

section
/-! PROOFS. The tests of an ANSWER in their order. -/

namespace Sys2Proof.Machine

/-! ### The tests of an ANSWER (R139) -/

section
variable {s : State} {c : Call} {call : Word} {A B : Byte} {t : Long}

/-- The tests of an ANSWER before those of its channels. -/
structure AnswerReaches (s : State) (call : Word) (A B : Byte) (c : Call) : Prop where
  named : call ≠ 0
  givenA : ChannelOrNone A
  givenB : ChannelOrNone B
  control : s.mode ≠ .standalone
  found : s.call call.toNat = some c
  alerting : c.state = .alerting

theorem takeAnswer_of_found (named : call ≠ 0) (givenA : ChannelOrNone A) (givenB : ChannelOrNone B)
    (control : s.mode ≠ .standalone) (found : s.call call.toNat = some c) : takeAnswer call A B t s =
      if c.state ≠ .alerting then refuse .state s
      else match s.calleeRefusal c.b with
        | some st => refuse st s
        | none => match s.channelRefusal (s.callerPlan c) (s.bPlan c) (channelOf A) (channelOf B) with
          | some st => refuse st s
          | none =>
            let u := answerCall c (s.callerPlan c) (s.bPlan c) (channelOf A) (channelOf B) t s
            (u, .now .ok (wordBytes c.ref ++ [placeByte (s.callerPlan c).opens, placeByte (s.bPlan c).opens,
              (((u.call c.ref).map (fun x : Call => x.status)).getD .notSecure).code])) := by
  rw [takeAnswer, if_neg (by
      rintro (h | h | h)
      exacts [named h, channelOf_inRange givenA h, channelOf_inRange givenB h]), if_neg control, found] <;> rfl

namespace AnswerReaches
variable (h : AnswerReaches s call A B c)
include h

theorem refused_callee {st : Status} (callee : s.calleeRefusal c.b = some st) : takeAnswer call A B t s = (s, .now st []) := by
  rw [takeAnswer_of_found h.named h.givenA h.givenB h.control h.found, if_neg (by simp [h.alerting]), callee] <;> rfl

theorem refused_channel {st : Status} (callee : s.calleeRefusal c.b = none)
    (channels : s.channelRefusal (s.ownPlan c.a) (s.bPlan c) (channelOf A) (channelOf B) = some st) :
    takeAnswer call A B t s = (s, .now st []) := by
  rw [takeAnswer_of_found h.named h.givenA h.givenB h.control h.found, if_neg (by simp [h.alerting]), callee, callerPlan_eq]
  simp only [channels, refuse_eq]

theorem taken (callee : s.calleeRefusal c.b = none)
    (channels : s.channelRefusal (s.ownPlan c.a) (s.bPlan c) (channelOf A) (channelOf B) = none) :
    takeAnswer call A B t s = (answerCall c (s.ownPlan c.a) (s.bPlan c) (channelOf A) (channelOf B) t s,
      .now .ok (wordBytes c.ref ++ [byteOf ((s.ownPlan c.a).opens.getD 255), byteOf ((s.bPlan c).opens.getD 255),
        ((((answerCall c (s.ownPlan c.a) (s.bPlan c) (channelOf A) (channelOf B) t s).call c.ref).map
          (fun x => x.status.code)).getD 0)])) := by
  rw [takeAnswer_of_found h.named h.givenA h.givenB h.control h.found, if_neg (by simp [h.alerting]), callee, callerPlan_eq]
  simp only [channels]
  cases State.call _ c.ref <;> rfl

end AnswerReaches

/-! ### The tests of the channels -/

variable {pa pb : LegPlan} {x y : Option Opening}

theorem lacksChannel_none {plan : LegPlan} {p : Option Opening} (opens : plan.opens = p.map (fun x => x.leg)) :
    plan.lacksChannel none = p.isSome := by
  rw [LegPlan.lacksChannel, opens]
  cases p <;> rfl

theorem LegPlan.Fits.lacks {plan : LegPlan} {p : Option Opening} (fits : plan.Fits s A p) :
    plan.lacksChannel (channelOf A) = false := by
  rw [LegPlan.lacksChannel, fits.opens]
  cases p with
  | none => rfl
  | some z => rw [channelOf_of_channel (fits.due z rfl).2.1]; rfl

theorem LegPlan.Fits.unused {plan : LegPlan} {p : Option Opening} (fits : plan.Fits s A p) :
    s.planInUse plan (channelOf A) = false := by
  unfold State.planInUse
  rw [fits.opens]
  cases p with
  | none => rfl
  | some z =>
    obtain ⟨-, inRange, free⟩ := fits.due z rfl
    rw [channelOf_of_channel inRange]
    exact eq_false_of_ne_true fun used => (channelInUse_iff s A).mp used free

theorem planInUse_of_opens {plan : LegPlan} {k : Nat} (opens : plan.opens = some k) (inRange : A.toNat ≤ 127)
    (used : ¬ s.ChannelFree A) : s.planInUse plan (channelOf A) = true := by
  unfold State.planInUse
  rw [opens, channelOf_of_channel inRange]
  exact (channelInUse_iff s A).mpr used

theorem channelRefusal_of_lacking (lacks : pa.lacksChannel (channelOf A) = true ∨ pb.lacksChannel (channelOf B) = true) :
    s.channelRefusal pa pb (channelOf A) (channelOf B) = some .badField :=
  if_pos (by simpa using lacks)

theorem channelRefusal_of_mismatch (lacksA : pa.lacksChannel (channelOf A) = false)
    (lacksB : pb.lacksChannel (channelOf B) = false)
    (mismatch : pa.mismatches (channelOf A) = true ∨ pb.mismatches (channelOf B) = true) :
    s.channelRefusal pa pb (channelOf A) (channelOf B) = some .channelMismatch := by
  rw [State.channelRefusal, if_neg (by simp [lacksA, lacksB]), if_pos (by simpa using mismatch)]

theorem channelRefusal_of_given (lacksA : pa.lacksChannel (channelOf A) = false)
    (lacksB : pb.lacksChannel (channelOf B) = false) (sameA : pa.mismatches (channelOf A) = false)
    (sameB : pb.mismatches (channelOf B) = false) : s.channelRefusal pa pb (channelOf A) (channelOf B) =
      if s.planInUse pa (channelOf A) || s.planInUse pb (channelOf B) ||
        (pa.opens.isSome && pb.opens.isSome && channelOf A == channelOf B) then some .channelInUse else none := by
  rw [State.channelRefusal, if_neg (by simp [lacksA, lacksB]), if_neg (by simp [sameA, sameB])]

theorem channelRefusal_of_fits (fitsA : pa.Fits s A x) (fitsB : pb.Fits s B y) (apart : x ≠ none → y ≠ none → A ≠ B) :
    s.channelRefusal pa pb (channelOf A) (channelOf B) = none := by
  rw [channelRefusal_of_given fitsA.lacks fitsB.lacks fitsA.same fitsB.same, fitsA.unused, fitsB.unused]
  refine if_neg ?_
  rw [fitsA.opens, fitsB.opens]
  cases x with
  | none => simp
  | some x =>
    cases y with
    | none => simp
    | some y =>
      simpa [channelOf_of_channel (fitsA.due x rfl).2.1, channelOf_of_channel (fitsB.due y rfl).2.1, ← BitVec.toNat_inj] using
        apart (by simp) (by simp)

theorem lacksChannel_of_channel {plan : LegPlan} (inRange : A.toNat ≤ 127) : plan.lacksChannel (channelOf A) = false := by
  rw [LegPlan.lacksChannel, channelOf_of_channel inRange]
  exact Bool.and_false _

theorem mismatches_of_other {m channel : Nat} (other : channel ≠ A.toNat) :
    (LegPlan.already m channel).mismatches (channelOf A) = true := by
  rw [LegPlan.mismatches, channelOf]
  split <;> simp [Ne.symm other]

/-- A plan's test of lacking a channel when it is to open a leg. -/
theorem lacksChannel_of_opens {plan : LegPlan} {k : Nat} (opens : plan.opens = some k) :
    plan.lacksChannel (channelOf 255) = true := by
  rw [LegPlan.lacksChannel, opens]
  rfl

theorem inRange_of_given (given : ChannelOrNone A) (one : A ≠ 255) : A.toNat ≤ 127 := given.resolve_right one

namespace AnswerReaches
variable (h : AnswerReaches s call A B c) (callee : s.calleeRefusal c.b = none) {k : Nat}
include h callee

theorem refused_own_lacking (opens : (s.ownPlan c.a).opens = some k) (lacks : A = 255) :
    takeAnswer call A B t s = (s, .now .badField []) := by
  subst lacks
  exact h.refused_channel callee (channelRefusal_of_lacking (.inl (lacksChannel_of_opens opens)))

theorem refused_far_lacking (opens : (s.bPlan c).opens = some k) (lacks : B = 255) :
    takeAnswer call A B t s = (s, .now .badField []) := by
  subst lacks
  exact h.refused_channel callee (channelRefusal_of_lacking (.inr (lacksChannel_of_opens opens)))

theorem refused_own_mismatch (far : (s.bPlan c).Fits s B y) {m channel : Nat} (plan : s.ownPlan c.a = .already m channel)
    (other : channel ≠ A.toNat) : takeAnswer call A B t s = (s, .now .channelMismatch []) := by
  refine h.refused_channel callee (channelRefusal_of_mismatch ?_ far.lacks (.inl ?_))
  · rw [plan]
    rfl
  · rw [plan]
    exact mismatches_of_other other

theorem refused_far_mismatch (own : (s.ownPlan c.a).Fits s A x) {m channel : Nat} (plan : s.bPlan c = .already m channel)
    (other : channel ≠ B.toNat) : takeAnswer call A B t s = (s, .now .channelMismatch []) := by
  refine h.refused_channel callee (channelRefusal_of_mismatch own.lacks ?_ (.inr ?_))
  · rw [plan]
    rfl
  · rw [plan]
    exact mismatches_of_other other

theorem refused_own_inUse (far : (s.bPlan c).Fits s B y) (opens : (s.ownPlan c.a).opens = some k) (one : A ≠ 255)
    (used : ¬ s.ChannelFree A) : takeAnswer call A B t s = (s, .now .channelInUse []) := by
  have inRange := inRange_of_given h.givenA one
  refine h.refused_channel callee ?_
  rw [channelRefusal_of_given (lacksChannel_of_channel inRange) far.lacks (mismatches_of_opens opens _) far.same,
    if_pos (by simp [planInUse_of_opens opens inRange used])]

theorem refused_far_inUse (own : (s.ownPlan c.a).Fits s A x) (opens : (s.bPlan c).opens = some k) (one : B ≠ 255)
    (used : ¬ s.ChannelFree B ∨ x ≠ none ∧ A = B) : takeAnswer call A B t s = (s, .now .channelInUse []) := by
  have inRange := inRange_of_given h.givenB one
  refine h.refused_channel callee ?_
  rw [channelRefusal_of_given own.lacks (lacksChannel_of_channel inRange) own.same (mismatches_of_opens opens _), if_pos]
  rcases used with used | ⟨opensA, same⟩
  · simp [planInUse_of_opens opens inRange used]
  · obtain ⟨z, rfl⟩ := Option.ne_none_iff_exists'.mp opensA
    simp [own.opens, opens, same]

end AnswerReaches

end

end Sys2Proof.Machine
end

section
/-! PROOFS. Legs opened, one after another. -/

namespace Sys2Proof.Machine

/-! ### A leg opened (R54, R156) -/

/-- The record of a leg at its opening, before its jobs are offered. -/
def OpenLeg.atOpen (p : Params) (channel : Nat) (sk : Option Key) (outD inD : Nat) : OpenLeg :=
  ⟨channel, sk, false, false, outD, inD, Outbound.atOpen, Inbound.atOpen p⟩

/-- The record of a leg opened for an extension, its jobs queued or marked. -/
def OpenLeg.offeredAtOpen (p : Params) (channel : Nat) (sk : Key) (one two : Bool) : OpenLeg :=
  { OpenLeg.atOpen p channel (some sk) 0 1 with
    out := { Outbound.atOpen with keys := offered one DirectionKeys.atOpen }
    inb := { Inbound.atOpen p with keys := offered two DirectionKeys.atOpen } }

section
variable {s : State} {k : Nat} {channel : Nat}

theorem openTheLeg_of_extension {i : Nat} {sk : Key} (hk : k < 48) (hasKey : (s.entry i).sk = some sk)
    (one two : Bool) (queued : List Job) (places : (one, two, queued) = if s.jobs.length ≤ 30 then
        (true, true, s.jobs ++ [.epoch sk 0 k .outbound ((s.leg k).stamp + 1), .epoch sk 0 k .inbound ((s.leg k).stamp + 1)])
      else if s.jobs.length = 31 then (true, false, s.jobs ++ [.epoch sk 0 k .outbound ((s.leg k).stamp + 1)])
      else (false, false, s.jobs)) :
    openTheLeg k (.extension i) channel none s = withLegAndJobs k ⟨(s.leg k).stamp + 1, .opened (.extension i)
      (.offeredAtOpen s.params channel sk one two)⟩ queued (s.setRouting channel (.leg k)) := by
  have start : openTheLeg k (.extension i) channel none s = offerEpoch k .inbound (offerEpoch k .outbound (withLegAndJobs k
      ⟨(s.leg k).stamp + 1, .opened (.extension i) (OpenLeg.atOpen s.params channel (some sk) 0 1)⟩ s.jobs
      (s.setRouting channel (.leg k)))) := by
    rw [← hasKey]
    rfl
  exact start.trans (offerBoth_withLegAndJobs hk rfl rfl rfl rfl rfl rfl rfl one two queued places)

/-- The offer of a TIE SESSION job from a leg just written, for the jobs then in the queue. -/
theorem offerSession_withLegAndJobs {w : Owner} {o : OpenLeg} {stamp : Byte} {jobs : List Job} {key : Key} {t : Long} (hk : k < 48)
    (inputs : s.sessionInputsOf w = some (key, t)) (idle : o.sessionOutstanding = false) :
    offerSession k (withLegAndJobs k ⟨stamp, .opened w o⟩ jobs s) =
      withLegAndJobs k ⟨stamp, .opened w { o with
          sessionOutstanding := decide (jobs.length < 32)
          sessionWanted := !decide (jobs.length < 32) }⟩
        (if jobs.length < 32 then jobs ++ [.tieSession key t k stamp] else jobs) s := by
  have sameRecord : { o with sessionWanted := true } = { o with sessionOutstanding := false, sessionWanted := true } := by
    rw [← idle]
  have written := leg_withLegAndJobs (s := s) hk ⟨stamp, .opened w o⟩ jobs
  have use := congrArg Leg.use written
  have asInputs : (withLegAndJobs k ⟨stamp, .opened w o⟩ jobs s).sessionInputs k = some (key, t) :=
    (sessionInputs_of_use use).trans inputs
  simp only [offerSession, asInputs, updateOpen_of_use use, written]
  by_cases room : jobs.length < 32
  · rw [if_pos (by simpa using jobPlace_of_lt (s := withLegAndJobs k _ jobs s) room), if_pos room, decide_eq_true room]
    exact withLegAndJobs_twice ..
  · rw [if_neg (by simpa using not_jobPlace (s := withLegAndJobs k _ jobs s) (Nat.le_of_not_lt room)), if_neg room,
      decide_eq_false room, sameRecord]
    exact withLegAndJobs_twice (k := k) _ _ jobs jobs

theorem openTheLeg_of_tieCall {r : Nat} {key : Key} {t : Long} (hk : k < 48)
    (inputs : s.sessionInputsOf (.tieCall r) = some (key, t)) :
    openTheLeg k (.tieCall r) channel none s = withLegAndJobs k ⟨(s.leg k).stamp + 1, .opened (.tieCall r)
      { OpenLeg.atOpen s.params channel none (s.streamConstants (.tieCall r)).1 (s.streamConstants (.tieCall r)).2 with
        sessionOutstanding := decide (s.jobs.length < 32)
        sessionWanted := !decide (s.jobs.length < 32) }⟩
      (if s.jobs.length < 32 then s.jobs ++ [.tieSession key t k ((s.leg k).stamp + 1)] else s.jobs)
      (s.setRouting channel (.leg k)) := by
  have start : openTheLeg k (.tieCall r) channel none s = offerSession k (withLegAndJobs k
      ⟨(s.leg k).stamp + 1, .opened (.tieCall r) (OpenLeg.atOpen s.params channel none (s.streamConstants (.tieCall r)).1
        (s.streamConstants (.tieCall r)).2)⟩ s.jobs (s.setRouting channel (.leg k))) := rfl
  exact start.trans (offerSession_withLegAndJobs hk inputs rfl)

end

/-! ### The openings of an ANSWER -/

/-- An opening that stands to be made: its place and channel, its key or the inputs of its TIE SESSION job, and its stamp. -/
inductive Opening.Due (s : State) : Opening → Prop
  | extension {k i : Nat} {sk : Key} {channel : Byte} (place : k < 48) (inRange : channel.toNat ≤ 127)
      (hasKey : (s.entry i).sk = some sk) : Due s (s.openingFor k i sk channel)
  | tieCall {k ref g : Nat} {key : Key} {t : Long} {channel : Byte} {c : Call} (place : k < 48) (inRange : channel.toNat ≤ 127)
      (found : s.call ref = some c) (party : c.b = .group g) (number : c.tieNumber = some t)
      (hasKey : (s.group g).tieKey = some key) : Due s (s.tieOpening k ref (s.group g) key t channel)

/-- The fields in which a state may differ by openings. -/
def OpeningFields (s u : State) : Prop := u = { s with legs := u.legs, channelTable := u.channelTable, jobs := u.jobs }

theorem OpeningFields.trans {s u v : State} (h : OpeningFields s u) (h' : OpeningFields u v) : OpeningFields s v := by
  rw [OpeningFields, h', h]

theorem Opening.Due.of_fields {s u : State} {p : Opening} (h : p.Due s) (fields : OpeningFields s u)
    (stamp : (u.leg p.leg).stamp = (s.leg p.leg).stamp) : p.Due u := by
  cases h with
  | @extension k i sk channel place inRange hasKey =>
    rw [State.openingFor, ← show (u.leg k).stamp = (s.leg k).stamp from stamp]
    refine .extension place inRange ?_
    rw [fields]
    exact hasKey
  | @tieCall k ref g key t channel c place inRange found party number hasKey =>
    have group : u.group g = s.group g := by rw [fields]; rfl
    rw [State.tieOpening, ← show (u.leg k).stamp = (s.leg k).stamp from stamp, ← group]
    refine .tieCall place inRange ?_ party number (group ▸ hasKey)
    rw [fields]
    exact found

/-- The jobs of an opening, all outstanding or all marked. -/
def Opening.Offered (p : Opening) (placed : Bool) (o : OpenLeg) : Prop :=
  if p.sk = none then o.sessionOutstanding = placed ∧ o.sessionWanted = !placed
  else ∀ d, (o.keys d).outstanding = placed ∧ (o.keys d).marked = !placed

/-- The leg that an opening leaves, for the number of jobs in the queue and of places it asks for. -/
def Opening.Leaves (p : Opening) (params : Params) (stamp : Byte) (jobs places : Nat) (l : Leg) : Prop :=
  ∃ o, l = ⟨stamp + 1, .opened p.owner o⟩ ∧ FreshLeg params o p.channel p.sk p.outD p.inD ∧
    (jobs + places ≤ 32 → p.Offered true o) ∧ (32 ≤ jobs → p.Offered false o)

theorem Opening.Leaves.of_places {p : Opening} {params : Params} {stamp : Byte} {n m n' m' : Nat} {l : Leg}
    (h : p.Leaves params stamp n m l) (fits : n' + m' ≤ 32 → n + m ≤ 32) (full : 32 ≤ n' → 32 ≤ n) :
    p.Leaves params stamp n' m' l := by
  obtain ⟨o, leg, fresh, placed, marked⟩ := h
  exact ⟨o, leg, fresh, placed ∘ fits, marked ∘ full⟩

/-- The state `v` comes from `u` by the opening `p`. -/
structure Opens (p : Opening) (u v : State) : Prop where
  fields : OpeningFields u v
  leg_ne : ∀ l, p.leg ≠ l → v.leg l = u.leg l
  routing : ∀ d, v.routing d = if p.channel.toNat = d then .leg p.leg else u.routing d
  leg : p.Leaves u.params (u.leg p.leg).stamp u.jobs.length 2 (v.leg p.leg)
  queued : u.jobs.length + 2 ≤ 32 → v.jobs = u.jobs ++ p.jobs
  full : 32 ≤ u.jobs.length → v.jobs = u.jobs

/-- The state after an opening. -/
def opening (u : State) (p : Opening) : State := openTheLeg p.leg p.owner p.channel.toNat none u

theorem opens_of_withLegAndJobs {p : Opening} {u v : State} {o : OpenLeg} {jobs : List Job} (place : p.leg < 48)
    (inRange : p.channel.toNat ≤ 127) (result : v = withLegAndJobs p.leg ⟨(u.leg p.leg).stamp + 1, .opened p.owner o⟩ jobs
      (u.setRouting p.channel.toNat (.leg p.leg)))
    (fresh : FreshLeg u.params o p.channel p.sk p.outD p.inD)
    (placed : u.jobs.length + 2 ≤ 32 → p.Offered true o ∧ jobs = u.jobs ++ p.jobs)
    (marked : 32 ≤ u.jobs.length → p.Offered false o ∧ jobs = u.jobs) : Opens p u v := by
  subst result
  refine ⟨rfl, fun l other => ?_, fun d => ?_, ⟨o, leg_withLegAndJobs place _ _, fresh, And.left ∘ placed, And.left ∘ marked⟩,
    And.right ∘ placed, And.right ∘ marked⟩
  · exact (leg_setLeg ..).trans (if_neg (fun both => other both.1))
  · refine (routing_setRouting ..).trans ?_
    simp only [show p.channel.toNat < 128 by omega, and_true]

theorem freshLeg_offeredAtOpen (p : Params) (channel : Byte) (sk : Key) (one two : Bool) :
    FreshLeg p (.offeredAtOpen p channel.toNat sk one two) channel (some sk) 0 1 :=
  ⟨rfl, rfl, rfl, rfl, rfl, rfl, rfl, rfl, rfl, fun d => by cases d <;> exact ⟨rfl, rfl, rfl⟩⟩

theorem streamConstants_of_call {s : State} {ref g : Nat} {c : Call} (found : s.call ref = some c) (party : c.b = .group g) :
    s.streamConstants (.tieCall ref) =
      (if (s.group g).tieEnd = .a then 0 else 1, if (s.group g).tieEnd = .a then 1 else 0) := by
  rw [State.streamConstants, found, Option.map_some, party]
  cases tieEnd : (s.group g).tieEnd <;> simp [tieEnd]

theorem Opening.Due.opens {s : State} {p : Opening} (h : p.Due s) : Opens p s (opening s p) := by
  cases h with
  | @extension k i sk channel place inRange hasKey =>
    have fresh := freshLeg_offeredAtOpen s.params channel sk
    have offered : ∀ placed, (s.openingFor k i sk channel).Offered placed
        (.offeredAtOpen s.params channel.toNat sk placed placed) := fun placed => by
      rw [Opening.Offered, if_neg (by simp [State.openingFor])]
      intro d
      cases d <;> exact ⟨rfl, rfl⟩
    rcases (by omega : s.jobs.length ≤ 30 ∨ s.jobs.length = 31 ∨ 32 ≤ s.jobs.length) with two | one | full
    · exact opens_of_withLegAndJobs place inRange (openTheLeg_of_extension place hasKey true true _ (if_pos two).symm)
        (fresh true true) (fun _ => ⟨offered true, rfl⟩) (by omega)
    · exact opens_of_withLegAndJobs place inRange (openTheLeg_of_extension place hasKey true false _
        (by rw [if_neg (by omega), if_pos one])) (fresh true false) (by omega) (by omega)
    · exact opens_of_withLegAndJobs place inRange (openTheLeg_of_extension place hasKey false false _
        (by rw [if_neg (by omega), if_neg (by omega)])) (fresh false false) (by omega) (fun _ => ⟨offered false, rfl⟩)
  | @tieCall k ref g key t channel c place inRange found party number hasKey =>
    have inputs : s.sessionInputsOf (.tieCall ref) = some (key, t) := by
      simp only [State.sessionInputsOf, found, Option.bind_some, party, number, hasKey, Option.map_some]
    have constants := streamConstants_of_call found party
    refine opens_of_withLegAndJobs place inRange (openTheLeg_of_tieCall place inputs) ?_ (fun room => ?_) (fun full => ?_)
    · rw [constants]
      exact ⟨rfl, rfl, rfl, rfl, rfl, rfl, rfl, rfl, rfl, fun d => by cases d <;> exact ⟨rfl, rfl, rfl⟩⟩
    · rw [decide_eq_true (by omega), if_pos (by omega)]
      exact ⟨(if_pos rfl).mpr ⟨rfl, rfl⟩, rfl⟩
    · rw [decide_eq_false (by omega), if_neg (by omega)]
      exact ⟨(if_pos rfl).mpr ⟨rfl, rfl⟩, rfl⟩

/-- The state `v` comes from `u` by the openings `ps`. -/
structure OpensAll (ps : List Opening) (u v : State) : Prop where
  fields : OpeningFields u v
  leg_ne : ∀ l, (∀ p ∈ ps, p.leg ≠ l) → v.leg l = u.leg l
  routing_ne : ∀ d, (∀ p ∈ ps, p.channel.toNat ≠ d) → v.routing d = u.routing d
  routing : ∀ p ∈ ps, v.routing p.channel.toNat = .leg p.leg
  leg : ∀ p ∈ ps, p.Leaves u.params (u.leg p.leg).stamp u.jobs.length (2 * ps.length) (v.leg p.leg)
  queued : u.jobs.length + 2 * ps.length ≤ 32 → v.jobs = u.jobs ++ ps.flatMap (fun p => p.jobs)
  full : 32 ≤ u.jobs.length → v.jobs = u.jobs

theorem Opening.Due.jobs_le {s : State} {p : Opening} (h : p.Due s) : p.jobs.length ≤ 2 := by
  cases h <;> simp [State.openingFor, State.tieOpening]

/-- Two openings have different legs and different channels. -/
def Opening.Apart (p q : Opening) : Prop := p.leg ≠ q.leg ∧ p.channel.toNat ≠ q.channel.toNat

theorem opensAll (ps : List Opening) : ∀ {u : State}, (∀ p ∈ ps, p.Due u) → ps.Pairwise Opening.Apart →
    OpensAll ps u (ps.foldl opening u) := by
  induction ps with
  | nil =>
    intro u _ _
    exact ⟨rfl, fun _ _ => rfl, fun _ _ => rfl, by simp, by simp, fun _ => by simp, fun _ => rfl⟩
  | cons p ps ih =>
    intro u due apart
    obtain ⟨first, rest⟩ := List.pairwise_cons.mp apart
    have dueFirst := due p (by simp)
    have one := dueFirst.opens
    have kept : ∀ q ∈ ps, (opening u p).leg q.leg = u.leg q.leg := fun q hq => one.leg_ne _ (first q hq).1
    have all := ih (u := opening u p) (fun q hq => (due q (by simp [hq])).of_fields one.fields (by rw [kept q hq])) rest
    have params : (opening u p).params = u.params := by rw [one.fields]
    have jobs_le : u.jobs.length + 2 ≤ 32 → (opening u p).jobs.length ≤ u.jobs.length + 2 := fun room => by
      rw [one.queued room, List.length_append]
      have := dueFirst.jobs_le
      omega
    have jobs_ge : 32 ≤ u.jobs.length → 32 ≤ (opening u p).jobs.length := fun full => by
      rw [one.full full]
      exact full
    refine ⟨one.fields.trans all.fields, fun l apart => ?_, fun d apart => ?_, ?_, ?_, fun room => ?_, fun full => ?_⟩
    · exact (all.leg_ne l fun q hq => apart q (by simp [hq])).trans (one.leg_ne l (apart p (by simp)))
    · exact (all.routing_ne d fun q hq => apart q (by simp [hq])).trans ((one.routing d).trans (if_neg (apart p (by simp))))
    · rintro q hq
      rcases List.mem_cons.mp hq with rfl | hq
      · exact (all.routing_ne _ fun r hr => (first r hr).2.symm).trans ((one.routing _).trans (if_pos rfl))
      · exact all.routing q hq
    · rintro q hq
      rw [List.length_cons]
      rcases List.mem_cons.mp hq with rfl | hq
      · rw [List.foldl_cons, all.leg_ne _ fun r hr => (first r hr).1.symm]
        exact one.leg.of_places (by omega) id
      · have leaves := all.leg q hq
        rw [params, kept q hq] at leaves
        exact leaves.of_places (fun fits => by have := jobs_le (by omega); omega) jobs_ge
    · rw [List.length_cons] at room
      have := jobs_le (by omega)
      rw [List.foldl_cons, all.queued (by omega), one.queued (by omega), List.flatMap_cons, List.append_assoc]
    · rw [List.foldl_cons, all.full (jobs_ge full), one.full full]

/-- A plan that fits opens what its opening says. -/
theorem openPlanned_of_fits {plan : LegPlan} {s : State} {channel : Byte} {p : Option Opening} {owner : Owner}
    (fits : plan.Fits s channel p) (owned : ∀ x, p = some x → x.owner = owner) (u : State) :
    openPlanned plan owner (channelOf channel) u = p.toList.foldl opening u := by
  unfold openPlanned
  rw [fits.opens]
  cases p with
  | none => rfl
  | some x =>
    obtain ⟨on, inRange, -⟩ := fits.due x rfl
    rw [channelOf_of_channel inRange, ← owned x rfl, ← on]
    rfl

end Sys2Proof.Machine
end

section
/-! PROOFS. The B side of an ANSWER settled. -/

namespace Sys2Proof.Machine

/-! ### What an ANSWER does before it opens legs (R138, R140) -/

theorem lt_of_reserved {s : State} {k : Nat} {w : Owner} (use : (s.leg k).use = .reserved w) : k < 48 := by
  by_contra high
  simp [leg_of_le s (Nat.le_of_not_lt high)] at use

theorem lt_of_admitted {s : State} {i : Nat} (admitted : (s.entry i).state = .admitted) : i < 512 := by
  by_contra high
  rw [State.entry, readAt_of_le _ _ _ (Nat.le_of_not_lt high)] at admitted
  cases admitted

theorem pushStack_eq (r : Nat) (stack : List StackItem) : pushStack r stack = pushedOn r stack := by
  cases stack <;> rfl

/-- A call of the table after call `c` has been answered. -/
def Call.answeredBy (c : Call) (t : Long) (loser : Option Nat) (x : Call) : Call :=
  if x.ref = c.ref then { x with
    state := .talking
    tieNumber := if c.tieLeg = none then none else some t
    bReservation := match c.b with
      | .extension _ => none
      | _ => x.bReservation }
  else if some x.ref = loser then { x with bReservation := none }
  else x

/-- The state with call `c` TALKING and pushed on a callee's stack (R140). -/
def pushed (c : Call) (t : Long) (s : State) : State :=
  pushCallee c (s.updateCall c.ref (fun x =>
    { x with state := .talking, tieNumber := if c.tieLeg.isSome then some t else none }))

/-- The state `w` comes from `s` by the push of call `c` on entry `b`'s stack and by changes of calls. -/
structure CalleePushed (c : Call) (b : Nat) (s w : State) : Prop where
  fields : w = { s with directory := w.directory, calls := w.calls }
  entry : ∀ l, w.entry l = if b = l then { s.entry l with stack := pushedOn c.ref (s.entry l).stack } else s.entry l

theorem calleePushed {s : State} {c : Call} {b : Nat} (party : c.b = .extension b) (inRange : b < 512) (t : Long) :
    CalleePushed c b s (pushed c t s) := by
  rw [pushed, pushCallee, party]
  refine ⟨rfl, fun l => ?_⟩
  refine (entry_setEntry ..).trans ?_
  simp only [inRange, and_true, updateCall_entry_read, pushStack_eq]
  split
  next same => rw [same]
  next => rfl

theorem CalleePushed.updateCall {s w : State} {c : Call} {b : Nat} (h : CalleePushed c b s w) (r : Nat) (f : Call → Call) :
    CalleePushed c b s (w.updateCall r f) :=
  ⟨congrArg (fun t : State => t.updateCall r f) h.fields, h.entry⟩

/-- The state `u` is `s` with the B side of call `c` settled for the opening `p`: the calls given, the push with the leg of
the opening, and the release; the leg that is to be opened keeps its stamp. -/
structure Settled (s : State) (c : Call) (p : Option Opening) (released : Option Nat) (calls : List Call) (u : State) :
    Prop where
  fields : u = { s with legs := u.legs, directory := u.directory, calls := calls }
  entry : ∀ l, u.entry l = if c.b = .extension l then { s.entry l with
    stack := pushedOn c.ref (s.entry l).stack
    ownedLeg := (p.map (fun x => x.leg)).or (s.entry l).ownedLeg } else s.entry l
  stamp : ∀ l, (u.leg l).stamp = (s.leg l).stamp
  leg : ∀ l, (∀ x, p = some x → x.leg ≠ l) → u.leg l = if released = some l then ⟨(s.leg l).stamp, .free⟩ else s.leg l

theorem freeTheLeg_of_bSide {s : State} {f r : Nat} (use : (s.leg f).use = .reserved (.bSide r)) :
    freeTheLeg f s = s.setLeg f ⟨(s.leg f).stamp, .free⟩ := by
  simp only [freeTheLeg, use]
  rfl

theorem CalleePushed.leg {s w : State} {c : Call} {b : Nat} (push : CalleePushed c b s w) (l : Nat) : w.leg l = s.leg l := by
  rw [push.fields]
  rfl

section
variable {s w : State} {c : Call} {b : Nat} {p : Option Opening} (push : CalleePushed c b s w) (party : c.b = .extension b)
include push party

/-- The callee keeps the leg it owns, or gets none. -/
theorem Settled.of_kept (owned : ∀ x, p = some x → (s.entry b).ownedLeg = some x.leg) : Settled s c p none w.calls w := by
  refine ⟨by rw [push.fields], fun l => ?_, fun l => by rw [push.leg], fun l _ => by rw [push.leg, if_neg (by simp)]⟩
  rw [push.entry, party]
  simp only [BParty.extension.injEq]
  split
  next same =>
    subst same
    cases p with
    | none => rfl
    | some x => simp [owned x rfl]
  next => rfl

/-- The callee keeps the leg it owns, and the call's own reservation is released. -/
theorem Settled.of_released {f r : Nat} (owned : ∀ x, p = some x → (s.entry b).ownedLeg = some x.leg)
    (use : (s.leg f).use = .reserved (.bSide r)) : Settled s c p (some f) w.calls (freeTheLeg f w) := by
  have kept := Settled.of_kept push party owned
  have useW : (w.leg f).use = .reserved (.bSide r) := by rw [push.leg, use]
  have legs : ∀ l, (freeTheLeg f w).leg l = if f = l then ⟨(s.leg l).stamp, .free⟩ else s.leg l := fun l => by
    rw [leg_freeTheLeg, push.leg, push.leg]
    split
    next same => rw [same]
    next => rfl
  refine ⟨?_, fun l => ?_, fun l => ?_, fun l _ => ?_⟩
  · rw [freeTheLeg_of_bSide useW]
    exact congrArg (fun t : State => { t with legs := (w.setLeg f ⟨(w.leg f).stamp, .free⟩).legs }) push.fields
  · rw [freeTheLeg_of_bSide useW]
    exact kept.entry l
  · rw [legs]
    split <;> rfl
  · rw [legs]
    simp only [Option.some.injEq]

/-- Leg `x.leg` passes to the callee, which owned none. -/
theorem Settled.of_transferred {x : Opening} (inRange : b < 512) (place : x.leg < 48) :
    Settled s c (some x) none w.calls (transferLeg x.leg b w) := by
  have legs : ∀ l, (transferLeg x.leg b w).leg l =
      if x.leg = l then ⟨(s.leg l).stamp, .reserved (.extension b)⟩ else s.leg l := fun l => by
    refine (leg_setLeg w x.leg l _).trans ?_
    simp only [place, and_true, push.leg]
    split
    next same => rw [same]
    next => rfl
  refine ⟨?_, fun l => ?_, fun l => ?_, fun l other => ?_⟩
  · exact congrArg (fun t : State => { t with
      legs := (transferLeg x.leg b w).legs
      directory := (transferLeg x.leg b w).directory }) push.fields
  · refine (entry_setEntry (w.setLeg x.leg _) b l _).trans ?_
    simp only [inRange, and_true, party, BParty.extension.injEq]
    split
    next same =>
      subst same
      have entry := push.entry b
      rw [if_pos rfl] at entry
      exact congrArg (fun e : Entry => { e with ownedLeg := some x.leg }) entry
    next other => exact (push.entry l).trans (if_neg other)
  · rw [legs]
    split <;> rfl
  · rw [legs, if_neg (other x rfl), if_neg (by simp)]

end

/-! ### The calls after an ANSWER -/

section
variable {s : State} {c : Call} {t : Long} {loser : Option Nat}

theorem eq_of_ref (unique : (s.calls.map (fun x => x.ref)).Nodup) (stands : c ∈ s.calls) {x : Call} (hx : x ∈ s.calls)
    (same : x.ref = c.ref) : x = c := List.inj_on_of_nodup_map unique hx stands same

theorem calls_pushed : (pushed c t s).calls = s.calls.map (fun x => if x.ref = c.ref then { x with
    state := .talking
    tieNumber := if c.tieLeg.isSome then some t else none } else x) := by
  rw [pushed, pushCallee]
  split <;> rfl

theorem tieNumber_eq (c : Call) (t : Long) :
    (if c.tieLeg.isSome then some t else none) = if c.tieLeg = none then none else some t := by
  cases c.tieLeg <;> rfl

/-- The call's own mark of a reservation stands, as none is held or the B side is no extension. -/
theorem calls_of_kept (unique : (s.calls.map (fun x => x.ref)).Nodup) (stands : c ∈ s.calls)
    (kept : ∀ b, c.b = .extension b → c.bReservation = none) :
    (pushed c t s).calls = s.calls.map (c.answeredBy t none) := by
  rw [calls_pushed]
  refine List.map_congr_left fun x hx => ?_
  rw [Call.answeredBy]
  by_cases same : x.ref = c.ref
  · obtain rfl := eq_of_ref unique stands hx same
    rw [if_pos rfl, if_pos rfl, tieNumber_eq]
    cases party : x.b with
    | extension b => rw [kept b party]
    | _ => rfl
  · rw [if_neg same, if_neg same, if_neg (by simp)]

/-- The call's own reservation is given up. -/
theorem calls_of_own {b : Nat} (party : c.b = .extension b) :
    ((pushed c t s).updateCall c.ref (fun x => { x with bReservation := none })).calls = s.calls.map (c.answeredBy t none) := by
  rw [updateCall_calls, calls_pushed, List.map_map]
  refine List.map_congr_left fun x hx => ?_
  rw [Function.comp_apply, Call.answeredBy]
  by_cases same : x.ref = c.ref
  · simp only [if_pos same, tieNumber_eq, party]
  · rw [if_neg same, if_neg same, if_neg same, if_neg (by simp)]

/-- Another call's reservation is given up. -/
theorem calls_of_other {r : Nat} (unique : (s.calls.map (fun x => x.ref)).Nodup)
    (stands : c ∈ s.calls) (noOwn : c.bReservation = none) (other : r ≠ c.ref) :
    ((pushed c t s).updateCall r (fun x => { x with bReservation := none })).calls =
      s.calls.map (c.answeredBy t (some r)) := by
  rw [updateCall_calls, calls_of_kept unique stands (fun _ _ => noOwn), List.map_map]
  refine List.map_congr_left fun x hx => ?_
  rw [Function.comp_apply, Call.answeredBy, Call.answeredBy]
  by_cases same : x.ref = c.ref
  · simp only [if_pos same]
    rw [if_neg (same ▸ other.symm)]
  · simp only [if_neg same, Option.some.injEq]
    simp

end

/-! ### The B side settled -/

section
variable {s : State} {c : Call} {channel : Byte} {t : Long} {p : Option Opening} {loser released : Option Nat}

/-- The B side of a call that is no LOCAL one: nothing is settled. -/
theorem Settled.of_plain (plain : ∀ b, c.b ≠ .extension b) : Settled s c p none (pushed c t s).calls (pushed c t s) ∧
    ∀ plan, settleBSide c plan (pushed c t s) = pushed c t s := by
  have same : ∀ u : State, pushCallee c u = u := fun u => by
    rw [pushCallee]
    split
    next b party => exact absurd party (plain b)
    next => rfl
  refine ⟨?_, fun plan => ?_⟩
  · rw [pushed, same]
    exact ⟨rfl, fun l => (if_neg (plain l)).symm, fun _ => rfl, fun l _ => (if_neg (by simp)).symm⟩
  · rw [settleBSide]
    split
    next b party => exact absurd party (plain b)
    next => rfl

theorem State.OwnLeg.owned {i : Nat} (h : s.OwnLeg i channel p) :
    ∀ x, p = some x → (s.entry i).ownedLeg = some x.leg := by
  rintro x rfl
  obtain ⟨k, sk, holds, -, -, -, -, rfl⟩ := h
  exact holds

/-- A plan that passes no leg to the callee. -/
def LegPlan.PassesNone (plan : LegPlan) : Prop :=
  (∃ m, plan = .openOwned m) ∨ (∃ m ch, plan = .already m ch) ∨ plan = .none

theorem State.OwnLeg.passesNone {i m : Nat} (h : s.OwnLeg i channel p) (owned : (s.entry i).ownedLeg = some m) :
    (s.ownPlan i).PassesNone := by
  cases p with
  | some x =>
    obtain ⟨k, sk, holds, use, -⟩ := h
    exact .inl ⟨k, ownPlan_of_reserved holds use⟩
  | none =>
    rcases h with ⟨noLeg, -⟩ | ⟨k, w, o, holds, use, -⟩
    · rw [noLeg] at owned
      cases owned
    · exact .inr (.inl ⟨k, _, ownPlan_of_opened holds use⟩)

theorem settleCallee_of_noReservation {plan : LegPlan} (passes : plan.PassesNone) (b : Nat) (u : State)
    (noOwn : c.bReservation = none) : settleCallee c b plan u = u := by
  rcases passes with ⟨m, rfl⟩ | ⟨m, ch, rfl⟩ | rfl <;> simp only [settleCallee, noOwn]

theorem settleCallee_of_reservation {plan : LegPlan} (passes : plan.PassesNone) (b : Nat) (u : State) {f : Nat}
    (own : c.bReservation = some f) : settleCallee c b plan u =
      freeTheLeg f (u.updateCall c.ref (fun x => { x with bReservation := none })) := by
  rcases passes with ⟨m, rfl⟩ | ⟨m, ch, rfl⟩ | rfl <;> simp only [settleCallee, own]

theorem settleBSide_of_extension {b : Nat} (party : c.b = .extension b) (plan : LegPlan) (u : State) :
    settleBSide c plan u = settleCallee c b plan u := by
  rw [settleBSide, party]

theorem State.FarLeg.settled (h : s.FarLeg c channel t p loser released)
    (unique : (s.calls.map (fun x => x.ref)).Nodup) (stands : c ∈ s.calls) :
    Settled s c p released (s.calls.map (c.answeredBy t loser)) (settleBSide c (s.bPlan c) (pushed c t s)) := by
  cases party : c.b with
  | service code =>
    obtain ⟨rfl, rfl, rfl, -⟩ := h.of_service party
    obtain ⟨settled, same⟩ := Settled.of_plain (s := s) (p := none) (t := t) (c := c) (by simp [party])
    rw [same, ← calls_of_kept unique stands (by simp [party])]
    exact settled
  | group g =>
    obtain ⟨rfl, rfl, -⟩ := h.of_group party
    obtain ⟨settled, same⟩ := Settled.of_plain (s := s) (p := p) (t := t) (c := c) (by simp [party])
    rw [same, ← calls_of_kept unique stands (by simp [party])]
    exact settled
  | extension b =>
    obtain ⟨-, admitted, -, cases⟩ := h.of_extension party
    have push := calleePushed (s := s) party (lt_of_admitted admitted) t
    rw [bPlan_of_extension party, settleBSide_of_extension party]
    rcases cases with ⟨⟨m, owned⟩, own, rfl, rfl, reserved⟩ | ⟨noLeg, rfl, -, -, k, sk, found, -, rfl⟩ |
      ⟨noLeg, rfl, -, rfl, rfl, noOwn, plan⟩
    · rw [calleePlan_of_owned owned]
      cases lent : c.bReservation with
      | none =>
        rw [settleCallee_of_noReservation (own.passesNone owned) b _ lent, ← calls_of_kept unique stands (fun _ _ => lent)]
        exact .of_kept push party own.owned
      | some f =>
        rw [settleCallee_of_reservation (own.passesNone owned) b _ lent, ← calls_of_own party]
        exact .of_released (push.updateCall _ _) party own.owned (reserved f lent)
    · obtain ⟨place, ⟨plan, lent, -, rfl⟩ | ⟨x, plan, noOwn, other, -, rfl⟩ | ⟨plan, noOwn, -, rfl⟩⟩ := found.plan noLeg
      · rw [plan, settleCallee, ← calls_of_own party]
        exact .of_transferred (push.updateCall _ _) party (lt_of_admitted admitted) place
      · rw [plan, settleCallee, ← calls_of_other unique stands noOwn other]
        exact .of_transferred (push.updateCall _ _) party (lt_of_admitted admitted) place
      · rw [plan, settleCallee, ← calls_of_kept unique stands (fun _ _ => noOwn)]
        exact .of_transferred push party (lt_of_admitted admitted) place
    · rw [plan, settleCallee_of_noReservation (.inr (.inr rfl)) b _ noOwn, ← calls_of_kept unique stands (fun _ _ => noOwn)]
      exact .of_kept push party (by simp)

end

end Sys2Proof.Machine
end

section
/-! PROOFS. An ANSWER taken. -/

namespace Sys2Proof.Machine

/-! ### An ANSWER taken (R140) -/

section
variable {s : State} {c : Call} {call : Word} {A B : Byte} {t : Long} {pa pb : Option Opening} {loser released : Option Nat}

/-- The state after the legs of an ANSWER have been opened, before the evaluation. -/
def answerOpened (c : Call) (t : Long) (pa pb : Option Opening) (s : State) : State :=
  (pa.toList ++ pb.toList).foldl opening (settleBSide c (s.bPlan c) (pushed c t s))

theorem State.OwnLeg.owner {i : Nat} (own : s.OwnLeg i A pa) : ∀ x, pa = some x → x.owner = .extension i := by
  rintro x rfl
  obtain ⟨m, sk, -, -, -, -, -, rfl⟩ := own
  rfl

theorem State.FarLeg.owner (far : s.FarLeg c B t pb loser released) : ∀ x, pb = some x → x.owner = bOwner c := by
  rintro x rfl
  cases party : c.b with
  | service code => cases (far.of_service party).1
  | group g =>
    rw [bOwner, party]
    obtain ⟨-, -, ⟨-, none, -⟩ | ⟨k, key, -, -, -, -, -, opens⟩⟩ := far.of_group party
    · cases none
    · cases opens
      rfl
  | extension b =>
    rw [bOwner, party]
    obtain ⟨-, -, -, ⟨-, own, -⟩ | ⟨-, -, -, -, k, sk, -, -, opens⟩ | ⟨-, -, -, none, -⟩⟩ := far.of_extension party
    · exact own.owner x rfl
    · cases opens
      rfl
    · cases none

theorem answerCall_eq (own : s.OwnLeg c.a A pa) (far : s.FarLeg c B t pb loser released) :
    answerCall c (s.ownPlan c.a) (s.bPlan c) (channelOf A) (channelOf B) t s = evaluateCalls (answerOpened c t pa pb s) := by
  have both := (openPlanned_of_fits far.fits far.owner _).trans
    (congrArg (pb.toList.foldl opening) (openPlanned_of_fits own.fits own.owner (settleBSide c (s.bPlan c) (pushed c t s))))
  rw [← List.foldl_append] at both
  exact congrArg evaluateCalls both

theorem answer_taken {j : Nat} {tag : Byte} (hs : s.freeSlot = some j) (named : call ≠ 0) (control : s.mode ≠ .standalone)
    (found : s.call call.toNat = some c) (alerting : c.state = .alerting) (own : s.OwnLeg c.a A pa)
    (far : s.FarLeg c B t pb loser released) (apart : pa ≠ none → pb ≠ none → A ≠ B) :
    exec (.answer tag call A B t) s = .next (answered j 20 tag .ok
      (wordBytes c.ref ++ [byteOf ((pa.map (fun x => x.leg)).getD 255), byteOf ((pb.map (fun x => x.leg)).getD 255),
        (((evaluateCalls (answerOpened c t pa pb s)).call c.ref).map (fun x => x.status.code)).getD 0])
      (evaluateCalls (answerOpened c t pa pb s))) := by
  have reaches : AnswerReaches s call A B c := ⟨named, own.fits.given, far.fits.given, control, found, alerting⟩
  have taken := reaches.taken (t := t) far.callee (channelRefusal_of_fits own.fits far.fits apart)
  rw [answerCall_eq own far, own.fits.opens, far.fits.opens] at taken
  exact request_answered hs taken

/-- The caller's leg and the B side's are different ones, as their uses are. -/
theorem legs_apart (own : s.OwnLeg c.a A pa) (far : s.FarLeg c B t pb loser released) {x y : Opening} (hx : pa = some x)
    (hy : pb = some y) : x.leg ≠ y.leg := by
  subst hx hy
  obtain ⟨m, sk, -, use, -, -, -, rfl⟩ := own
  have other : (s.leg y.leg).use ≠ .reserved (.extension c.a) := by
    cases party : c.b with
    | service code => cases (far.of_service party).1
    | group g =>
      obtain ⟨-, -, ⟨-, none, -⟩ | ⟨k, key, -, tie, -, -, -, opens⟩⟩ := far.of_group party
      · cases none
      · cases opens
        simp [State.tieOpening, tie]
    | extension b =>
      obtain ⟨differ, -, -, ⟨-, ⟨k, sk, -, held, -, -, -, rfl⟩, -⟩ | ⟨noLeg, -, -, -, k, sk, callee, -, opens⟩ |
        ⟨-, -, -, none, -⟩⟩ := far.of_extension party
      · simp [State.openingFor, held, Ne.symm differ]
      · cases opens
        obtain ⟨-, ⟨-, -, held, -⟩ | ⟨x, -, -, -, held, -⟩ | ⟨-, -, held, -⟩⟩ := callee.plan noLeg <;>
          simp [State.openingFor, held]
      · cases none
  exact fun same => other (same ▸ use)

theorem Settled.openingFor {u : State} {calls : List Call} (h : Settled s c pb released calls u) (k i : Nat) (sk : Key) :
    u.openingFor k i sk A = s.openingFor k i sk A := by
  rw [State.openingFor, State.openingFor, h.stamp]

theorem Settled.sk {u : State} {calls : List Call} (h : Settled s c pb released calls u) (i : Nat) :
    (u.entry i).sk = (s.entry i).sk := by
  rw [h.entry]
  split <;> rfl

theorem State.OwnLeg.due {i : Nat} {u : State} {p x : Option Opening} {calls : List Call} (own : s.OwnLeg i A p)
    (h : Settled s c x released calls u) : ∀ y ∈ p, y.Due u := by
  rintro y hy
  cases hy
  obtain ⟨m, sk, -, use, hasKey, inRange, -, rfl⟩ := own
  rw [← h.openingFor]
  exact .extension (lt_of_reserved use) inRange ((h.sk i).trans hasKey)

theorem answeredBy_ref (c : Call) (t : Long) (loser : Option Nat) (x : Call) : (c.answeredBy t loser x).ref = x.ref := by
  rw [Call.answeredBy]
  split_ifs <;> rfl

theorem call_settled {u : State} (h : Settled s c pb released (s.calls.map (c.answeredBy t loser)) u) (r : Nat) :
    u.call r = (s.call r).map (c.answeredBy t loser) := by
  rw [State.call, State.call, h.fields, List.find?_map]
  refine congrArg (fun p => (s.calls.find? p).map (c.answeredBy t loser)) (funext fun x => ?_)
  rw [Function.comp_apply, answeredBy_ref]

theorem State.FarLeg.due {u : State} (far : s.FarLeg c B t pb loser released) (found : s.call c.ref = some c)
    (h : Settled s c pb released (s.calls.map (c.answeredBy t loser)) u) : ∀ y ∈ pb, y.Due u := by
  rintro y hy
  cases hy
  cases party : c.b with
  | service code => cases (far.of_service party).1
  | group g =>
    obtain ⟨-, -, ⟨-, none, -⟩ | ⟨k, key, tie, use, hasKey, inRange, -, opens⟩⟩ := far.of_group party
    · cases none
    · cases opens
      have group : u.group g = s.group g := by rw [h.fields]; rfl
      rw [State.tieOpening, ← h.stamp, ← group]
      refine .tieCall (lt_of_reserved use) inRange ((call_settled h _).trans (congrArg _ found)) ?_ ?_ (group ▸ hasKey)
      · simp [Call.answeredBy, party]
      · simp [Call.answeredBy, tie]
  | extension b =>
    obtain ⟨-, -, -, ⟨-, own, -⟩ | ⟨noLeg, -, inRange, -, k, sk, callee, hasKey, opens⟩ | ⟨-, -, -, none, -⟩⟩ :=
      far.of_extension party
    · exact own.due h y rfl
    · cases opens
      rw [← h.openingFor]
      exact .extension (callee.plan noLeg).1 inRange ((h.sk b).trans hasKey)
    · cases none

theorem openings_apart (own : s.OwnLeg c.a A pa) (far : s.FarLeg c B t pb loser released)
    (apart : pa ≠ none → pb ≠ none → A ≠ B) : (pa.toList ++ pb.toList).Pairwise Opening.Apart := by
  rw [List.pairwise_append]
  refine ⟨by cases pa <;> simp, by cases pb <;> simp, fun x hx y hy => ?_⟩
  rw [Option.mem_toList] at hx hy
  cases hx
  cases hy
  refine ⟨legs_apart own far rfl rfl, ?_⟩
  rw [(own.fits.due x rfl).1, (far.fits.due y rfl).1]
  exact fun same => apart (by simp) (by simp) (BitVec.eq_of_toNat_eq same)

theorem answer_opens (own : s.OwnLeg c.a A pa) (far : s.FarLeg c B t pb loser released) (found : s.call c.ref = some c)
    (unique : (s.calls.map (fun x => x.ref)).Nodup) (apart : pa ≠ none → pb ≠ none → A ≠ B) :
    OpensAll (pa.toList ++ pb.toList) (settleBSide c (s.bPlan c) (pushed c t s)) (answerOpened c t pa pb s) := by
  have settled := far.settled unique (mem_of_call found).1
  refine opensAll _ (fun x hx => ?_) (openings_apart own far apart)
  rcases List.mem_append.mp hx with hx | hx
  · exact own.due settled x (Option.mem_toList.mp hx)
  · exact far.due found settled x (Option.mem_toList.mp hx)

end

end Sys2Proof.Machine
end

section
/-! PROOFS. The obligation of ANSWER. -/

namespace Sys2Proof.Machine

/-! ### The obligation of ANSWER -/

section
variable {s : State} {c : Call} {t : Long}

theorem call_pushed (found : s.call c.ref = some c) : (pushed c t s).call c.ref = some { c with
    state := .talking
    tieNumber := if c.tieLeg.isSome then some t else none } := by
  rw [State.call, calls_pushed, List.find?_map, show ((fun x : Call => x.ref == c.ref) ∘ fun x : Call =>
    if x.ref = c.ref then { x with
      state := .talking
      tieNumber := if c.tieLeg.isSome then some t else none } else x) = (fun x : Call => x.ref == c.ref) from
      funext fun x => by rw [Function.comp_apply]; split <;> rfl]
  refine (congrArg _ (show s.calls.find? (fun x => x.ref == c.ref) = some c from found)).trans ?_
  rw [Option.map_some, if_pos rfl]

theorem routing_evaluateCalls (s : State) (d : Nat) : (evaluateCalls s).routing d = s.routing d := by
  rw [evaluateCalls_frame]
  rfl

/-- The state `v` is `s` with the caller's leg `k` of a SERVICE call opened, and the call TALKING. -/
structure ServiceOpened (s : State) (c : Call) (k : Nat) (A : Byte) (o : OpenLeg) (queued : List Job) (v : State) : Prop where
  leg : ∀ l, v.leg l = if k = l then ⟨(s.leg k).stamp + 1, .opened (.extension c.a) o⟩ else s.leg l
  routing : ∀ d, v.routing d = if A.toNat = d then .leg k else s.routing d
  kept : v = { s with legs := v.legs, channelTable := v.channelTable, jobs := queued, calls := v.calls }
  talks : ∃ x, v.call c.ref = some x ∧ x.state = .talking

theorem serviceOpened {A : Byte} {k code : Nat} {sk : Key} (inRange : A.toNat ≤ 127) (found : s.call c.ref = some c)
    (service : c.b = .service code) (hk : k < 48) (hasKey : (s.entry c.a).sk = some sk) (one two : Bool) (queued : List Job)
    (places : (one, two, queued) = if s.jobs.length ≤ 30 then
        (true, true, s.jobs ++ [.epoch sk 0 k .outbound ((s.leg k).stamp + 1), .epoch sk 0 k .inbound ((s.leg k).stamp + 1)])
      else if s.jobs.length = 31 then (true, false, s.jobs ++ [.epoch sk 0 k .outbound ((s.leg k).stamp + 1)])
      else (false, false, s.jobs)) :
    ServiceOpened s c k A (.offeredAtOpen s.params A.toNat sk one two) queued
      (answerOpened c t (some (s.openingFor k c.a sk A)) none s) := by
  have talks := call_pushed (t := t) found
  obtain ⟨calls, fields⟩ : ∃ calls, pushed c t s = { s with calls := calls } := ⟨_, by
    rw [pushed, pushCallee, service]
    rfl⟩
  have plain := ((Settled.of_plain (s := s) (c := c) (t := t) (p := none) (by simp [service])).2 (s.bPlan c)).trans fields
  rw [fields] at talks
  have opens : answerOpened c t (some (s.openingFor k c.a sk A)) none s = withLegAndJobs k
      ⟨(s.leg k).stamp + 1, .opened (.extension c.a) (.offeredAtOpen s.params A.toNat sk one two)⟩ queued
      (State.setRouting { s with calls := calls } A.toNat (.leg k)) :=
    (congrArg (fun w => opening w (s.openingFor k c.a sk A)) plain).trans
      (openTheLeg_of_extension (s := { s with calls := calls }) hk hasKey one two queued places)
  rw [opens]
  refine ⟨fun l => ?_, fun d => ?_, rfl, ⟨_, talks, rfl⟩⟩
  · refine (leg_setLeg ..).trans ?_
    simp only [hk, and_true]
    rfl
  · refine (routing_setRouting ..).trans ?_
    simp only [show A.toNat < 128 by omega, and_true]
    rfl

end

/-- Settles O30: the settlement of the B side, the openings, and the tests in their order. -/
theorem answerOpensCallersLeg : Obligations.AnswerOpensCallersLeg := by
  refine ⟨?_, ?_, fun s j tag channelA channelB call t hs => ?_⟩
  · intro s j k tag A B call t c code sk hs named inRange given control found alerting service noTie hk owned use hasKey free stamp
    have found' : s.call c.ref = some c := (mem_of_call found).2 ▸ found
    have own : s.OwnLeg c.a A (some (s.openingFor k c.a sk A)) := ⟨k, sk, owned, use, hasKey, inRange, free, rfl⟩
    have far : s.FarLeg c B t none none none := by
      rw [State.FarLeg, service]
      exact ⟨rfl, rfl, rfl, given⟩
    have taken := answer_taken (tag := tag) hs named control found alerting own far (fun _ none => absurd rfl none)
    obtain ⟨one, two, queued, places⟩ : ∃ one two queued, (one, two, queued) = if s.jobs.length ≤ 30 then
        (true, true, s.jobs ++ [.epoch sk 0 k .outbound stamp, .epoch sk 0 k .inbound stamp])
      else if s.jobs.length = 31 then (true, false, s.jobs ++ [.epoch sk 0 k .outbound stamp])
      else (false, false, s.jobs) := ⟨_, _, _, rfl⟩
    have opened := serviceOpened (t := t) inRange found' service hk hasKey one two queued places
    refine ⟨_, .offeredAtOpen s.params A.toNat sk one two, taken, ?_⟩
    generalize answerOpened c t (some (s.openingFor k c.a sk A)) none s = v at opened ⊢
    obtain ⟨x, stands, talking⟩ := opened.talks
    have jobs : (evaluateCalls v).jobs = queued := by rw [evaluateCalls_frame, opened.kept]
    have status : (evaluateCalls v).call c.ref = some (v.evaluateCall x) := by rw [call_evaluateCalls, stands, Option.map_some]
    refine ⟨?_, fun l other => ?_, ?_, fun d other => ?_, rfl, rfl, rfl, rfl, rfl, rfl, rfl, rfl, rfl, fun d => ?_,
      fun two => ?_, fun one => ?_, fun full => ?_, fun y hy => ?_, ?_, ?_⟩
    · rw [leg_evaluateCalls, opened.leg, if_pos rfl]
    · rw [leg_evaluateCalls, opened.leg, if_neg other.symm]
    · rw [routing_evaluateCalls, opened.routing, if_pos rfl]
    · rw [routing_evaluateCalls, opened.routing, if_neg other.symm]
    · cases d <;> exact ⟨rfl, rfl, rfl⟩
    · rw [if_pos (by omega)] at places
      simp only [Prod.mk.injEq] at places
      obtain ⟨rfl, rfl, rfl⟩ := places
      exact ⟨jobs, fun d => by cases d <;> exact ⟨rfl, rfl⟩⟩
    · rw [if_neg (by omega), if_pos one] at places
      simp only [Prod.mk.injEq] at places
      obtain ⟨rfl, rfl, rfl⟩ := places
      exact ⟨jobs, rfl, rfl, rfl⟩
    · rw [if_neg (by omega), if_neg (by omega)] at places
      simp only [Prod.mk.injEq] at places
      obtain ⟨rfl, rfl, rfl⟩ := places
      exact ⟨jobs, fun d => by cases d <;> exact ⟨rfl, rfl⟩⟩
    · rw [status, Option.some.injEq] at hy
      rw [← hy, evaluateCall_eq]
      exact talking
    · rw [status]
      rfl
    · rw [evaluateCalls_frame, opened.kept]
      exact ⟨rfl, rfl, rfl, rfl, rfl, rfl, rfl, rfl⟩
  · intro s j tag A B call t c pa pb loser released hs named control unique found alerting own far apart opened
    have found' : s.call c.ref = some c := (mem_of_call found).2 ▸ found
    have settled := far.settled unique (mem_of_call found).1
    have all := answer_opens own far found' unique apart
    refine ⟨answerOpened c t pa pb s, answer_taken hs named control found alerting own far apart, ?_⟩
    change OpensAll opened _ _ at all
    generalize answerOpened c t pa pb s = v at all ⊢
    generalize settleBSide c (s.bPlan c) (pushed c t s) = u at all settled
    have jobs : u.jobs = s.jobs := by rw [settled.fields]
    have queue : u.jobs.length = s.jobs.length := congrArg List.length jobs
    have params : u.params = s.params := by rw [settled.fields]
    have length : opened.length ≤ 2 := by
      cases pa <;> cases pb <;> simp [opened]
    have fields : v = { u with legs := v.legs, channelTable := v.channelTable, jobs := v.jobs } := all.fields
    have directory : v.directory = u.directory := by rw [fields]
    refine ⟨?_, fun l => ?_, fun l other => ?_, fun d other => ?_, fun p hp => ?_, fun room => ?_, fun full => ?_⟩
    · rw [directory]
      exact fields.trans (congrArg (fun w : State => { w with
        legs := v.legs
        channelTable := v.channelTable
        jobs := v.jobs }) settled.fields)
    · exact (congrArg (fun x => readAt x Entry.vacant l) directory).trans (settled.entry l)
    · exact (all.leg_ne l other).trans (settled.leg l fun x hx => other x (by simp [opened, hx]))
    · refine (all.routing_ne d other).trans ?_
      rw [settled.fields]
      rfl
    · obtain ⟨o, leg, fresh, placed, marked⟩ := all.leg p hp
      rw [settled.stamp] at leg
      rw [params] at fresh
      exact ⟨all.routing p hp, o, leg, fresh, fun room => placed (by omega), fun full => marked (by omega)⟩
    · rw [all.queued (by omega), jobs]
    · rw [all.full (by omega), jobs]
  · intro refused
    have by_take : ∀ {st}, takeAnswer call channelA channelB t s = (s, .now st []) → refused st := fun h => request_answered hs h
    refine ⟨fun wrong => by_take (if_pos ?_), fun named givenA givenB => ⟨fun mode => by_take ?_, fun mode noCall => by_take ?_,
      fun c mode found => ⟨fun talking => by_take ?_, fun b alerting party => ?_, fun alerting => ?_⟩⟩⟩
    · have outOfRange : ∀ x : Byte, ¬ ChannelOrNone x → 127 < (channelOf x).getD 0 := fun x outside => by
        obtain ⟨high, one⟩ := not_or.mp outside
        rw [channelOf, if_neg one]
        exact Nat.not_le.mp high
      exact wrong.imp_right (Or.imp (outOfRange _) (outOfRange _))
    · rw [takeAnswer, if_neg (by
        rintro (h | h | h)
        exacts [named h, channelOf_inRange givenA h, channelOf_inRange givenB h]), if_pos mode, refuse_eq]
    · rw [takeAnswer, if_neg (by
        rintro (h | h | h)
        exacts [named h, channelOf_inRange givenA h, channelOf_inRange givenB h]), if_neg mode, noCall] <;> rfl
    · rw [takeAnswer_of_found named givenA givenB mode found, if_pos (by simp [talking]), refuse_eq]
    · have reaches : AnswerReaches s call channelA channelB c := ⟨named, givenA, givenB, mode, found, alerting⟩
      refine ⟨fun out => by_take (reaches.refused_callee ?_), fun admitted full => by_take (reaches.refused_callee ?_)⟩
      · rw [party, calleeRefusal_of_extension]
        exact if_pos out
      · rw [party, calleeRefusal_of_extension]
        exact (if_neg (by simp [admitted])).trans (if_pos full)
    · have reaches : AnswerReaches s call channelA channelB c := ⟨named, givenA, givenB, mode, found, alerting⟩
      refine ⟨?_, ?_, ?_, ?_⟩
      · rintro channel pa own ⟨p, loser, released, far⟩
        have opens : (s.bPlan c).opens = some p.leg := far.fits.opens
        exact ⟨fun lacks => by_take (reaches.refused_far_lacking far.callee opens lacks),
          fun one used => by_take (reaches.refused_far_inUse far.callee own.fits opens one used)⟩
      · intro pb loser released m far owned use
        have opens : (s.ownPlan c.a).opens = some m := by rw [ownPlan_of_reserved owned use, LegPlan.opens]
        exact ⟨fun lacks => by_take (reaches.refused_own_lacking far.callee opens lacks),
          fun one used => by_take (reaches.refused_own_inUse far.callee far.fits opens one used)⟩
      · intro pb loser released m w o far owned use other
        exact by_take (reaches.refused_own_mismatch far.callee far.fits (ownPlan_of_opened owned use) other)
      · intro pa b m w o own party admitted room owned use other
        have plan : s.bPlan c = .already m o.channel := by
          rw [bPlan_of_extension party, calleePlan_of_owned owned, ownPlan_of_opened owned use]
        refine by_take (reaches.refused_far_mismatch ?_ own.fits plan other)
        rw [party, calleeRefusal_of_extension]
        exact (if_neg (by simp [admitted])).trans (if_neg (Nat.not_le.mpr room))

end Sys2Proof.Machine
end
